-- ==== Sys2Proof/Word.lean ====
section
/-! DEFINITION. The unit every serial port carries: one byte, and the 16-bit register of the frame check (R157). -/

namespace Sys2Proof

/-- One byte of a frame (R157). -/
abbrev Byte := BitVec 8

/-- A 16-bit field: the CRC register (R157), an incident number, a change number (R61). -/
abbrev Word16 := BitVec 16

end Sys2Proof
end

