-- ==== Sys2Proof/Syntax.lean ====
section
/-! DEFINITION. The names of the installation (halls, banks, manifolds, lines, ports; 00_scope 7.1) and
the commands: one constructor of `Instr` for each row of spec/opcode_table.json. -/

namespace Sys2Proof

/-- Server halls H1 to H6 (00_scope 7.1). -/
inductive HallId where
  | h1 | h2 | h3 | h4 | h5 | h6
  deriving DecidableEq, Repr

/-- Cylinder banks B1 to B8 (R1). -/
inductive BankId where
  | b1 | b2 | b3 | b4 | b5 | b6 | b7 | b8
  deriving DecidableEq, Repr

/-- Manifold headers M1 and M2 (R12). -/
inductive ManId where
  | m1 | m2
  deriving DecidableEq, Repr

/-- Firing slots 1 and 2 (R117). -/
inductive SlotId where
  | s1 | s2
  deriving DecidableEq, Repr

/-- A drive line or a return line of the contact matrix, 0 to 7 (R144). -/
inductive Line where
  | l0 | l1 | l2 | l3 | l4 | l5 | l6 | l7
  deriving DecidableEq, Repr

/-- A serial port: hall port Pn of hall Hn, or the station port PS (00_scope 2). -/
inductive Port where
  | hall (h : HallId)
  | station
  deriving DecidableEq, Repr

/-- The commands the block takes, one for each row of spec/opcode_table.json. A request row is the arrival of a whole,
valid frame of that kind: the port it arrives on, its sequence byte and its payload bytes (R157, R159). A row of the
contact matrix or the line supervisor carries what the field shows at that event (the eight return lines, the count
of the charge). A timer row names whose timer it is. -/
inductive Instr where
  | restart
  | declare (p : Port) (seq : Byte) (payload : List Byte)
  | cycle (p : Port) (seq : Byte) (payload : List Byte)
  | readStatus (p : Port) (seq : Byte) (payload : List Byte)
  | readIncident (p : Port) (seq : Byte) (payload : List Byte)
  | readBanks (p : Port) (seq : Byte) (payload : List Byte)
  | readManifolds (p : Port) (seq : Byte) (payload : List Byte)
  | readLink (p : Port) (seq : Byte) (payload : List Byte)
  | readCircuits (p : Port) (seq : Byte) (payload : List Byte)
  | readContacts (p : Port) (seq : Byte) (payload : List Byte)
  | readPlan (p : Port) (seq : Byte) (payload : List Byte)
  | writePlan (p : Port) (seq : Byte) (payload : List Byte)
  | setLock (p : Port) (seq : Byte) (payload : List Byte)
  | isolate (p : Port) (seq : Byte) (payload : List Byte)
  | deisolate (p : Port) (seq : Byte) (payload : List Byte)
  | standDown (p : Port) (seq : Byte) (payload : List Byte)
  | retry (p : Port) (seq : Byte) (payload : List Byte)
  | recharged (p : Port) (seq : Byte) (payload : List Byte)
  | linkStart (p : Port) (seq : Byte) (payload : List Byte)
  | linkStop (p : Port) (seq : Byte) (payload : List Byte)
  /-- A valid frame whose kind byte is not a request kind (R160, check 2). -/
  | unknownKind (p : Port) (kind : Byte) (seq : Byte) (payload : List Byte)
  | frameBadCrc (p : Port)
  | frameOverlength (p : Port)
  | frameGap (p : Port)
  | responseEnd (p : Port)
  | silenceTimerExpiry (h : HallId)
  | countdownExpiry (h : HallId)
  | budgetOverride (h : HallId)
  | waitLimitElapsing (h : HallId)
  | selectorTimeout (m : ManId)
  | flowTimeout (m : ManId)
  | dischargePeriodExpiry (h : HallId)
  | ventTimerExpiry (m : ManId)
  | pulseEnd (slot : SlotId)
  | spentMarkCompletion
  | storeWriteCompletion
  | measurementInterval
  /-- The charge comparator trips when `count` ticks of the 1 MHz clock have elapsed (R135). -/
  | comparatorTrip (count : Nat)
  | counterPasses4095
  /-- Bit r of `sample` is set when return line r reads closed at the end of the dwell (R145). -/
  | driveDwellEnd (sample : BitVec 8)
  | darkDwellEnd (sample : BitVec 8)
  | byteReceived (p : Port) (b : Byte)
  deriving DecidableEq, Repr

/-- The hall number 1 to 6. -/
def HallId.num : HallId → Nat
  | .h1 => 1 | .h2 => 2 | .h3 => 3 | .h4 => 4 | .h5 => 5 | .h6 => 6

/-- The bank number 1 to 8. -/
def BankId.num : BankId → Nat
  | .b1 => 1 | .b2 => 2 | .b3 => 3 | .b4 => 4 | .b5 => 5 | .b6 => 6 | .b7 => 7 | .b8 => 8

/-- The manifold number 1 or 2. -/
def ManId.num : ManId → Nat
  | .m1 => 1 | .m2 => 2

/-- The line number 0 to 7. -/
def Line.num : Line → Nat
  | .l0 => 0 | .l1 => 1 | .l2 => 2 | .l3 => 3 | .l4 => 4 | .l5 => 5 | .l6 => 6 | .l7 => 7

/-- H1 to H6 in ascending number. -/
def HallId.all : List HallId := [.h1, .h2, .h3, .h4, .h5, .h6]

/-- B1 to B8 in ascending number. -/
def BankId.all : List BankId := [.b1, .b2, .b3, .b4, .b5, .b6, .b7, .b8]

/-- M1, M2. -/
def ManId.all : List ManId := [.m1, .m2]

/-- Lines 0 to 7. -/
def Line.all : List Line := [.l0, .l1, .l2, .l3, .l4, .l5, .l6, .l7]

/-- P1 to P6 and PS. -/
def Port.all : List Port :=
  [.hall .h1, .hall .h2, .hall .h3, .hall .h4, .hall .h5, .hall .h6, .station]

end Sys2Proof
end

