-- ==== Sys2Proof/Config.lean ====
section
/-! DEFINITION. What the part fixes (the figures the rules state once) and the one free value: the order in which
events that arrive together are taken, which the manual leaves open (00_scope 7.3). -/

namespace Sys2Proof

/-- The sync byte of a frame (R157). -/
def Config.syncByte : Byte := 0xA5

/-- The largest payload length of a frame (R157). -/
def Config.maxPayload : Nat := 120

/-- The inter-byte gap limit in milliseconds (R158). -/
def Config.gapLimitMs : Nat := 20

/-- The length of an initiator pulse in milliseconds (R119). -/
def Config.pulseMs : Nat := 500

/-- The most zones an incident latches and the most a panel declares (R43, R164). -/
def Config.maxZones : Nat := 16

/-- The measurement counter's last value (R135). -/
def Config.counterMax : Nat := 4095

/-- Consecutive readings or frames that make a change (R137, R146, R151). -/
def Config.confirmations : Nat := 3

/-- The value at which the confirmation counter stays (R50). -/
def Config.counterSaturation : Nat := 4294967295

/-- The value at which the incident clock and the wait clock stay (R41, R70). -/
def Config.clockSaturation : Nat := 65535

/-- FREE VALUE (log entry 3). Of several events that arrive together the manual does not say which is taken first
(00_scope 7.3, R147). The n-th open choice takes the event at position `freeChoice n`, counted modulo the number of
events still waiting. Nothing constrains it. -/
opaque Config.freeChoice : Nat → Nat

end Sys2Proof
end

