-- ==== Sys2Proof/WellFormed.lean ====
section
/-! DEFINITION. Which commands can arise: what the frame layer can carry (R157) and what the measurement counter can
show (R135). `exec` is total on the others as well. -/

namespace Sys2Proof

/-- The kind bytes of R172's requests. -/
def requestKindCodes : List Byte :=
  [0x01, 0x02, 0x10, 0x11, 0x12, 0x13, 0x14, 0x15, 0x16, 0x17,
   0x20, 0x21, 0x22, 0x23, 0x24, 0x25, 0x26, 0x27, 0x28]

/-- A payload a frame can carry: 0 to 120 bytes (R157). -/
def payloadFits (payload : List Byte) : Bool := decide (payload.length ≤ Config.maxPayload)

/-- A command that can arise. -/
def Instr.wellFormed : Instr → Bool
  | .restart => true
  | .declare _ _ payload => payloadFits payload
  | .cycle _ _ payload => payloadFits payload
  | .readStatus _ _ payload => payloadFits payload
  | .readIncident _ _ payload => payloadFits payload
  | .readBanks _ _ payload => payloadFits payload
  | .readManifolds _ _ payload => payloadFits payload
  | .readLink _ _ payload => payloadFits payload
  | .readCircuits _ _ payload => payloadFits payload
  | .readContacts _ _ payload => payloadFits payload
  | .readPlan _ _ payload => payloadFits payload
  | .writePlan _ _ payload => payloadFits payload
  | .setLock _ _ payload => payloadFits payload
  | .isolate _ _ payload => payloadFits payload
  | .deisolate _ _ payload => payloadFits payload
  | .standDown _ _ payload => payloadFits payload
  | .retry _ _ payload => payloadFits payload
  | .recharged _ _ payload => payloadFits payload
  | .linkStart _ _ payload => payloadFits payload
  | .linkStop _ _ payload => payloadFits payload
  | .unknownKind _ kind _ payload => !requestKindCodes.contains kind && payloadFits payload
  | .frameBadCrc _ => true
  | .frameOverlength _ => true
  | .frameGap _ => true
  | .responseEnd _ => true
  | .silenceTimerExpiry _ => true
  | .countdownExpiry _ => true
  | .budgetOverride _ => true
  | .waitLimitElapsing _ => true
  | .selectorTimeout _ => true
  | .flowTimeout _ => true
  | .dischargePeriodExpiry _ => true
  | .ventTimerExpiry _ => true
  | .pulseEnd _ => true
  | .spentMarkCompletion => true
  | .storeWriteCompletion => true
  | .measurementInterval => true
  | .comparatorTrip count => decide (count ≤ Config.counterMax)
  | .counterPasses4095 => true
  | .driveDwellEnd _ => true
  | .darkDwellEnd _ => true
  | .byteReceived _ _ => true

end Sys2Proof
end

