-- ==== Sys2Proof/Decode.lean ====
section
/-! DEFINITION. The decoder of opcode_table.json's words. The table gives no row any bits (every row's "fields" is
empty and none has a fixed pattern), so no word spells a command (log entry 5). The decoding that the manual does
give, of the frames of the ports, is in Machine/Operands.lean and Machine/Ports.lean. -/

namespace Sys2Proof

/-- The command that a word of opcode_table.json spells: none, since no row has bits. -/
def decodeTableWord (_nbits _w : Nat) : Option Instr := none

end Sys2Proof
end

