-- ==== Sys2Proof/Machine/Tables.lean ====
section
/-! DEFINITION. Tables with one entry for each hall, bank, manifold, slot or line: plain structures with a field for
each name, read with `get`, written with `set`, and rewritten entry by entry with `mapId`. -/

namespace Sys2Proof.Machine

/-- One entry for each hall. -/
structure PerHall (α : Type) where
  h1 : α
  h2 : α
  h3 : α
  h4 : α
  h5 : α
  h6 : α
  deriving DecidableEq, Repr

/-- The entry of one hall. -/
def PerHall.get {α : Type} (t : PerHall α) : HallId → α
  | .h1 => t.h1
  | .h2 => t.h2
  | .h3 => t.h3
  | .h4 => t.h4
  | .h5 => t.h5
  | .h6 => t.h6

/-- The table with the entry of one hall replaced. -/
def PerHall.set {α : Type} (t : PerHall α) : HallId → α → PerHall α
  | .h1, v => { t with h1 := v }
  | .h2, v => { t with h2 := v }
  | .h3, v => { t with h3 := v }
  | .h4, v => { t with h4 := v }
  | .h5, v => { t with h5 := v }
  | .h6, v => { t with h6 := v }

/-- The table with every entry rewritten from its name and its old value. -/
def PerHall.mapId {α β : Type} (f : HallId → α → β) (t : PerHall α) : PerHall β :=
  { h1 := f .h1 t.h1, h2 := f .h2 t.h2, h3 := f .h3 t.h3, h4 := f .h4 t.h4, h5 := f .h5 t.h5, h6 := f .h6 t.h6 }

/-- The table with the same entry for each hall. -/
def PerHall.fill {α : Type} (v : α) : PerHall α :=
  { h1 := v, h2 := v, h3 := v, h4 := v, h5 := v, h6 := v }

/-- One entry for each bank. -/
structure PerBank (α : Type) where
  b1 : α
  b2 : α
  b3 : α
  b4 : α
  b5 : α
  b6 : α
  b7 : α
  b8 : α
  deriving DecidableEq, Repr

/-- The entry of one bank. -/
def PerBank.get {α : Type} (t : PerBank α) : BankId → α
  | .b1 => t.b1
  | .b2 => t.b2
  | .b3 => t.b3
  | .b4 => t.b4
  | .b5 => t.b5
  | .b6 => t.b6
  | .b7 => t.b7
  | .b8 => t.b8

/-- The table with the entry of one bank replaced. -/
def PerBank.set {α : Type} (t : PerBank α) : BankId → α → PerBank α
  | .b1, v => { t with b1 := v }
  | .b2, v => { t with b2 := v }
  | .b3, v => { t with b3 := v }
  | .b4, v => { t with b4 := v }
  | .b5, v => { t with b5 := v }
  | .b6, v => { t with b6 := v }
  | .b7, v => { t with b7 := v }
  | .b8, v => { t with b8 := v }

/-- The table with every entry rewritten from its name and its old value. -/
def PerBank.mapId {α β : Type} (f : BankId → α → β) (t : PerBank α) : PerBank β :=
  { b1 := f .b1 t.b1, b2 := f .b2 t.b2, b3 := f .b3 t.b3, b4 := f .b4 t.b4, b5 := f .b5 t.b5, b6 := f .b6 t.b6, b7 := f .b7 t.b7, b8 := f .b8 t.b8 }

/-- The table with the same entry for each bank. -/
def PerBank.fill {α : Type} (v : α) : PerBank α :=
  { b1 := v, b2 := v, b3 := v, b4 := v, b5 := v, b6 := v, b7 := v, b8 := v }

/-- One entry for each manifold. -/
structure PerMan (α : Type) where
  m1 : α
  m2 : α
  deriving DecidableEq, Repr

/-- The entry of one manifold. -/
def PerMan.get {α : Type} (t : PerMan α) : ManId → α
  | .m1 => t.m1
  | .m2 => t.m2

/-- The table with the entry of one manifold replaced. -/
def PerMan.set {α : Type} (t : PerMan α) : ManId → α → PerMan α
  | .m1, v => { t with m1 := v }
  | .m2, v => { t with m2 := v }

/-- The table with every entry rewritten from its name and its old value. -/
def PerMan.mapId {α β : Type} (f : ManId → α → β) (t : PerMan α) : PerMan β :=
  { m1 := f .m1 t.m1, m2 := f .m2 t.m2 }

/-- The table with the same entry for each manifold. -/
def PerMan.fill {α : Type} (v : α) : PerMan α :=
  { m1 := v, m2 := v }

/-- One entry for each firing slot. -/
structure PerSlot (α : Type) where
  s1 : α
  s2 : α
  deriving DecidableEq, Repr

/-- The entry of one firing slot. -/
def PerSlot.get {α : Type} (t : PerSlot α) : SlotId → α
  | .s1 => t.s1
  | .s2 => t.s2

/-- The table with the entry of one firing slot replaced. -/
def PerSlot.set {α : Type} (t : PerSlot α) : SlotId → α → PerSlot α
  | .s1, v => { t with s1 := v }
  | .s2, v => { t with s2 := v }

/-- The table with every entry rewritten from its name and its old value. -/
def PerSlot.mapId {α β : Type} (f : SlotId → α → β) (t : PerSlot α) : PerSlot β :=
  { s1 := f .s1 t.s1, s2 := f .s2 t.s2 }

/-- The table with the same entry for each firing slot. -/
def PerSlot.fill {α : Type} (v : α) : PerSlot α :=
  { s1 := v, s2 := v }

/-- One entry for each line. -/
structure PerLine (α : Type) where
  l0 : α
  l1 : α
  l2 : α
  l3 : α
  l4 : α
  l5 : α
  l6 : α
  l7 : α
  deriving DecidableEq, Repr

/-- The entry of one line. -/
def PerLine.get {α : Type} (t : PerLine α) : Line → α
  | .l0 => t.l0
  | .l1 => t.l1
  | .l2 => t.l2
  | .l3 => t.l3
  | .l4 => t.l4
  | .l5 => t.l5
  | .l6 => t.l6
  | .l7 => t.l7

/-- The table with the entry of one line replaced. -/
def PerLine.set {α : Type} (t : PerLine α) : Line → α → PerLine α
  | .l0, v => { t with l0 := v }
  | .l1, v => { t with l1 := v }
  | .l2, v => { t with l2 := v }
  | .l3, v => { t with l3 := v }
  | .l4, v => { t with l4 := v }
  | .l5, v => { t with l5 := v }
  | .l6, v => { t with l6 := v }
  | .l7, v => { t with l7 := v }

/-- The table with every entry rewritten from its name and its old value. -/
def PerLine.mapId {α β : Type} (f : Line → α → β) (t : PerLine α) : PerLine β :=
  { l0 := f .l0 t.l0, l1 := f .l1 t.l1, l2 := f .l2 t.l2, l3 := f .l3 t.l3, l4 := f .l4 t.l4, l5 := f .l5 t.l5, l6 := f .l6 t.l6, l7 := f .l7 t.l7 }

/-- The table with the same entry for each line. -/
def PerLine.fill {α : Type} (v : α) : PerLine α :=
  { l0 := v, l1 := v, l2 := v, l3 := v, l4 := v, l5 := v, l6 := v, l7 := v }

end Sys2Proof.Machine
end

