-- ==== Sys2Proof/Machine/State.lean ====
section
/-! DEFINITION. The state of the coordinator as plain data: the plan store, the agent store, the hall incidents, the
wait list, the release driver, the circuit records, the contact matrix, the links and the ports; the queue of commands
that wait; and the state right after the restart of a store as delivered (R185). -/

namespace Sys2Proof.Machine

/-! ## Timers (00_scope 7.2, 7.3) -/

/-- A running timer: tenths of a second remaining, and the milliseconds run in the present tenth. -/
structure Timer where
  tenths : Nat
  ms : Nat
  deriving DecidableEq, Repr

/-! ## The plan store (R175) -/

/-- The role of a bank and the reserve selection (R1, R11). -/
inductive Role where
  | main | reserve
  deriving DecidableEq, Repr

/-- The zone confirmation rule of a hall plan (R46, R47). -/
inductive Rule where
  | cross | double
  deriving DecidableEq, Repr

/-- The persistent lock mode (R182). -/
inductive LockMode where
  | openMode | keyed | permanent
  deriving DecidableEq, Repr

/-- The site record. -/
structure SitePlan where
  k1 : Nat
  k2 : Nat
  portMask : PerHall Bool
  silence : Nat
  deriving DecidableEq, Repr

/-- A manifold record (R12). -/
structure ManPlan where
  reach : PerHall Bool
  openLimit : Nat
  shortLimit : Nat
  selectorTimeout : Nat
  flowTimeout : Nat
  ventTime : Nat
  deriving DecidableEq, Repr

/-- A bank record (R1). -/
structure BankPlan where
  manifold : ManId
  role : Role
  cylinders : Nat
  fill : Nat
  openLimit : Nat
  shortLimit : Nat
  deriving DecidableEq, Repr

/-- A hall record (R176). -/
structure HallPlan where
  rule : Rule
  fallback : Bool
  volume : Nat
  design : Nat
  maximum : Nat
  designLow : Int
  designHigh : Int
  autoDelay : Nat
  manualDelay : Nat
  holdLimit : Nat
  restartFloor : Nat
  partialPermitted : Bool
  waitLimit : Nat
  discharge : Nat
  preference : List BankId
  deriving DecidableEq, Repr

/-- The records, isolated flags and lock mode of the store: held once as the working copy that every block reads and
once as the non-volatile content (R175). -/
structure Plan where
  site : SitePlan
  mans : PerMan ManPlan
  banks : PerBank BankPlan
  halls : PerHall HallPlan
  bankIsolated : PerBank Bool
  hallIsolated : PerHall Bool
  lock : LockMode
  deriving DecidableEq, Repr

/-- A plan record with its name and its content, as WRITE_PLAN carries it. -/
inductive PlanEdit where
  | site (r : SitePlan)
  | man (m : ManId) (r : ManPlan)
  | bank (b : BankId) (r : BankPlan)
  | hall (h : HallId) (r : HallPlan)
  deriving DecidableEq, Repr

/-- The writes of R179, each with its target and its new content. -/
inductive StoreWrite where
  | plan (e : PlanEdit)
  | bankIsolated (b : BankId) (v : Bool)
  | hallIsolated (h : HallId) (v : Bool)
  | clearMark (b : BankId)
  | lockMode (m : LockMode)
  | setMark (b : BankId)
  deriving DecidableEq, Repr

/-! ## The agent store (R1, R12) -/

/-- A bank's state; the reserving hall stands in it where it is present (R6 to R9). -/
inductive BankState where
  | ready
  | reserved (h : HallId)
  | firing (h : HallId)
  | spent
  deriving DecidableEq, Repr

/-- A manifold's state; the holding hall stands in it, in every state but FREE (R13 to R16). -/
inductive ManState where
  | free
  | claimed (h : HallId)
  | selecting (h : HallId)
  | charged (h : HallId)
  | venting (h : HallId)
  deriving DecidableEq, Repr

/-- A manifold runs at most one of its selector, flow and vent timers (R107). -/
inductive ManTimer where
  | stopped
  | selector (t : Timer)
  | flow (t : Timer)
  | vent (t : Timer)
  deriving DecidableEq, Repr

/-- The live part of a manifold record (R12) with its timer (R107). -/
structure Manifold where
  state : ManState
  flowConfirmed : Bool
  timer : ManTimer
  deriving DecidableEq, Repr

/-- A selector output and its proven flag (R107). -/
structure Selector where
  energised : Bool
  proven : Bool
  deriving DecidableEq, Repr

/-- A firing slot (R117 to R119); `ms` is the time the pulse still runs. -/
inductive Slot where
  | empty
  | marking (b : BankId)
  | pulsing (b : BankId) (ms : Nat)
  deriving DecidableEq, Repr

/-! ## The circuit records (R130) -/

/-- A release circuit's fixed identity (R130). -/
inductive CircuitId where
  | bank (b : BankId)
  | selector (m : ManId) (h : HallId)
  deriving DecidableEq, Repr

/-- A circuit's condition. -/
inductive Condition where
  | untested | normal | openCircuit | shortCircuit
  deriving DecidableEq, Repr

/-- A reading of a completed measurement (R136), and the kind of a run. -/
inductive Reading where
  | normal | openCircuit | shortCircuit
  deriving DecidableEq, Repr

/-- The last count of a circuit record. -/
inductive LastCount where
  | absent
  | count (t : Nat)
  | over
  deriving DecidableEq, Repr

/-- A run of consecutive readings of one kind. -/
structure Run where
  kind : Reading
  length : Nat
  deriving DecidableEq, Repr

/-- The live part of a circuit record; its limits are the plan's (R130). A run of length 0 is `none`. -/
structure Circuit where
  last : LastCount
  condition : Condition
  run : Option Run
  driven : Bool
  deriving DecidableEq, Repr

/-- A measurement in progress: its circuit, the limits taken at its start and the preset of the counter (R135). -/
structure Measurement where
  circuit : CircuitId
  openLimit : Nat
  shortLimit : Nat
  preset : Nat
  deriving DecidableEq, Repr

/-! ## The hall incidents (R41, R61) -/

/-- The eleven hall states. -/
inductive HallState where
  | quiet | alert | inhibited | waiting | countdown | held | selecting | discharging | soak | discharged | stalled
  deriving DecidableEq, Repr

/-- The cause of a confirmation. -/
inductive Cause where
  | cross | double | fallback | panelManual | localManual
  deriving DecidableEq, Repr

/-- The outcome of a closed incident. -/
inductive Closing where
  | discharged | stalled | stoodDown
  deriving DecidableEq, Repr

/-- Zone groups (R42). -/
inductive ZoneGroup where
  | a | b | manual | advisory
  deriving DecidableEq, Repr

/-- Zone states (R42). -/
inductive ZoneState where
  | normal | prealarm | alarm | fault
  deriving DecidableEq, Repr

/-- A latched zone: id, group at latching, whole seconds from opening (R43). -/
structure Latched where
  zone : Byte
  group : ZoneGroup
  time : Nat
  deriving DecidableEq, Repr

/-- An entry of an allocation list: a bank and its quantity (R61). -/
structure AllocEntry where
  bank : BankId
  quantity : Nat
  deriving DecidableEq, Repr

/-- The ten flags of R62. -/
structure Flags where
  holdOverridden : Bool
  manualOverride : Bool
  isPartial : Bool
  shortfall : Bool
  concHigh : Bool
  countdownSpent : Bool
  noFlow : Bool
  selectorLost : Bool
  lateLockout : Bool
  designShort : Bool
  deriving DecidableEq, Repr

/-- The incident record of R61. The allocated total is the sum of the allocation list (`Incident.total`). -/
structure Incident where
  number : Word16
  isOpen : Bool
  change : Word16
  state : HallState
  cause : Option Cause
  confNumber : Option Nat
  latched : List Latched
  manualSeen : Bool
  tLow : Option Int
  tHigh : Option Int
  required : Option Nat
  alloc : List AllocEntry
  estimate : Option Nat
  countdown : Option Nat
  holdUsed : Nat
  flags : Flags
  closing : Option Closing
  deriving DecidableEq, Repr

/-- The incident clock: whole seconds from the opening, and the milliseconds of the present second (R41). -/
structure IncidentClock where
  secs : Nat
  ms : Nat
  deriving DecidableEq, Repr

/-- A running wait clock: tenths from confirmation, the milliseconds of the present tenth, and whether the wait limit
has elapsed (R70). -/
structure WaitClock where
  tenths : Nat
  ms : Nat
  elapsed : Bool
  deriving DecidableEq, Repr

/-- The part tenth that has run in COUNTDOWN or HELD since the entry or the last jump, in milliseconds, and whether a
whole tenth of the present stay has been counted (R90). -/
structure Stay where
  ms : Nat
  counted : Bool
  deriving DecidableEq, Repr

/-- What is kept for one hall: its record, incident clock, wait clock, the measure of R90 and its discharge timer. -/
structure Hall where
  inc : Incident
  clock : IncidentClock
  wait : Option WaitClock
  stay : Stay
  discharge : Option Timer
  deriving DecidableEq, Repr

/-! ## The contact matrix (R144) -/

/-- One position of the matrix; `true` is closed. -/
structure Contact where
  raw : Bool
  debounced : Bool
  count : Nat
  deriving DecidableEq, Repr

/-- One return line. -/
structure ReturnLine where
  faulted : Bool
  clean : Nat
  deriving DecidableEq, Repr

/-- The dwell in progress. -/
inductive ScanPos where
  | drive (d : Line)
  | dark
  deriving DecidableEq, Repr

/-! ## The links and the ports (R157, R161) -/

/-- Hall link states. -/
inductive LinkState where
  | stopped | awaitingDeclare | running | silent
  deriving DecidableEq, Repr

/-- A declared zone with its held state (R161). -/
structure Zone where
  id : Byte
  group : ZoneGroup
  held : ZoneState
  deriving DecidableEq, Repr

/-- The sticky flags of R167. -/
structure Sticky where
  crcSeen : Bool
  overlengthSeen : Bool
  silenceSeen : Bool
  invalidSeen : Bool
  deriving DecidableEq, Repr

/-- The link record of R161. -/
structure Link where
  state : LinkState
  zones : Option (List Zone)
  hold : Bool
  low : Option Int
  high : Option Int
  silence : Option Timer
  sticky : Sticky
  deriving DecidableEq, Repr

/-- A frame receiver: hunting for a sync byte, or within a frame with the bytes after the sync byte taken so far and
the milliseconds since the last of them (R157, R158). -/
inductive Receiver where
  | hunting
  | inFrame (bytes : List Byte) (gapMs : Nat)
  deriving DecidableEq, Repr

/-- One port: its receiver, and the bytes of the response in transmission (R159). -/
structure PortIo where
  rx : Receiver
  tx : Option (List Byte)
  deriving DecidableEq, Repr

/-! ## The coordinator -/

/-- The whole state. -/
structure State where
  /-- Commands that wait, first in, first out. -/
  pending : List Instr
  /-- Working copies of the plan, the isolated flags and the lock mode (R175). -/
  work : Plan
  /-- Non-volatile plan records, isolated flags and lock mode (R175). -/
  nvPlan : Plan
  /-- Non-volatile spent marks (R175). -/
  nvSpent : PerBank Bool
  overlay : Bool
  write : Option StoreWrite
  markQueue : List BankId
  /-- The bank table's live state field (R1). -/
  banks : PerBank BankState
  /-- The bank initiator outputs, energised or not (R119). -/
  initiators : PerBank Bool
  mans : PerMan Manifold
  selectors : PerMan (PerHall Selector)
  halls : PerHall Hall
  /-- The confirmation counter (R50). -/
  confCounter : Nat
  waitList : List HallId
  /-- The firing queue, oldest first (R115). -/
  queue : List BankId
  slots : PerSlot Slot
  bankCircuits : PerBank Circuit
  /-- A selector circuit is present for each hall in its manifold's reach (R130). -/
  selCircuits : PerMan (PerHall (Option Circuit))
  /-- The rotation position; `none` is before B1 (R132). -/
  position : Option CircuitId
  measuring : Option Measurement
  /-- Contacts by drive line, then return line. -/
  contacts : PerLine (PerLine Contact)
  returns : PerLine ReturnLine
  scan : ScanPos
  links : PerHall Link
  hallPorts : PerHall PortIo
  stationPort : PortIo
  /-- The model's own: how many open choices of order have been made (log entry 3). -/
  freeCount : Nat
  deriving DecidableEq, Repr

/-- Why the machine stops with a fault. It has no constructor: every rule of the manual lets the coordinator go on. -/
inductive Fault where
  deriving DecidableEq, Repr

/-- Why a command is refused. -/
inductive Refusal where
  /-- Raised by `exec`'s arm of a command that has no meaning yet; safe. No arm raises it. -/
  | notModelled (mnemonic : String)
  deriving DecidableEq, Repr

/-! ## A store as delivered, and the state after its restart (R185, R25, R65, R129, R143, R156, R161) -/

/-- The plan of a store as delivered (R185). -/
def Plan.delivered : Plan where
  site := { k1 := 1000, k2 := 0, portMask := PerHall.fill false, silence := 10 }
  mans := PerMan.fill
    { reach := PerHall.fill false, openLimit := 4095, shortLimit := 1, selectorTimeout := 10, flowTimeout := 20,
      ventTime := 60 }
  banks := PerBank.fill
    { manifold := .m1, role := .main, cylinders := 1, fill := 100, openLimit := 4095, shortLimit := 1 }
  halls := PerHall.fill
    { rule := .cross, fallback := false, volume := 100, design := 40, maximum := 40, designLow := 20, designHigh := 20,
      autoDelay := 30, manualDelay := 10, holdLimit := 60, restartFloor := 10, partialPermitted := false,
      waitLimit := 120, discharge := 30, preference := [.b1] }
  bankIsolated := PerBank.fill false
  hallIsolated := PerHall.fill false
  lock := .openMode

/-- No flag set. -/
def Flags.none : Flags :=
  { holdOverridden := false, manualOverride := false, isPartial := false, shortfall := false, concHigh := false,
    countdownSpent := false, noFlow := false, selectorLost := false, lateLockout := false, designShort := false }

/-- The empty record of R64 and R65: incident number 0, closed, QUIET, every optional field absent. -/
def Incident.empty : Incident :=
  { number := 0, isOpen := false, change := 0, state := .quiet, cause := none, confNumber := none, latched := [],
    manualSeen := false, tLow := none, tHigh := none, required := none, alloc := [], estimate := none,
    countdown := none, holdUsed := 0, flags := Flags.none, closing := none }

/-- A hall after a restart (R65, R88, R106, R129). -/
def Hall.restarted : Hall :=
  { inc := Incident.empty, clock := ⟨0, 0⟩, wait := none, stay := ⟨0, false⟩, discharge := none }

/-- A circuit record after a restart, and one that a manifold write adds (R131, R143). -/
def Circuit.fresh : Circuit :=
  { last := .absent, condition := .untested, run := none, driven := false }

/-- A link record with the given state and every other field at its value after a restart (R161). -/
def Link.restarted (st : LinkState) : Link :=
  { state := st, zones := none, hold := false, low := none, high := none, silence := none,
    sticky := ⟨false, false, false, false⟩ }

/-- A port after a restart: its receiver hunts and nothing is sent (R157). -/
def PortIo.restarted : PortIo := { rx := .hunting, tx := none }

/-- The coordinator right after the restart of a store as delivered. -/
def State.reset : State where
  pending := []
  work := Plan.delivered
  nvPlan := Plan.delivered
  nvSpent := PerBank.fill false
  overlay := false
  write := none
  markQueue := []
  banks := PerBank.fill .ready
  initiators := PerBank.fill false
  mans := PerMan.fill { state := .free, flowConfirmed := false, timer := .stopped }
  selectors := PerMan.fill (PerHall.fill { energised := false, proven := false })
  halls := PerHall.fill Hall.restarted
  confCounter := 1
  waitList := []
  queue := []
  slots := PerSlot.fill .empty
  bankCircuits := PerBank.fill Circuit.fresh
  selCircuits := PerMan.fill (PerHall.fill none)
  position := none
  measuring := none
  contacts := PerLine.fill (PerLine.fill { raw := false, debounced := false, count := 0 })
  returns := PerLine.fill { faulted := false, clean := 0 }
  scan := .drive .l0
  links := PerHall.fill (Link.restarted .stopped)
  hallPorts := PerHall.fill PortIo.restarted
  stationPort := PortIo.restarted
  freeCount := 0

end Sys2Proof.Machine
end

