-- ==== Sys2Proof/Machine/Ops.lean ====
section
/-! DEFINITION. The named operations over the coordinator's state: reading and writing the record of one hall, bank,
manifold, circuit, link or port; the contacts as their consumers see them; circuits and selectors energised and
de-energised; timers; writes of the plan store; the firing slots; and the counting of changes of the incident
records (R63). -/

namespace Sys2Proof.Machine

/-! ## Numbers -/

/-- The hall of a number 1 to 6. -/
def hallOfNum : Nat → Option HallId
  | 1 => some .h1 | 2 => some .h2 | 3 => some .h3 | 4 => some .h4 | 5 => some .h5 | 6 => some .h6
  | _ => none

/-- The bank of a number 1 to 8. -/
def bankOfNum : Nat → Option BankId
  | 1 => some .b1 | 2 => some .b2 | 3 => some .b3 | 4 => some .b4
  | 5 => some .b5 | 6 => some .b6 | 7 => some .b7 | 8 => some .b8
  | _ => none

/-- The manifold of a number 1 or 2. -/
def manOfNum : Nat → Option ManId
  | 1 => some .m1 | 2 => some .m2
  | _ => none

/-- The quotient rounded toward plus infinity (R32). -/
def ceilDiv (n d : Nat) : Nat := if n % d = 0 then n / d else n / d + 1

/-! ## Timers (00_scope 7.2) -/

/-- A timer started with a number of tenths. -/
def Timer.start (tenths : Nat) : Timer := ⟨tenths, 0⟩

/-- A timer started with a number of seconds. -/
def Timer.startSeconds (secs : Nat) : Timer := Timer.start (10 * secs)

/-- One millisecond of a running timer. The last tenth is kept until the expiry is taken. -/
def Timer.tick (t : Timer) : Timer :=
  if t.ms + 1 < 100 then { t with ms := t.ms + 1 }
  else if 1 < t.tenths then ⟨t.tenths - 1, 0⟩
  else { t with ms := 100 }

/-- The timer's time has run. -/
def Timer.due (t : Timer) : Bool := decide (t.tenths ≤ 1 ∧ 100 ≤ t.ms)

/-! ## Records of the state -/

/-- The records of one hall. -/
def State.hall (s : State) (h : HallId) : Hall := s.halls.get h

/-- The incident record of one hall. -/
def State.inc (s : State) (h : HallId) : Incident := (s.halls.get h).inc

/-- The state of one hall (R41). -/
def State.hallState (s : State) (h : HallId) : HallState := (s.inc h).state

/-- The plan of one hall, as every block reads it. -/
def State.hallPlan (s : State) (h : HallId) : HallPlan := s.work.halls.get h

/-- The records of one hall rewritten. -/
def State.modHall (s : State) (h : HallId) (f : Hall → Hall) : State :=
  { s with halls := s.halls.set h (f (s.halls.get h)) }

/-- The incident record of one hall rewritten. -/
def State.modInc (s : State) (h : HallId) (f : Incident → Incident) : State :=
  s.modHall h fun x => { x with inc := f x.inc }

/-- The flags of one hall's incident rewritten. -/
def State.modFlags (s : State) (h : HallId) (f : Flags → Flags) : State :=
  s.modInc h fun i => { i with flags := f i.flags }

/-- The sum of an allocation list's quantities (R61). -/
def Incident.total (i : Incident) : Nat := (i.alloc.map AllocEntry.quantity).sum

/-- The state of one bank. -/
def State.bank (s : State) (b : BankId) : BankState := s.banks.get b

/-- The plan of one bank. -/
def State.bankPlan (s : State) (b : BankId) : BankPlan := s.work.banks.get b

/-- The manifold a bank lies on. -/
def State.manifoldOf (s : State) (b : BankId) : ManId := (s.bankPlan b).manifold

/-- The state of one bank replaced. -/
def State.setBank (s : State) (b : BankId) (x : BankState) : State :=
  { s with banks := s.banks.set b x }

/-- A bank's quantity: cylinders times fill per cylinder (R2). -/
def BankPlan.quantity (p : BankPlan) : Nat := p.cylinders * p.fill

/-- The quantity of one bank (R2). -/
def State.quantity (s : State) (b : BankId) : Nat := (s.bankPlan b).quantity

/-- The live record of one manifold. -/
def State.man (s : State) (m : ManId) : Manifold := s.mans.get m

/-- The plan of one manifold. -/
def State.manPlan (s : State) (m : ManId) : ManPlan := s.work.mans.get m

/-- The live record of one manifold rewritten. -/
def State.modMan (s : State) (m : ManId) (f : Manifold → Manifold) : State :=
  { s with mans := s.mans.set m (f (s.mans.get m)) }

/-- The holding hall of a manifold state, absent in FREE (R12). -/
def ManState.holder : ManState → Option HallId
  | .free => none
  | .claimed h => some h
  | .selecting h => some h
  | .charged h => some h
  | .venting h => some h

/-- The hall that holds a manifold. -/
def State.holder (s : State) (m : ManId) : Option HallId := (s.man m).state.holder

/-- A bank's reserving hall, absent in READY and SPENT (R1). -/
def BankState.hall : BankState → Option HallId
  | .reserved h => some h
  | .firing h => some h
  | .ready => none
  | .spent => none

/-- The selector of a manifold for a hall. -/
def State.selector (s : State) (m : ManId) (h : HallId) : Selector := (s.selectors.get m).get h

/-- One selector's record rewritten. -/
def State.modSelector (s : State) (m : ManId) (h : HallId) (f : Selector → Selector) : State :=
  { s with selectors := s.selectors.set m ((s.selectors.get m).set h (f ((s.selectors.get m).get h))) }

/-- The link record of one hall port. -/
def State.link (s : State) (h : HallId) : Link := s.links.get h

/-- One link record rewritten. -/
def State.modLink (s : State) (h : HallId) (f : Link → Link) : State :=
  { s with links := s.links.set h (f (s.links.get h)) }

/-- The receiver and the transmission of a port. -/
def State.port (s : State) : Port → PortIo
  | .hall h => s.hallPorts.get h
  | .station => s.stationPort

/-- The record of one port rewritten. -/
def State.modPort (s : State) (p : Port) (f : PortIo → PortIo) : State :=
  match p with
  | .hall h => { s with hallPorts := s.hallPorts.set h (f (s.hallPorts.get h)) }
  | .station => { s with stationPort := f s.stationPort }

/-! ## Contacts as levels (R144, R148) -/

/-- The drive line that carries the contacts of a hall. -/
def hallLine : HallId → Line
  | .h1 => .l0 | .h2 => .l1 | .h3 => .l2 | .h4 => .l3 | .h5 => .l4 | .h6 => .l5

/-- The return line, on drive line 6, of a bank's low-pressure contact. -/
def bankLine : BankId → Line
  | .b1 => .l0 | .b2 => .l1 | .b3 => .l2 | .b4 => .l3 | .b5 => .l4 | .b6 => .l5 | .b7 => .l6 | .b8 => .l7

/-- One position of the matrix. -/
def State.contact (s : State) (d r : Line) : Contact := (s.contacts.get d).get r

/-- The debounced state of a position is closed. -/
def State.closed (s : State) (d r : Line) : Bool := (s.contact d r).debounced

/-- One position rewritten. -/
def State.modContact (s : State) (d r : Line) (f : Contact → Contact) : State :=
  { s with contacts := s.contacts.set d ((s.contacts.get d).set r (f ((s.contacts.get d).get r))) }

/-- The hall's HOLD contact is closed (R93). -/
def State.holdContact (s : State) (h : HallId) : Bool := s.closed (hallLine h) .l1

/-- The hall's LOCKOUT is in force (R51). -/
def State.lockout (s : State) (h : HallId) : Bool := s.closed (hallLine h) .l2

/-- The hall's isolation is in force (R51). -/
def State.isolated (s : State) (h : HallId) : Bool := s.work.hallIsolated.get h

/-- Isolation or LOCKOUT of the hall is in force (R51). -/
def State.withheld (s : State) (h : HallId) : Bool := s.isolated h || s.lockout h

/-- The bank's low pressure (R5). -/
def State.lowPressure (s : State) (b : BankId) : Bool := s.closed .l6 (bankLine b)

/-- The reserve selection (R11). -/
def State.selection (s : State) : Role := if s.closed .l7 .l2 then .reserve else .main

/-- The COMMISSION key contact is closed (R23, R182). -/
def State.commissionKey (s : State) : Bool := s.closed .l7 .l3

/-- Hold demand of the hall is present (R93). -/
def State.holdDemand (s : State) (h : HallId) : Bool :=
  s.holdContact h || ((s.link h).state == .running && (s.link h).hold)

/-! ## Circuits (R130, R133) -/

/-- The record of a circuit, absent where no such circuit is present. -/
def State.circuit (s : State) : CircuitId → Option Circuit
  | .bank b => some (s.bankCircuits.get b)
  | .selector m h => (s.selCircuits.get m).get h

/-- The record of one circuit rewritten, where it is present. -/
def State.modCircuit (s : State) (c : CircuitId) (f : Circuit → Circuit) : State :=
  match c with
  | .bank b => { s with bankCircuits := s.bankCircuits.set b (f (s.bankCircuits.get b)) }
  | .selector m h =>
    { s with selCircuits := s.selCircuits.set m ((s.selCircuits.get m).set h (((s.selCircuits.get m).get h).map f)) }

/-- NORMAL and UNTESTED count as usable (R4, R18). -/
def Condition.usable : Condition → Bool
  | .untested => true
  | .normal => true
  | .openCircuit => false
  | .shortCircuit => false

/-- The circuit is present and its condition is NORMAL or UNTESTED (R18, conditions 3 and 7). -/
def State.circuitUsable (s : State) (c : CircuitId) : Bool :=
  match s.circuit c with
  | some x => x.condition.usable
  | none => false

/-- The open limit of a circuit, a working copy of the plan (R130). -/
def State.openLimit (s : State) : CircuitId → Nat
  | .bank b => (s.bankPlan b).openLimit
  | .selector m _ => (s.manPlan m).openLimit

/-- The short limit of a circuit, a working copy of the plan (R130). -/
def State.shortLimit (s : State) : CircuitId → Nat
  | .bank b => (s.bankPlan b).shortLimit
  | .selector m _ => (s.manPlan m).shortLimit

/-- The measurement of a circuit, where it is in progress, is abandoned without a reading (R131, R133). -/
def State.abandonMeasurement (s : State) (c : CircuitId) : State :=
  { s with measuring := s.measuring.filter fun x => !(x.circuit == c) }

/-- A circuit's driven mark is set: a measurement of it is abandoned and its run is emptied (R133). -/
def State.markDriven (s : State) (c : CircuitId) : State :=
  (s.abandonMeasurement c).modCircuit c fun x => { x with driven := true, run := none }

/-- A circuit's driven mark is cleared (R133). -/
def State.clearDriven (s : State) (c : CircuitId) : State :=
  s.modCircuit c fun x => { x with driven := false }

/-- The selector of a manifold for a hall is energised, its proven flag cleared (R108). -/
def State.energise (s : State) (m : ManId) (h : HallId) : State :=
  (s.modSelector m h fun _ => { energised := true, proven := false }).markDriven (.selector m h)

/-- The selector of a manifold for a hall is de-energised, its proven flag cleared (R113). -/
def State.deEnergise (s : State) (m : ManId) (h : HallId) : State :=
  (s.modSelector m h fun _ => { energised := false, proven := false }).clearDriven (.selector m h)

/-- A manifold becomes FREE: its holder's selector on it is de-energised and its timer stopped (R15, R16, R113). -/
def State.freeManifold (s : State) (m : ManId) : State :=
  (match s.holder m with
   | some h => s.deEnergise m h
   | none => s).modMan m fun _ => { state := .free, flowConfirmed := false, timer := .stopped }

/-! ## Writes of the plan store (R177 to R180) -/

/-- The plan with one record replaced. -/
def PlanEdit.apply : PlanEdit → Plan → Plan
  | .site r, p => { p with site := r }
  | .man m r, p => { p with mans := p.mans.set m r }
  | .bank b r, p => { p with banks := p.banks.set b r }
  | .hall h r, p => { p with halls := p.halls.set h r }

/-- The plan, flags and lock mode that a write leaves (R179). Writes of spent marks leave them as they were. -/
def StoreWrite.applyPlan : StoreWrite → Plan → Plan
  | .plan e, p => e.apply p
  | .bankIsolated b v, p => { p with bankIsolated := p.bankIsolated.set b v }
  | .hallIsolated h v, p => { p with hallIsolated := p.hallIsolated.set h v }
  | .clearMark _, p => p
  | .lockMode m, p => { p with lock := m }
  | .setMark _, p => p

/-- The spent marks that a write leaves (R179). -/
def StoreWrite.applySpent : StoreWrite → PerBank Bool → PerBank Bool
  | .plan _, t => t
  | .bankIsolated _ _, t => t
  | .hallIsolated _ _, t => t
  | .clearMark b, t => t.set b false
  | .lockMode _, t => t
  | .setMark b, t => t.set b true

/-- A write is in progress or spent marks are waiting (R21, R181). -/
def State.storeBusy (s : State) : Bool := s.write.isSome || !s.markQueue.isEmpty

/-- A write of an accepted edit begins (R177, R179). -/
def State.beginWrite (s : State) (w : StoreWrite) : State := { s with write := some w }

/-- A firing slot requests a spent mark: written at once, or queued behind the write in progress (R118, R180). -/
def State.requestMark (s : State) (b : BankId) : State :=
  match s.write with
  | none => { s with write := some (.setMark b) }
  | some _ => { s with markQueue := s.markQueue ++ [b] }

/-- The write in progress completes: the store holds its content and the next queued mark begins (R179). -/
def State.completeWrite (s : State) : State :=
  match s.write with
  | none => s
  | some w =>
    let done := { s with nvPlan := w.applyPlan s.nvPlan, nvSpent := w.applySpent s.nvSpent }
    match s.markQueue with
    | [] => { done with write := none }
    | b :: rest => { done with write := some (.setMark b), markQueue := rest }

/-! ## The firing slots (R117) -/

/-- The bank in a slot. -/
def Slot.bank : Slot → Option BankId
  | .empty => none
  | .marking b => some b
  | .pulsing b _ => some b

/-- One slot replaced. -/
def State.setSlot (s : State) (i : SlotId) (x : Slot) : State := { s with slots := s.slots.set i x }

/-- The slot that the head of the queue takes: slot 1 where it is EMPTY, else slot 2 where it is EMPTY (R117). -/
def State.freeSlot (s : State) : Option SlotId :=
  if s.slots.get .s1 = .empty then some .s1
  else if s.slots.get .s2 = .empty then some .s2
  else none

/-- The head of the firing queue takes an empty slot, enters MARKING and requests its mark (R117, R118). -/
def State.takeHead (s : State) : State :=
  match s.queue, s.freeSlot with
  | b :: rest, some i => ({ s with queue := rest }.setSlot i (.marking b)).requestMark b
  | _, _ => s

/-- Both slots are offered to the queue (R117). -/
def State.fillSlots (s : State) : State := s.takeHead.takeHead

/-! ## Changes of the incident records (R63) -/

/-- The record's content less its change number. -/
def Incident.content (i : Incident) : Incident := { i with change := 0 }

/-- One hall's change number advances when the event changed any other field of its record. -/
def Hall.countChange (old new : Hall) : Hall :=
  if old.inc.content = new.inc.content then new
  else { new with inc := { new.inc with change := new.inc.change + 1 } }

/-- Every hall's change number advances at most once for the event that leads from `old` to `new` (R63). -/
def State.countChanges (old new : State) : State :=
  { new with halls := new.halls.mapId fun h x => Hall.countChange (old.halls.get h) x }

/-- An effect taken as one event (R63). -/
def State.asEvent (s : State) (f : State → State) : State := State.countChanges s (f s)

/-! ## Open choices of order (log entry 3) -/

/-- The list rearranged by open choices, numbered from `n`: the first `fuel` places are filled by choice. -/
def arrange {α : Type} : Nat → Nat → List α → List α
  | 0, _, l => l
  | fuel + 1, n, l =>
    match l[Config.freeChoice n % l.length]? with
    | none => l
    | some x => x :: arrange fuel (n + 1) (l.eraseIdx (Config.freeChoice n % l.length))

/-- The order in which events that arrive together are taken: the only order of none or one, an open one of more. -/
def orderOf {α : Type} (n : Nat) : List α → List α
  | [] => []
  | [x] => [x]
  | x :: y :: rest => arrange (rest.length + 2) n (x :: y :: rest)

/-- The open choices that a list of events uses up. -/
def State.spendChoices (s : State) (k : Nat) : State := { s with freeCount := s.freeCount + k }

end Sys2Proof.Machine
end

