-- ==== Sys2Proof/Machine/Wire.lean ====
section
/-! DEFINITION. The frame layer's bytes (R157) and the codes of R172: numbers most significant byte first, the CRC,
frames, kind codes, refusal codes and value codes, both ways. -/

namespace Sys2Proof.Machine

/-! ## Numbers as bytes (09 section 9.5) -/

/-- One byte of a number. -/
def byteOf (n : Nat) : Byte := BitVec.ofNat 8 n

/-- A number as two bytes. -/
def bytes2 (n : Nat) : List Byte := [byteOf (n / 256), byteOf n]

/-- A number as three bytes. -/
def bytes3 (n : Nat) : List Byte := [byteOf (n / 65536), byteOf (n / 256), byteOf n]

/-- A number as four bytes. -/
def bytes4 (n : Nat) : List Byte :=
  [byteOf (n / 16777216), byteOf (n / 65536), byteOf (n / 256), byteOf n]

/-- The number of two bytes. -/
def nat2 (hi lo : Byte) : Nat := hi.toNat * 256 + lo.toNat

/-- A temperature as one signed byte. -/
def tempByte (t : Int) : Byte := BitVec.ofInt 8 t

/-- A time or concentration of 2 bytes, 0xFFFF where absent (R172). -/
def optional2 : Option Nat → List Byte
  | some n => bytes2 n
  | none => bytes2 0xFFFF

/-- A mass of 3 bytes, 0xFFFFFF where absent (R172). -/
def optional3 : Option Nat → List Byte
  | some n => bytes3 n
  | none => bytes3 0xFFFFFF

/-- A temperature, -128 where absent (R172). -/
def optionalTemp : Option Int → Byte
  | some t => tempByte t
  | none => tempByte (-128)

/-- One bit of a byte of flags. -/
def bitAt (on : Bool) (place : Nat) : Nat := if on then 2 ^ place else 0

/-- A masked set: bit n - 1 for Hn or Pn (09 section 9.5). -/
def maskByte (t : PerHall Bool) : Byte :=
  byteOf (bitAt t.h1 0 + bitAt t.h2 1 + bitAt t.h3 2 + bitAt t.h4 3 + bitAt t.h5 4 + bitAt t.h6 5)

/-- The set of a mask byte; none when a bit above the six is set. -/
def maskOf (b : Byte) : Option (PerHall Bool) :=
  if b.getLsbD 6 || b.getLsbD 7 then none
  else some
    { h1 := b.getLsbD 0, h2 := b.getLsbD 1, h3 := b.getLsbD 2, h4 := b.getLsbD 3, h5 := b.getLsbD 4, h6 := b.getLsbD 5 }

/-! ## The CRC (R157) -/

/-- One bit step of the generator 0x1021. -/
def crcShift (r : Word16) : Word16 :=
  if r.getLsbD 15 then (r <<< 1) ^^^ 0x1021 else r <<< 1

/-- One byte taken most significant bit first. -/
def crcByte (r : Word16) (b : Byte) : Word16 :=
  let x := r ^^^ ((b.setWidth 16) <<< 8)
  crcShift (crcShift (crcShift (crcShift (crcShift (crcShift (crcShift (crcShift x)))))))

/-- The CRC of a byte string: register from 0xFFFF, result not inverted. -/
def crc (bytes : List Byte) : Word16 := bytes.foldl crcByte 0xFFFF

/-- The two CRC bytes, high byte first. -/
def crcBytes (bytes : List Byte) : List Byte := bytes2 (crc bytes).toNat

/-- The bytes under the CRC: kind, sequence, length, payload. -/
def frameBody (kind seq : Byte) (payload : List Byte) : List Byte :=
  kind :: seq :: byteOf payload.length :: payload

/-- A whole frame (R157). -/
def frameBytes (kind seq : Byte) (payload : List Byte) : List Byte :=
  Config.syncByte :: (frameBody kind seq payload ++ crcBytes (frameBody kind seq payload))

/-! ## Kind codes (R172) -/

/-- The request kinds of R172. -/
inductive Kind where
  | declare | cycle
  | readStatus | readIncident | readBanks | readManifolds | readLink | readCircuits | readContacts | readPlan
  | writePlan | setLock | isolate | deisolate | standDown | retry | recharged | linkStart | linkStop
  deriving DecidableEq, Repr

/-- The code of a request kind. -/
def Kind.code : Kind → Byte
  | .declare => 0x01
  | .cycle => 0x02
  | .readStatus => 0x10
  | .readIncident => 0x11
  | .readBanks => 0x12
  | .readManifolds => 0x13
  | .readLink => 0x14
  | .readCircuits => 0x15
  | .readContacts => 0x16
  | .readPlan => 0x17
  | .writePlan => 0x20
  | .setLock => 0x21
  | .isolate => 0x22
  | .deisolate => 0x23
  | .standDown => 0x24
  | .retry => 0x25
  | .recharged => 0x26
  | .linkStart => 0x27
  | .linkStop => 0x28

/-- The request kinds in the order of R172. -/
def Kind.all : List Kind :=
  [.declare, .cycle, .readStatus, .readIncident, .readBanks, .readManifolds, .readLink, .readCircuits, .readContacts,
   .readPlan, .writePlan, .setLock, .isolate, .deisolate, .standDown, .retry, .recharged, .linkStart, .linkStop]

/-- The request kind of a code, if it is one. -/
def kindOfCode (c : Byte) : Option Kind := Kind.all.find? fun k => k.code == c

/-- The kind byte of an ACCEPTED response. -/
def acceptedCode : Byte := 0xFE

/-- The kind byte of a REFUSED response. -/
def refusedCode : Byte := 0xFF

/-- The kinds permitted on a port (R160, check 3). -/
def Kind.permitted : Kind → Port → Bool
  | .declare, .hall _ => true
  | .declare, .station => false
  | .cycle, .hall _ => true
  | .cycle, .station => false
  | .readIncident, _ => true
  | .readBanks, _ => true
  | _, .station => true
  | _, .hall _ => false

/-- The refusal codes of 00_scope 7.6. -/
inductive RefusalCode where
  | busy | storeBusy | locked | invalid | inUse | tooLate | notPermitted | state | keyRequired | unknownKind
  deriving DecidableEq, Repr

/-- The code of a refusal (R172). -/
def RefusalCode.code : RefusalCode → Byte
  | .busy => 1
  | .storeBusy => 2
  | .locked => 3
  | .invalid => 4
  | .inUse => 5
  | .tooLate => 6
  | .notPermitted => 7
  | .state => 8
  | .keyRequired => 9
  | .unknownKind => 10

/-! ## Value codes (R172) -/

/-- The code of a hall state. -/
def HallState.code : HallState → Byte
  | .quiet => 0 | .alert => 1 | .inhibited => 2 | .waiting => 3 | .countdown => 4 | .held => 5
  | .selecting => 6 | .discharging => 7 | .soak => 8 | .discharged => 9 | .stalled => 10

/-- The code of a bank state. -/
def BankState.code : BankState → Byte
  | .ready => 0
  | .reserved _ => 1
  | .firing _ => 2
  | .spent => 3

/-- The code of a manifold state. -/
def ManState.code : ManState → Byte
  | .free => 0
  | .claimed _ => 1
  | .selecting _ => 2
  | .charged _ => 3
  | .venting _ => 4

/-- The code of a circuit condition. -/
def Condition.code : Condition → Nat
  | .untested => 0
  | .normal => 1
  | .openCircuit => 2
  | .shortCircuit => 3

/-- The code of a run's kind. -/
def Reading.code : Reading → Nat
  | .normal => 1
  | .openCircuit => 2
  | .shortCircuit => 3

/-- The code of a zone group. -/
def ZoneGroup.code : ZoneGroup → Byte
  | .a => 1 | .b => 2 | .manual => 3 | .advisory => 4

/-- The zone group of a code. -/
def zoneGroupOf (c : Byte) : Option ZoneGroup :=
  if c = 1 then some .a else if c = 2 then some .b else if c = 3 then some .manual
  else if c = 4 then some .advisory else none

/-- The code of a zone state. -/
def ZoneState.code : ZoneState → Byte
  | .normal => 0 | .prealarm => 1 | .alarm => 2 | .fault => 3

/-- The zone state of a code. -/
def zoneStateOf (c : Byte) : Option ZoneState :=
  if c = 0 then some .normal else if c = 1 then some .prealarm else if c = 2 then some .alarm
  else if c = 3 then some .fault else none

/-- The code of a cause, 0 where absent. -/
def causeCode : Option Cause → Byte
  | none => 0
  | some .cross => 1
  | some .double => 2
  | some .fallback => 3
  | some .panelManual => 4
  | some .localManual => 5

/-- The code of an outcome, 0 where absent. -/
def closingCode : Option Closing → Byte
  | none => 0
  | some .discharged => 1
  | some .stalled => 2
  | some .stoodDown => 3

/-- The code of a link state. -/
def LinkState.code : LinkState → Byte
  | .stopped => 0 | .awaitingDeclare => 1 | .running => 2 | .silent => 3

/-- The code of a slot's phase. -/
def Slot.phaseCode : Slot → Byte
  | .empty => 0
  | .marking _ => 1
  | .pulsing _ _ => 2

/-- The code of a manifold's running timer. -/
def ManTimer.code : ManTimer → Byte
  | .stopped => 0
  | .selector _ => 1
  | .flow _ => 2
  | .vent _ => 3

/-- The tenths remaining of a manifold's running timer. -/
def ManTimer.remaining : ManTimer → Option Nat
  | .stopped => none
  | .selector t => some t.tenths
  | .flow t => some t.tenths
  | .vent t => some t.tenths

/-- The code of a role or a reserve selection. -/
def Role.code : Role → Byte
  | .main => 0
  | .reserve => 1

/-- The code of a zone rule (R174). -/
def Rule.code : Rule → Byte
  | .cross => 1
  | .double => 2

/-- The code of a persistent lock mode. -/
def LockMode.code : LockMode → Byte
  | .openMode => 0
  | .keyed => 1
  | .permanent => 2

/-- A circuit identity: the bank number, or 16 m + h for the selector of Mm for Hh (R174). -/
def CircuitId.code : CircuitId → Byte
  | .bank b => byteOf b.num
  | .selector m h => byteOf (16 * m.num + h.num)

/-- A hall, bank or manifold number, 0 where absent (R172). -/
def hallNumOpt : Option HallId → Byte
  | some h => byteOf h.num
  | none => 0

/-- A bank number, 0 where absent (R172). -/
def bankNumOpt : Option BankId → Byte
  | some b => byteOf b.num
  | none => 0

end Sys2Proof.Machine
end

