-- ==== Sys2Proof/Machine/Flags.lean ====
section
/-! DEFINITION. Every flag the manual gives: the ten incident flags set (R62) and packed (R172), the sticky flags of a
link (R167), and the packed bits of the reports (R173, R174). -/

namespace Sys2Proof.Machine

/-! ## The incident flags (R62): each setter sets one flag of one hall's record -/

/-- HOLD_OVERRIDDEN is set (R98). -/
def State.setHoldOverridden (s : State) (h : HallId) : State := s.modFlags h fun f => { f with holdOverridden := true }

/-- MANUAL_OVERRIDE is set (R99). -/
def State.setManualOverride (s : State) (h : HallId) : State := s.modFlags h fun f => { f with manualOverride := true }

/-- PARTIAL is set (R69, R85, R102). -/
def State.setPartial (s : State) (h : HallId) : State := s.modFlags h fun f => { f with isPartial := true }

/-- SHORTFALL is set (R84, R85). -/
def State.setShortfall (s : State) (h : HallId) : State := s.modFlags h fun f => { f with shortfall := true }

/-- CONC_HIGH is set (R36). -/
def State.setConcHigh (s : State) (h : HallId) : State := s.modFlags h fun f => { f with concHigh := true }

/-- COUNTDOWN_SPENT is set (R85, R103). -/
def State.setCountdownSpent (s : State) (h : HallId) : State := s.modFlags h fun f => { f with countdownSpent := true }

/-- NO_FLOW is set (R122, R124). -/
def State.setNoFlow (s : State) (h : HallId) : State := s.modFlags h fun f => { f with noFlow := true }

/-- SELECTOR_LOST is set (R112). -/
def State.setSelectorLost (s : State) (h : HallId) : State := s.modFlags h fun f => { f with selectorLost := true }

/-- LATE_LOCKOUT is set (R51). -/
def State.setLateLockout (s : State) (h : HallId) : State := s.modFlags h fun f => { f with lateLockout := true }

/-- The sixteen flag bits of an incident record (R172). -/
def Flags.bits (f : Flags) : Nat :=
  bitAt f.holdOverridden 0 + bitAt f.manualOverride 1 + bitAt f.isPartial 2 + bitAt f.shortfall 3 +
  bitAt f.concHigh 4 + bitAt f.countdownSpent 5 + bitAt f.noFlow 6 + bitAt f.selectorLost 7 +
  bitAt f.lateLockout 8 + bitAt f.designShort 9

/-! ## The sticky flags (R167) -/

/-- CRC_SEEN is set, on a hall port (R158). -/
def State.setCrcSeen (s : State) : Port → State
  | .hall h => s.modLink h fun l => { l with sticky := { l.sticky with crcSeen := true } }
  | .station => s

/-- OVERLENGTH_SEEN is set, on a hall port (R158). -/
def State.setOverlengthSeen (s : State) : Port → State
  | .hall h => s.modLink h fun l => { l with sticky := { l.sticky with overlengthSeen := true } }
  | .station => s

/-- INVALID_SEEN is set, on a hall port (R167). -/
def State.setInvalidSeen (s : State) : Port → State
  | .hall h => s.modLink h fun l => { l with sticky := { l.sticky with invalidSeen := true } }
  | .station => s

/-- The eight bits of the sticky flags (R172). -/
def Sticky.bits (t : Sticky) : Nat :=
  bitAt t.crcSeen 0 + bitAt t.overlengthSeen 1 + bitAt t.silenceSeen 2 + bitAt t.invalidSeen 3

/-! ## Packed bits of the reports -/

/-- The record bits of a READ_INCIDENT reply (R173). -/
def Incident.recordBits (i : Incident) : Nat := bitAt i.isOpen 0 + bitAt i.manualSeen 1

/-- The bank bits of a READ_BANKS reply (R173). -/
def State.bankBits (s : State) (b : BankId) : Nat :=
  bitAt ((s.bankPlan b).manifold == .m2) 0 + bitAt ((s.bankPlan b).role == .reserve) 1 +
  bitAt (s.work.bankIsolated.get b) 2 + bitAt (s.lowPressure b) 3

/-- The hall bits of a READ_STATUS reply (R174). -/
def State.hallBits (s : State) (h : HallId) : Nat :=
  bitAt (s.holdDemand h) 0 + bitAt (s.isolated h) 1 + bitAt (s.lockout h) 2

/-- The bits of a READ_MANIFOLDS reply: flow confirmed, the holder's selector energised, and proven (R174). -/
def State.manifoldBits (s : State) (m : ManId) : Nat :=
  bitAt (s.man m).flowConfirmed 0 +
  match s.holder m with
  | some h => bitAt (s.selector m h).energised 1 + bitAt (s.selector m h).proven 2
  | none => 0

/-- The circuit bits of a READ_CIRCUITS reply: condition, run kind, run length, driven, skipped as SPENT (R174). -/
def State.circuitBits (s : State) (c : CircuitId) (x : Circuit) : Nat :=
  x.condition.code +
  (match x.run with
   | some r => 4 * r.kind.code + 16 * r.length
   | none => 0) +
  bitAt x.driven 6 +
  bitAt (match c with
    | .bank b => s.bank b == .spent
    | .selector _ _ => false) 7

/-- The bits of one contact in a READ_CONTACTS reply (R174). -/
def Contact.bits (c : Contact) : Nat := bitAt c.raw 0 + bitAt c.debounced 1 + 4 * c.count

/-- The bits of one return line in a READ_CONTACTS reply (R174). -/
def ReturnLine.bits (r : ReturnLine) : Nat := bitAt r.faulted 0 + 2 * r.clean

/-- The persistent byte of a bank in a READ_PLAN reply: spent mark and isolated as the working copy holds them
(R174, R184). -/
def State.bankPersistent (s : State) (b : BankId) : Nat :=
  bitAt (s.bank b == .spent) 0 + bitAt (s.work.bankIsolated.get b) 1

/-- The persistent byte of a hall in a READ_PLAN reply (R174). -/
def State.hallPersistent (s : State) (h : HallId) : Nat := bitAt (s.work.hallIsolated.get h) 1

end Sys2Proof.Machine
end

