-- ==== Sys2Proof/Machine/Operands.lean ====
section
/-! DEFINITION. The operand forms of the requests: each payload of R173 and R174 read into a request, or refused as
malformed (R160 check 5, R164, R165, R171), and the plan records read and validated (R176). -/

namespace Sys2Proof.Machine

/-! ## The requests and what they carry -/

/-- A lock setting of SET_LOCK (R172). -/
inductive LockSetting where
  | mode (m : LockMode)
  | overlay
  deriving DecidableEq, Repr

/-- The target of ISOLATE and DEISOLATE (R172). -/
inductive Target where
  | hall (h : HallId)
  | bank (b : BankId)
  deriving DecidableEq, Repr

/-- The part of READ_CIRCUITS (R171). -/
inductive CircuitPart where
  | bank | selector
  deriving DecidableEq, Repr

/-- A plan record's kind and number (R171). -/
inductive RecordName where
  | site
  | man (m : ManId)
  | bank (b : BankId)
  | hall (h : HallId)
  deriving DecidableEq, Repr

/-- The record kinds of R172. -/
inductive RecordKind where
  | site | man | bank | hall
  deriving DecidableEq, Repr

/-- A request whose payload has the form of its kind. -/
inductive Request where
  | declare (zones : List Zone)
  | cycle (states : List ZoneState) (hold : Bool) (low high : Option Int)
  | readStatus
  | readIncident (h : HallId)
  | readBanks
  | readManifolds
  | readLink (h : HallId)
  | readCircuits (part : CircuitPart)
  | readContacts
  | readPlan (name : RecordName)
  | writePlan (kind : RecordKind) (number : Byte) (body : List Byte)
  | setLock (setting : LockSetting)
  | isolate (target : Target)
  | deisolate (target : Target)
  | standDown (h : HallId)
  | retry (h : HallId)
  | recharged (b : BankId)
  | linkStart (ports : PerHall Bool)
  | linkStop (ports : PerHall Bool)
  deriving DecidableEq, Repr

/-! ## Fields -/

/-- A byte that must be 0 or 1. -/
def boolOf (b : Byte) : Option Bool :=
  if b = 0 then some false else if b = 1 then some true else none

/-- The record kind of a code. -/
def recordKindOf (b : Byte) : Option RecordKind :=
  if b = 1 then some .site else if b = 2 then some .man else if b = 3 then some .bank
  else if b = 4 then some .hall else none

/-- The record that a kind and a number name (R171). -/
def recordName : RecordKind → Nat → Option RecordName
  | .site, n => if n = 1 then some .site else none
  | .man, n => (manOfNum n).map .man
  | .bank, n => (bankOfNum n).map .bank
  | .hall, n => (hallOfNum n).map .hall

/-- The target of an isolation (R21, check 1). -/
def targetOf (kind number : Byte) : Option Target :=
  if kind = 1 then (hallOfNum number.toNat).map .hall
  else if kind = 2 then (bankOfNum number.toNat).map .bank
  else none

/-- The lock setting of a code (R183). -/
def lockSettingOf (b : Byte) : Option LockSetting :=
  if b = 0 then some (.mode .openMode) else if b = 1 then some (.mode .keyed)
  else if b = 2 then some (.mode .permanent) else if b = 3 then some .overlay else none

/-- The circuit part of a code. -/
def circuitPartOf (b : Byte) : Option CircuitPart :=
  if b = 1 then some .bank else if b = 2 then some .selector else none

/-- A port mask of LINK_START and LINK_STOP: not 0, no bit above the six (R162). -/
def portMaskOf (b : Byte) : Option (PerHall Bool) := if b = 0 then none else maskOf b

/-- A reported temperature: `some none` is the not-available code -128; outside -40 to +85 it is refused (R29, R165). -/
def reportedTemp (b : Byte) : Option (Option Int) :=
  if b.toInt = -128 then some none
  else if -40 ≤ b.toInt ∧ b.toInt ≤ 85 then some (some b.toInt)
  else none

/-- The zone states of a CYCLE. -/
def zoneStatesOf : List Byte → Option (List ZoneState)
  | [] => some []
  | b :: rest =>
    match zoneStateOf b, zoneStatesOf rest with
    | some z, some zs => some (z :: zs)
    | _, _ => none

/-- The entries of a DECLARE, ended by a single zero id that is the last byte (R164). -/
def zoneEntriesOf : List Byte → Option (List Zone)
  | [] => none
  | [id] => if id = 0 then some [] else none
  | id :: group :: rest =>
    if id = 0 then none
    else
      match zoneGroupOf group, zoneEntriesOf rest with
      | some g, some zs => some ({ id := id, group := g, held := .normal } :: zs)
      | _, _ => none

/-- No id stands twice. -/
def distinctIds : List Zone → Bool
  | [] => true
  | z :: rest => rest.all (fun y => !(y.id == z.id)) && distinctIds rest

/-- The well-formed list of a DECLARE (R164). -/
def declarationOf (payload : List Byte) : Option (List Zone) :=
  match zoneEntriesOf payload with
  | some zs => if 1 ≤ zs.length ∧ zs.length ≤ Config.maxZones ∧ distinctIds zs = true then some zs else none
  | none => none

/-- The last three bytes of a CYCLE: hold request, reported low, reported high. -/
def cycleTail (states : List ZoneState) : List Byte → Option Request
  | [hold, low, high] =>
    match boolOf hold, reportedTemp low, reportedTemp high with
    | some d, some l, some g => some (.cycle states d l g)
    | _, _, _ => none
  | _ => none

/-- A CYCLE of `declared` zones (R165). -/
def cycleOf (declared : Nat) (payload : List Byte) : Option Request :=
  if payload.length = declared + 3 then
    match zoneStatesOf (payload.take declared) with
    | some zs => cycleTail zs (payload.drop declared)
    | none => none
  else none

/-- The record body of a WRITE_PLAN has the length of its kind, and a hall's preference count is 1 to 8 and agrees
(R174). -/
def planBodyFits : RecordKind → List Byte → Bool
  | .site, body => body.length == 6
  | .man, body => body.length == 9
  | .bank, body => body.length == 9
  | .hall, body =>
    match body[19]? with
    | some p => decide (1 ≤ p.toNat ∧ p.toNat ≤ 8 ∧ body.length = 20 + p.toNat)
    | none => false

/-- The request that a payload of a kind carries on a port whose link has `declared` zones; none where it is refused
INVALID (R160, check 5). -/
def requestOf (declared : Nat) : Kind → List Byte → Option Request
  | .declare, payload => (declarationOf payload).map .declare
  | .cycle, payload => cycleOf declared payload
  | .readStatus, [] => some .readStatus
  | .readIncident, [h] => (hallOfNum h.toNat).map .readIncident
  | .readBanks, [] => some .readBanks
  | .readManifolds, [] => some .readManifolds
  | .readLink, [h] => (hallOfNum h.toNat).map .readLink
  | .readCircuits, [part] => (circuitPartOf part).map .readCircuits
  | .readContacts, [] => some .readContacts
  | .readPlan, [kind, number] => ((recordKindOf kind).bind fun k => recordName k number.toNat).map .readPlan
  | .writePlan, kind :: number :: body =>
    match recordKindOf kind with
    | some k => if planBodyFits k body then some (.writePlan k number body) else none
    | none => none
  | .setLock, [setting] => (lockSettingOf setting).map .setLock
  | .isolate, [kind, number] => (targetOf kind number).map .isolate
  | .deisolate, [kind, number] => (targetOf kind number).map .deisolate
  | .standDown, [h] => (hallOfNum h.toNat).map .standDown
  | .retry, [h] => (hallOfNum h.toNat).map .retry
  | .recharged, [b] => (bankOfNum b.toNat).map .recharged
  | .linkStart, [mask] => (portMaskOf mask).map .linkStart
  | .linkStop, [mask] => (portMaskOf mask).map .linkStop
  | _, _ => none

/-! ## Plan records (R174, R176) -/

/-- Limits in their ranges: open 16 to 4095, short 1 to open - 1. -/
def limitsValid (openLimit shortLimit : Nat) : Bool :=
  decide (16 ≤ openLimit ∧ openLimit ≤ 4095 ∧ 1 ≤ shortLimit ∧ shortLimit ≤ openLimit - 1)

/-- A number in its range. -/
def within (lo n hi : Nat) : Bool := decide (lo ≤ n ∧ n ≤ hi)

/-- The specific volume at T: k1 + floor(k2 T / 100) (R31). -/
def specificVolumeInt (k1 k2 : Nat) (t : Int) : Int := (k1 : Int) + ((k2 : Int) * t) / 100

/-- A valid site record (R28, R176). -/
def SitePlan.valid (r : SitePlan) : Bool :=
  within 1000 r.k1 9999 && within 0 r.k2 9999 && decide (900 ≤ specificVolumeInt r.k1 r.k2 (-10)) &&
  within 5 r.silence 50

/-- A valid manifold record (R176). -/
def ManPlan.valid (r : ManPlan) : Bool :=
  limitsValid r.openLimit r.shortLimit && within 1 r.selectorTimeout 30 && within 1 r.flowTimeout 60 &&
  within 5 r.ventTime 300

/-- A valid bank record (R176). -/
def BankPlan.valid (r : BankPlan) : Bool :=
  within 1 r.cylinders 16 && within 100 r.fill 2000 && limitsValid r.openLimit r.shortLimit

/-- No bank stands twice in a preference list. -/
def distinctBanks : List BankId → Bool
  | [] => true
  | b :: rest => !rest.contains b && distinctBanks rest

/-- A valid hall record (R176). -/
def HallPlan.valid (r : HallPlan) : Bool :=
  within 100 r.volume 65535 && within 40 r.design 150 && within r.design r.maximum 300 &&
  decide (-10 ≤ r.designLow ∧ r.designLow ≤ r.designHigh ∧ r.designHigh ≤ 50) &&
  within 0 r.autoDelay 120 && within 0 r.manualDelay 60 && within 0 r.holdLimit 600 && within 0 r.restartFloor 30 &&
  within 10 r.waitLimit 600 && within 10 r.discharge 120 &&
  within 1 r.preference.length 8 && distinctBanks r.preference

/-- The content of a valid record, or none. -/
def checked {α : Type} (valid : α → Bool) (r : α) : Option α := if valid r then some r else none

/-- A site record from its bytes. -/
def siteOf : List Byte → Option SitePlan
  | [k1h, k1l, k2h, k2l, mask, silence] =>
    (maskOf mask).bind fun ports =>
      checked SitePlan.valid { k1 := nat2 k1h k1l, k2 := nat2 k2h k2l, portMask := ports, silence := silence.toNat }
  | _ => none

/-- A manifold record from its bytes. -/
def manPlanOf : List Byte → Option ManPlan
  | [reach, oh, ol, sh, sl, selTimeout, flowTimeout, vh, vl] =>
    (maskOf reach).bind fun halls =>
      checked ManPlan.valid
        { reach := halls, openLimit := nat2 oh ol, shortLimit := nat2 sh sl, selectorTimeout := selTimeout.toNat,
          flowTimeout := flowTimeout.toNat, ventTime := nat2 vh vl }
  | _ => none

/-- The role of a code. -/
def roleOf (b : Byte) : Option Role :=
  if b = 0 then some .main else if b = 1 then some .reserve else none

/-- A bank record from its bytes. -/
def bankPlanOf : List Byte → Option BankPlan
  | [man, role, cylinders, fh, fl, oh, ol, sh, sl] =>
    (manOfNum man.toNat).bind fun m =>
      (roleOf role).bind fun r =>
        checked BankPlan.valid
          { manifold := m, role := r, cylinders := cylinders.toNat, fill := nat2 fh fl, openLimit := nat2 oh ol,
            shortLimit := nat2 sh sl }
  | _ => none

/-- The banks of a preference list from their bytes. -/
def banksOf : List Byte → Option (List BankId)
  | [] => some []
  | x :: rest =>
    match bankOfNum x.toNat, banksOf rest with
    | some b, some bs => some (b :: bs)
    | _, _ => none

/-- The rule of a code (R174). -/
def ruleOf (b : Byte) : Option Rule :=
  if b = 1 then some .cross else if b = 2 then some .double else none

/-- A hall record from its bytes. -/
def hallPlanOf : List Byte → Option HallPlan
  | rule :: fallback :: vh :: vl :: ch :: cl :: mh :: ml :: lo :: hi :: auto :: manual :: hh :: hl :: floor :: part ::
      wh :: wl :: discharge :: _count :: banks =>
    match ruleOf rule, boolOf fallback, boolOf part, banksOf banks with
    | some r, some f, some p, some bs =>
      checked HallPlan.valid
        { rule := r, fallback := f, volume := nat2 vh vl, design := nat2 ch cl, maximum := nat2 mh ml,
          designLow := lo.toInt, designHigh := hi.toInt, autoDelay := auto.toNat, manualDelay := manual.toNat,
          holdLimit := nat2 hh hl, restartFloor := floor.toNat, partialPermitted := p, waitLimit := nat2 wh wl,
          discharge := discharge.toNat, preference := bs }
    | _, _, _, _ => none
  | _ => none

/-- The valid record that a WRITE_PLAN carries, or none where it is refused INVALID (R176). -/
def planEditOf (kind : RecordKind) (number : Byte) (body : List Byte) : Option PlanEdit :=
  (recordName kind number.toNat).bind fun name =>
    match name with
    | .site => (siteOf body).map .site
    | .man m => (manPlanOf body).map (.man m)
    | .bank b => (bankPlanOf body).map (.bank b)
    | .hall h => (hallPlanOf body).map (.hall h)

end Sys2Proof.Machine
end

