-- ==== Sys2Proof/Machine/Calculator.lean ====
section
/-! DEFINITION. Chapter 2, required agent quantity: the temperatures (R30), the specific volume (R31), the required
quantity (R32), the estimated concentration (R34), and what each computation records (R33, R35 to R37). -/

namespace Sys2Proof.Machine

/-- The specific volume used as a divisor and a factor (R31); never negative with a site record of R28. -/
def specificVolume (k1 k2 : Nat) (t : Int) : Nat := (specificVolumeInt k1 k2 t).toNat

/-- The required quantity: the ceiling of V 100000 C over s (1000 - C) (R32). -/
def requiredQuantity (volume design sv : Nat) : Nat :=
  ceilDiv (volume * 100000 * design) (sv * (1000 - design))

/-- The estimated concentration: the ceiling of 1000 A s over V 100000 + A s, capped at 999 (R34). -/
def estimatedConcentration (volume allocated sv : Nat) : Nat :=
  min 999 (ceilDiv (1000 * (allocated * sv)) (volume * 100000 + allocated * sv))

/-- A value replaced by the nearer end of -10 to +50 where it lies outside (R30). -/
def clampTemp (t : Int) : Int := max (-10) (min 50 t)

/-- The reported low temperature that the calculator may use: held, and the link RUNNING (R29). -/
def State.usableLow (s : State) (h : HallId) : Option Int :=
  if (s.link h).state = .running then (s.link h).low else none

/-- The reported high temperature that the calculator may use (R29). -/
def State.usableHigh (s : State) (h : HallId) : Option Int :=
  if (s.link h).state = .running then (s.link h).high else none

/-- T_low: the lower of the reported low and the design low, clamped; the design low where none is reported (R30). -/
def State.chooseLow (s : State) (h : HallId) : Int :=
  match s.usableLow h with
  | some t => clampTemp (min t (s.hallPlan h).designLow)
  | none => (s.hallPlan h).designLow

/-- T_high: the higher of the reported high and the design high, clamped; the design high where none is reported
(R30). -/
def State.chooseHigh (s : State) (h : HallId) : Int :=
  match s.usableHigh h with
  | some t => clampTemp (max t (s.hallPlan h).designHigh)
  | none => (s.hallPlan h).designHigh

/-- The specific volume at a temperature with the site record in use (R31). -/
def State.volumeAt (s : State) (t : Int) : Nat := specificVolume s.work.site.k1 s.work.site.k2 t

/-- The required quantity of a hall at this event (R32). -/
def State.computeRequired (s : State) (h : HallId) : Nat :=
  requiredQuantity (s.hallPlan h).volume (s.hallPlan h).design (s.volumeAt (s.chooseLow h))

/-- What the hall's preference list could ever deliver: the quantities of its banks that are not SPENT (R37). -/
def State.unspentPreference (s : State) (h : HallId) : Nat :=
  (((s.hallPlan h).preference.filter fun b => !(s.bank b == .spent)).map s.quantity).sum

/-- The computation of R26 recorded: T_low, T_high and the required quantity replace earlier ones (R30, R33), and
DESIGN_SHORT is set where the required quantity exceeds the unspent preference banks (R37). -/
def State.recordComputation (s : State) (h : HallId) : State :=
  s.modInc h fun i =>
    { i with
      tLow := some (s.chooseLow h)
      tHigh := some (s.chooseHigh h)
      required := some (s.computeRequired h)
      flags :=
        { i.flags with
          designShort := i.flags.designShort || decide (s.unspentPreference h < s.computeRequired h) } }

/-- The T_high recorded at the hall's last computation (R35); absent before one, where the design high stands. -/
def State.recordedHigh (s : State) (h : HallId) : Int :=
  (s.inc h).tHigh.getD (s.hallPlan h).designHigh

/-- The required quantity recorded at the hall's last computation (R83, R102); absent before one, where it reads 0. -/
def State.recordedRequired (s : State) (h : HallId) : Nat := (s.inc h).required.getD 0

/-- The estimate for the hall's present allocation (R34, R35). -/
def State.computeEstimate (s : State) (h : HallId) : Nat :=
  estimatedConcentration (s.hallPlan h).volume (s.inc h).total (s.volumeAt (s.recordedHigh h))

/-- The estimate recorded after a change of the allocation list: absent for an empty list, else recorded, with
CONC_HIGH set where it exceeds the hall's maximum (R35, R36). -/
def State.recordEstimate (s : State) (h : HallId) : State :=
  if (s.inc h).alloc.isEmpty then s.modInc h fun i => { i with estimate := none }
  else
    let recorded := s.modInc h fun i => { i with estimate := some (s.computeEstimate h) }
    if (s.hallPlan h).maximum < s.computeEstimate h then recorded.setConcHigh h else recorded

end Sys2Proof.Machine
end

