-- ==== Sys2Proof/Machine/Entering.lean ====
section
/-! DEFINITION. The entries of a hall to COUNTDOWN, HELD, SELECTING and DISCHARGING, with what each entry does to the
countdown measure (R90, R91, R95), the selectors and manifolds (R55, R108, R14) and the banks and the firing queue
(R8, R56, R116). -/

namespace Sys2Proof.Machine

/-! ## The measure of a stay (R90) -/

/-- The measure of time starts anew: at an entry to COUNTDOWN or HELD and at each jump of countdown remaining (R90). -/
def Hall.restartStay (x : Hall) : Hall := { x with stay := ⟨0, false⟩ }

/-- What a stay in HELD still adds to hold used when it ends: a part tenth counts as a whole one, and every stay costs
at least one tenth (R90, R147). -/
def Stay.owed (t : Stay) : Nat := if 0 < t.ms ∨ t.counted = false then 1 else 0

/-- A stay in HELD ends: hold used takes its part tenth (R90). In any other state nothing is owed. -/
def State.leaveHeld (s : State) (h : HallId) : State :=
  if s.hallState h = .held then
    s.modHall h fun x => { x with inc := { x.inc with holdUsed := x.inc.holdUsed + x.stay.owed } }
  else s

/-! ## HELD (R95) -/

/-- The conditions of R95: neither override is set and hold used is below the hold limit in tenths. -/
def State.mayHold (s : State) (h : HallId) : Bool :=
  !(s.inc h).flags.manualOverride && !(s.inc h).flags.holdOverridden &&
  decide ((s.inc h).holdUsed < 10 * (s.hallPlan h).holdLimit)

/-- The hall enters HELD: countdown remaining keeps its value, the measure starts anew (R95). -/
def State.enterHeld (s : State) (h : HallId) : State :=
  s.modHall h fun x => { x with inc := { x.inc with state := .held } }.restartStay

/-- The hall returns to COUNTDOWN with the given tenths remaining, which run from this event (R97 to R99). -/
def State.resumeCountdown (s : State) (h : HallId) (remaining : Nat) : State :=
  s.modHall h fun x =>
    { x with inc := { x.inc with state := .countdown, countdown := some remaining } }.restartStay

/-! ## SELECTING (R55, R108) -/

/-- A manifold CLAIMED by the hall becomes SELECTING, its selector is energised and its selector timer starts (R14,
R108). Any other manifold stays as it is. -/
def State.selectOn (s : State) (h : HallId) (m : ManId) : State :=
  if (s.man m).state = .claimed h then
    (s.energise m h).modMan m fun x =>
      { x with state := .selecting h, timer := .selector (Timer.startSeconds (s.manPlan m).selectorTimeout) }
  else s

/-- The hall enters SELECTING (R55). -/
def State.enterSelecting (s : State) (h : HallId) : State :=
  ((s.modInc h fun i => { i with state := .selecting, countdown := none }).selectOn h .m1).selectOn h .m2

/-! ## DISCHARGING (R56, R111, R116) -/

/-- A bank of the hall's allocation list that is RESERVED to the hall becomes FIRING (R8). -/
def BankState.fire (h : HallId) (mine : Bool) (x : BankState) : BankState :=
  if mine = true ∧ x = .reserved h then .firing h else x

/-- The banks of a hall's allocation list, in allocation order. -/
def Incident.allocBanks (i : Incident) : List BankId := i.alloc.map AllocEntry.bank

/-- The hall enters DISCHARGING: its banks become FIRING and join the tail of the firing queue in allocation order,
and empty slots are offered to the queue (R8, R56, R116, R117). -/
def State.enterDischarging (s : State) (h : HallId) : State :=
  let joining := (s.inc h).allocBanks.filter fun b => s.bank b == .reserved h
  ({ (s.modInc h fun i => { i with state := .discharging }) with
      banks := s.banks.mapId fun b (x : BankState) => x.fire h (joining.contains b)
      queue := s.queue ++ joining }).fillSlots

/-- Every selector of the hall on the manifolds it holds has proven (R111). -/
def State.allProven (s : State) (h : HallId) : Bool :=
  ManId.all.all fun m => !(s.holder m == some h) || (s.selector m h).proven

/-! ## COUNTDOWN (R91, R92) -/

/-- The larger of the automatic and the manual delay, in seconds. -/
def HallPlan.longerDelay (p : HallPlan) : Nat := max p.autoDelay p.manualDelay

/-- The cause is a manual one. -/
def manualCause : Option Cause → Bool
  | some .localManual => true
  | some .panelManual => true
  | _ => false

/-- The delay at a countdown's start, in seconds (R91). -/
def State.startDelay (s : State) (h : HallId) : Nat :=
  let i := s.inc h
  if i.flags.concHigh then (s.hallPlan h).longerDelay
  else if manualCause i.cause || i.manualSeen then (s.hallPlan h).manualDelay
  else (s.hallPlan h).autoDelay

/-- The delay that a manual release shortens the countdown to, in seconds (R99). -/
def State.manualReleaseDelay (s : State) (h : HallId) : Nat :=
  if (s.inc h).flags.concHigh then (s.hallPlan h).longerDelay else (s.hallPlan h).manualDelay

/-- A countdown starts at a successful attempt (R91). With a delay of 0 it expires at this event and passes the test of
R102, since the attempt left the required quantity or PARTIAL (R68, R69), so the hall enters SELECTING (R92; log entry
17). With hold demand present it goes on to HELD where R95 allows. -/
def State.startCountdown (s : State) (h : HallId) : State :=
  if s.startDelay h = 0 then s.enterSelecting h
  else
    let started := s.resumeCountdown h (10 * s.startDelay h)
    if started.holdDemand h && started.mayHold h then started.enterHeld h else started

end Sys2Proof.Machine
end

