-- ==== Sys2Proof/Machine/Allocation.lean ====
section
/-! DEFINITION. Eligibility and available quantity (R18, R20) and chapter 4: ranking (R71), the walk of a preference
list (R67), attempts (R66 to R69), the wait list (R75 to R77), re-examination (R80), withdrawal and replacement (R82 to
R85), and the return of reservations (R87). -/

namespace Sys2Proof.Machine

/-! ## Eligibility (R18, R20) -/

/-- A manifold is FREE or held by the hall (R18, condition 8). -/
def ManState.openTo (h : HallId) : ManState → Bool
  | .free => true
  | x => x.holder == some h

/-- The bank is eligible for the hall at this moment (R18). -/
def State.eligible (s : State) (h : HallId) (b : BankId) : Bool :=
  s.bank b == .ready &&
  !(s.work.bankIsolated.get b) &&
  s.circuitUsable (.bank b) &&
  !(s.lowPressure b) &&
  (s.bankPlan b).role == s.selection &&
  (s.manPlan (s.manifoldOf b)).reach.get h &&
  s.circuitUsable (.selector (s.manifoldOf b) h) &&
  (s.man (s.manifoldOf b)).state.openTo h

/-- The available quantity for a hall (R20). -/
def State.available (s : State) (h : HallId) : Nat :=
  ((BankId.all.filter fun b => s.eligible h b).map s.quantity).sum

/-! ## Ranking and the wait list (R71, R75 to R77) -/

/-- The hall's confirmation number; an unconfirmed hall has no rank and is never compared (R71). -/
def State.rankNumber (s : State) (h : HallId) : Nat := (s.inc h).confNumber.getD 0

/-- Hall g ranks before hall h (R71). -/
def State.ranksBefore (s : State) (g h : HallId) : Bool :=
  decide (s.rankNumber g < s.rankNumber h ∨ (s.rankNumber g = s.rankNumber h ∧ g.num < h.num))

/-- A hall put at the place of its rank. -/
def insertAt (before : HallId → Bool) (h : HallId) : List HallId → List HallId
  | [] => [h]
  | g :: rest => if before g then g :: insertAt before h rest else h :: g :: rest

/-- The hall is entered in the wait list at the position of its rank, once (R75, R76). -/
def State.joinWaitList (s : State) (h : HallId) : State :=
  if s.waitList.contains h then s
  else { s with waitList := insertAt (fun g => s.ranksBefore g h) h s.waitList }

/-- The hall's entry is removed from the wait list (R77). -/
def State.leaveWaitList (s : State) (h : HallId) : State :=
  { s with waitList := s.waitList.filter fun g => !(g == h) }

/-- The hall enters WAITING and the wait list at one event (R53, R76). -/
def State.enterWaiting (s : State) (h : HallId) : State :=
  (s.modInc h fun i => { i with state := .waiting, countdown := none }).joinWaitList h

/-- The hall's preference list. -/
def State.preference (s : State) (h : HallId) : List BankId := (s.hallPlan h).preference

/-- The banks protected from a hall in a single attempt and in a replacement: the preference lists of the waiting
halls that rank before it (R73, R83). -/
def State.protectedFrom (s : State) (h : HallId) : List BankId :=
  (s.waitList.filter fun g => s.ranksBefore g h).flatMap s.preference

/-! ## The walk (R67) -/

/-- The banks a walk takes: each bank that may be taken, until the cumulative figure reaches the target. -/
def walk (may : BankId → Bool) (quantity : BankId → Nat) (target : Nat) : Nat → List BankId → List BankId
  | _, [] => []
  | cum, b :: rest =>
    if target ≤ cum then []
    else if may b then b :: walk may quantity target (cum + quantity b) rest
    else walk may quantity target cum rest

/-- The sum of the quantities of banks taken. -/
def State.sumOf (s : State) (banks : List BankId) : Nat := (banks.map s.quantity).sum

/-- The entries of an allocation list for banks taken: each bank with its quantity (R68). -/
def State.entriesFor (s : State) (banks : List BankId) : List AllocEntry :=
  banks.map fun b => { bank := b, quantity := s.quantity b }

/-- A bank taken becomes RESERVED to the hall (R6). -/
def BankState.reserve (h : HallId) (taken : Bool) (x : BankState) : BankState :=
  if taken = true then .reserved h else x

/-- A FREE manifold of a bank taken becomes CLAIMED by the hall; another stays as it is (R13). -/
def Manifold.claim (h : HallId) (taken : Bool) (x : Manifold) : Manifold :=
  if taken = true ∧ x.state = .free then { x with state := .claimed h } else x

/-- Banks taken for a hall are reserved, and the FREE manifolds they lie on are claimed (R6, R13, R68). -/
def State.reserveAll (s : State) (h : HallId) (taken : List BankId) : State :=
  { s with
    banks := s.banks.mapId fun b (x : BankState) => x.reserve h (taken.contains b)
    mans := s.mans.mapId fun m (x : Manifold) => x.claim h (taken.any fun b => s.manifoldOf b == m) }

/-! ## Attempts (R66 to R69) -/

/-- The hall's attempts are made in partial mode (R69). -/
def State.partialMode (s : State) (h : HallId) : Bool :=
  (s.hallPlan h).partialPermitted &&
  match (s.hall h).wait with
  | some w => w.elapsed
  | none => false

/-- The banks an attempt takes with a protected set (R67). -/
def State.attemptTakes (s : State) (h : HallId) (guarded : List BankId) : List BankId :=
  walk (fun b => s.eligible h b && !guarded.contains b) s.quantity (s.computeRequired h) 0 (s.preference h)

/-- The attempt succeeds with the banks taken: the required quantity is met, or in partial mode at least one bank was
taken (R67, R69). -/
def State.attemptSucceeds (s : State) (h : HallId) (taken : List BankId) : Bool :=
  decide (s.computeRequired h ≤ s.sumOf taken) || (s.partialMode h && !taken.isEmpty)

/-- A successful attempt committed (R68): reservations, claims, allocation list, estimate, PARTIAL, the wait list. -/
def State.commitAttempt (s : State) (h : HallId) (taken : List BankId) : State :=
  let committed :=
    (((s.reserveAll h taken).modInc h fun i => { i with alloc := s.entriesFor taken }).recordEstimate h).leaveWaitList h
  if s.sumOf taken < s.computeRequired h then committed.setPartial h else committed

/-- The state that a successful attempt leads to: SELECTING with COUNTDOWN_SPENT set, else COUNTDOWN (R54). -/
def State.afterSuccess (s : State) (h : HallId) : State :=
  if (s.inc h).flags.countdownSpent then s.enterSelecting h else s.startCountdown h

/-- One allocation attempt with a protected set: the computation is recorded either way; a success is committed and
sets the hall's state (R66 to R69). Answers whether it succeeded. -/
def State.attempt (s : State) (h : HallId) (guarded : List BankId) : State × Bool :=
  let taken := s.attemptTakes h guarded
  if s.attemptSucceeds h taken then (((s.recordComputation h).commitAttempt h taken).afterSuccess h, true)
  else (s.recordComputation h, false)

/-- A single attempt, protected against the waiting halls that rank before; a failure enters WAITING (R53, R73). -/
def State.singleAttempt (s : State) (h : HallId) : State :=
  let r := s.attempt h (s.protectedFrom h)
  if r.2 then r.1 else r.1.enterWaiting h

/-! ## Re-examination (R72, R80) -/

/-- The walk over the wait list as it stood at the start, with the protected set of the halls that failed (R72). -/
def State.walkHalls : List HallId → List BankId → State → State
  | [], _, s => s
  | h :: rest, guarded, s =>
    let r := s.attempt h guarded
    State.walkHalls rest (if r.2 then guarded else guarded ++ s.preference h) r.1

/-- One re-examination of the wait list (R80). -/
def State.reexamine (s : State) : State := State.walkHalls s.waitList [] s

/-! ## Return of reservations (R87) -/

/-- A bank RESERVED to the hall and in its allocation list returns to READY (R7, R87). -/
def BankState.giveBack (h : HallId) (listed : Bool) (x : BankState) : BankState :=
  if listed = true ∧ x = .reserved h then .ready else x

/-- A manifold that the hall holds in CLAIMED or SELECTING becomes FREE (R16, R87). -/
def State.releaseManifold (s : State) (h : HallId) (m : ManId) : State :=
  if (s.man m).state = .claimed h ∨ (s.man m).state = .selecting h then s.freeManifold m else s

/-- Steps 1 to 4 of R87: the hall's RESERVED banks return to READY and leave its list, its estimate becomes absent with
the list empty, and its CLAIMED and SELECTING manifolds become FREE. -/
def State.returnAll (s : State) (h : HallId) : State :=
  let i := s.inc h
  let kept := i.alloc.filter fun e => !(s.bank e.bank == .reserved h)
  let returned :=
    { s with banks := s.banks.mapId fun b (x : BankState) => x.giveBack h (i.allocBanks.contains b) }.modInc h fun i =>
      { i with alloc := kept, estimate := if kept.isEmpty then none else i.estimate }
  (returned.releaseManifold h .m1).releaseManifold h .m2

/-! ## Withdrawal and replacement (R82 to R85) -/

/-- The bank is RESERVED. -/
def BankState.isReserved : BankState → Bool
  | .reserved _ => true
  | .ready => false
  | .firing _ => false
  | .spent => false

/-- Step 1 of R82: the unfit banks of the hall return to READY and leave its list. -/
def State.dropUnfit (s : State) (h : HallId) (unfit : List BankId) : State :=
  { s with banks := s.banks.mapId fun b (x : BankState) => x.giveBack h (unfit.contains b) }.modInc h fun i =>
    { i with alloc := i.alloc.filter fun e => !unfit.contains e.bank }

/-- The banks a replacement takes: eligible, unprotected, not withdrawn in this event and, in SELECTING, on a manifold
held by the hall, toward the recorded required quantity (R83). -/
def State.replacementTakes (s : State) (h : HallId) (unfit : List BankId) : List BankId :=
  walk
    (fun b =>
      s.eligible h b && !(s.protectedFrom h).contains b && !unfit.contains b &&
      (!(s.hallState h == .selecting) || s.holder (s.manifoldOf b) == some h))
    s.quantity (s.recordedRequired h) (s.inc h).total (s.preference h)

/-- Step 2 of R82: the replacement's banks are reserved and appended to the allocation list (R83). -/
def State.replace (s : State) (h : HallId) (unfit : List BankId) : State :=
  let taken := s.replacementTakes h unfit
  (s.reserveAll h taken).modInc h fun i => { i with alloc := i.alloc ++ s.entriesFor taken }

/-- The hall has a RESERVED bank on the manifold. -/
def State.reservedOn (s : State) (h : HallId) (m : ManId) : Bool :=
  BankId.all.any fun b => s.bank b == .reserved h && s.manifoldOf b == m

/-- Step 3 of R82: a manifold on which the hall is left with no RESERVED bank is released (R16). -/
def State.releaseIfEmpty (s : State) (h : HallId) (m : ManId) : State :=
  if s.reservedOn h m then s else s.releaseManifold h m

/-- Steps 3 and 4 of R82: emptied manifolds are released and the estimate is recomputed (R35). -/
def State.settleAllocation (s : State) (h : HallId) : State :=
  ((s.releaseIfEmpty h .m1).releaseIfEmpty h .m2).recordEstimate h

/-- The allocated total is below the recorded required quantity. -/
def State.falling (s : State) (h : HallId) : Bool := decide ((s.inc h).total < s.recordedRequired h)

/-- The release goes on in SELECTING; where every selector the hall still needs has proven it enters DISCHARGING
(R85). -/
def State.goOn (s : State) (h : HallId) : State :=
  let settled := s.settleAllocation h
  if settled.allProven h then settled.enterDischarging h else settled

/-- The outcome of a withdrawal in SELECTING (R85). -/
def State.shortfallInSelecting (s : State) (h : HallId) : State :=
  if !(s.falling h) then s.goOn h
  else if !(s.inc h).alloc.isEmpty && (s.hallPlan h).partialPermitted then ((s.setShortfall h).setPartial h).goOn h
  else (((s.setShortfall h).setCountdownSpent h).returnAll h).enterWaiting h

/-- The outcome of a withdrawal in COUNTDOWN or HELD (R82, R84). -/
def State.shortfallInCountdown (s : State) (h : HallId) : State :=
  let settled := s.settleAllocation h
  if settled.falling h then settled.setShortfall h else settled

/-- Steps 1 to 5 of R82 for one hall. -/
def State.withdrawHall (unfit : List BankId) (s : State) (h : HallId) : State :=
  let mine := unfit.filter fun b => s.bank b == .reserved h
  let replaced := (s.dropUnfit h mine).replace h mine
  if s.hallState h = .selecting then replaced.shortfallInSelecting h else replaced.shortfallInCountdown h

/-- The halls that have a bank among the unfit ones, in rank order (R82). -/
def State.hallsOf (s : State) (unfit : List BankId) : List HallId :=
  (HallId.all.filter fun h => unfit.any fun b => s.bank b == .reserved h).foldl
    (fun l h => insertAt (fun g => s.ranksBefore g h) h l) []

/-- The withdrawal of the banks that one event makes unfit: each hall in rank order, then one re-examination (R82). -/
def State.withdraw (s : State) (unfit : List BankId) : State :=
  ((s.hallsOf unfit).foldl (State.withdrawHall unfit) s).reexamine

end Sys2Proof.Machine
end

