-- ==== Sys2Proof/Machine/Countdown.lean ====
section
/-! DEFINITION. Chapter 5, countdown and hold: the expiry and its test (R102, R103), the beginning and the end of hold
demand (R95, R97), the budget override (R98), the manual release (R99), and the commands COUNTDOWN_EXPIRY and
BUDGET_OVERRIDE. -/

namespace Sys2Proof.Machine

/-- The countdown remaining of a hall; 0 where absent. -/
def State.remaining (s : State) (h : HallId) : Nat := (s.inc h).countdown.getD 0

/-- The expiry sends the hall back to wait (R103). -/
def State.expireToWaiting (s : State) (h : HallId) : State :=
  (((s.setCountdownSpent h).returnAll h).enterWaiting h).reexamine

/-- The countdown of a hall expires: the allocation is tested against the recorded required quantity (R102). -/
def State.countdownExpires (s : State) (h : HallId) : State :=
  if (s.inc h).alloc.isEmpty then s.expireToWaiting h
  else if !(s.falling h) then s.enterSelecting h
  else if (s.hallPlan h).partialPermitted || (s.inc h).flags.isPartial then (s.setPartial h).enterSelecting h
  else s.expireToWaiting h

/-- COUNTDOWN_EXPIRY of a hall: the hall is in COUNTDOWN and its remaining time has run (R90, R102). -/
def State.takeCountdownExpiry (s : State) (h : HallId) : State :=
  if s.hallState h = .countdown then s.countdownExpires h else s

/-- Hold demand begins: a hall in COUNTDOWN enters HELD where R95 allows; else the demand is ignored (R94, R95). -/
def State.holdBegins (s : State) (h : HallId) : State :=
  if s.hallState h = .countdown ∧ s.mayHold h = true then s.enterHeld h else s

/-- Hold demand ends: a hall in HELD returns to COUNTDOWN with at least the restart floor remaining (R97). -/
def State.holdEnds (s : State) (h : HallId) : State :=
  if s.hallState h = .held then
    (s.leaveHeld h).resumeCountdown h (max (s.remaining h) (10 * (s.hallPlan h).restartFloor))
  else s

/-- An event that left hold demand from `before` to its present value begins or ends it, or neither (R93). -/
def State.demandMoved (s : State) (h : HallId) (before : Bool) : State :=
  if !before && s.holdDemand h then s.holdBegins h
  else if before && !(s.holdDemand h) then s.holdEnds h
  else s

/-- BUDGET_OVERRIDE of a hall: the hall is in HELD and its hold used reaches the hold limit (R98). -/
def State.takeBudgetOverride (s : State) (h : HallId) : State :=
  if s.hallState h = .held then
    ((s.modInc h fun i => { i with holdUsed := 10 * (s.hallPlan h).holdLimit }).setHoldOverridden h).resumeCountdown h
      (s.remaining h)
  else s

/-- Manual seen is set (R45). -/
def State.setManualSeen (s : State) (h : HallId) : State := s.modInc h fun i => { i with manualSeen := true }

/-- The stay that a manual event ends (R99): its part tenth is added by R90. At the instant at which the tenth that
reaches the hold limit has run and the budget override is not yet taken, the manual event is the one taken first of the
two and hold used stops short of the limit: that tenth is not added (R98; log entry 29). -/
def State.leaveHeldByManual (s : State) (h : HallId) : State :=
  if 100 ≤ (s.hall h).stay.ms then s else s.leaveHeld h

/-- A manual event in COUNTDOWN or HELD (R99). -/
def State.manualRelease (s : State) (h : HallId) : State :=
  let remaining := min (s.remaining h) (10 * s.manualReleaseDelay h)
  let released := (((s.setManualSeen h).setManualOverride h).leaveHeldByManual h).resumeCountdown h remaining
  if remaining = 0 then released.countdownExpires h else released

/-- COUNTDOWN_EXPIRY (R102). -/
def execCountdownExpiry (h : HallId) (s : State) : Host.Outcome State Fault Refusal :=
  .next (s.asEvent fun t => t.takeCountdownExpiry h)

/-- BUDGET_OVERRIDE (R98). -/
def execBudgetOverride (h : HallId) (s : State) : Host.Outcome State Fault Refusal :=
  .next (s.asEvent fun t => t.takeBudgetOverride h)

end Sys2Proof.Machine
end

