-- ==== Sys2Proof/Machine/Incidents.lean ====
section
/-! DEFINITION. Chapter 3, hall incidents: opening and latching (R43, R44), the confirmation rules (R46 to R48),
confirmation (R49, R50), manual events (R45), isolation and LOCKOUT (R51, R52), stand-down and retry (R58, R60), and
the command WAIT_LIMIT_ELAPSING (R70). -/

namespace Sys2Proof.Machine

/-! ## Opening and latching (R43, R44) -/

/-- The record at an opening: the incident number advances, the change number stays, everything else is cleared, the
record is open and the hall is in ALERT (R44). -/
def Incident.opened (i : Incident) : Incident :=
  { Incident.empty with number := i.number + 1, change := i.change, isOpen := true, state := .alert }

/-- A new incident of the hall opens and its incident clock starts from 0 (R44). -/
def State.openIncident (s : State) (h : HallId) : State :=
  s.modHall h fun x => { inc := x.inc.opened, clock := ⟨0, 0⟩, wait := none, stay := ⟨0, false⟩, discharge := none }

/-- The declared zones of the hall's link; none without a declaration (R161). -/
def State.zones (s : State) (h : HallId) : List Zone := (s.link h).zones.getD []

/-- The latched zones after a report: each zone in ALARM whose id is not yet latched is appended, while there is room
(R43). -/
def latchInto (time : Nat) : List Latched → List Zone → List Latched
  | l, [] => l
  | l, z :: rest =>
    if z.held = .alarm ∧ l.all (fun e => !(e.zone == z.id)) = true ∧ l.length < Config.maxZones then
      latchInto time (l ++ [{ zone := z.id, group := z.group, time := time }]) rest
    else latchInto time l rest

/-- A zone of group A, B or MANUAL is in ALARM (R44). -/
def opensIncident (zones : List Zone) : Bool :=
  zones.any fun z => z.held == .alarm && !(z.group == .advisory)

/-- An entry of a group is latched. -/
def hasGroup (g : ZoneGroup) (l : List Latched) : Bool := l.any fun e => e.group == g

/-! ## The confirmation rules (R46 to R48) -/

/-- CROSS: an entry of group A and an entry of group B (R46). -/
def crossMet (l : List Latched) : Bool := hasGroup .a l && hasGroup .b l

/-- DOUBLE: two entries whose groups are A or B (R47). -/
def doubleMet (l : List Latched) : Bool :=
  decide (2 ≤ (l.filter fun e => e.group == .a || e.group == .b).length)

/-- A cross group is unavailable: no declared zone of it, or every one held in FAULT (R48). -/
def groupUnavailable (g : ZoneGroup) (zones : List Zone) : Bool :=
  (zones.filter fun z => z.group == g).all fun z => z.held == .fault

/-- FALLBACK: exactly one cross group is unavailable and an entry of the other is latched, while the link holds a
declaration (R48). -/
def fallbackMet (declared : Option (List Zone)) (l : List Latched) : Bool :=
  match declared with
  | none => false
  | some zones =>
    (groupUnavailable .b zones && !groupUnavailable .a zones && hasGroup .a l) ||
    (groupUnavailable .a zones && !groupUnavailable .b zones && hasGroup .b l)

/-- The cause with which the hall's zone alarms confirm, if they do (R46 to R49). -/
def State.zoneCause (s : State) (h : HallId) : Option Cause :=
  match (s.hallPlan h).rule with
  | .double => if doubleMet (s.inc h).latched then some .double else none
  | .cross =>
    if crossMet (s.inc h).latched then some .cross
    else if (s.hallPlan h).fallback && fallbackMet (s.link h).zones (s.inc h).latched then some .fallback
    else none

/-! ## Confirmation (R49, R50) -/

/-- The confirmation counter after a confirmation (R50). -/
def nextConfirmation (n : Nat) : Nat := if n < Config.counterSaturation then n + 1 else n

/-- The hall goes to INHIBITED (R49, R51, R60). -/
def State.enterInhibited (s : State) (h : HallId) : State :=
  s.modInc h fun i => { i with state := .inhibited, countdown := none }

/-- The cause and the confirmation number are recorded, the counter advances and the wait clock starts (R49, R50,
R70). -/
def State.recordConfirmation (s : State) (h : HallId) (cause : Cause) : State :=
  { s.modHall h fun x =>
      { x with
        inc := { x.inc with cause := some cause, confNumber := some s.confCounter }
        wait := some ⟨0, 0, false⟩ } with
    confCounter := nextConfirmation s.confCounter }

/-- The hall's fire is confirmed: with isolation or LOCKOUT in force the computation is recorded and the hall goes to
INHIBITED; otherwise the first attempt, with its computation, decides (R49). -/
def State.confirm (s : State) (h : HallId) (cause : Cause) : State :=
  let numbered := s.recordConfirmation h cause
  if numbered.withheld h then (numbered.recordComputation h).enterInhibited h else numbered.singleAttempt h

/-- The confirmation rules are tested on the hall's open, unconfirmed incident (R49; log entry 28). -/
def State.testConfirmation (s : State) (h : HallId) : State :=
  if s.hallState h = .alert then
    match s.zoneCause h with
    | some cause => s.confirm h cause
    | none => s
  else s

/-! ## Manual events (R45) -/

/-- A manual event of the hall with the cause it would confirm with (R45). -/
def State.manualEvent (s : State) (h : HallId) (cause : Cause) : State :=
  match s.hallState h with
  | .quiet => ((s.openIncident h).setManualSeen h).confirm h cause
  | .alert => (s.setManualSeen h).confirm h cause
  | .countdown => s.manualRelease h
  | .held => s.manualRelease h
  | .inhibited => s.setManualSeen h
  | .waiting => s.setManualSeen h
  | .selecting => s.setManualSeen h
  | .discharging => s.setManualSeen h
  | .soak => s.setManualSeen h
  | .discharged => s.setManualSeen h
  | .stalled => s.setManualSeen h

/-! ## A zone report taken whole (R42 to R49) -/

/-- A QUIET hall opens an incident where a zone of group A, B or MANUAL is in ALARM (R44). -/
def State.openOnAlarm (s : State) (h : HallId) : State :=
  if s.hallState h = .quiet ∧ opensIncident (s.zones h) = true then s.openIncident h else s

/-- The zones in ALARM are latched with the incident clock's time (R43). -/
def State.latchZones (s : State) (h : HallId) : State :=
  s.modInc h fun i => { i with latched := latchInto (s.hall h).clock.secs i.latched (s.zones h) }

/-- A MANUAL zone latches in this report (R45). -/
def State.latchesManual (s : State) (h : HallId) : Bool :=
  hasGroup .manual
    ((latchInto (s.hall h).clock.secs (s.inc h).latched (s.zones h)).drop (s.inc h).latched.length)

/-- The report of an accepted CYCLE, as held in the link record, taken whole: opening, latching, a manual event, and
else the test of the confirmation rules (R42 to R49). -/
def State.takeZones (s : State) (h : HallId) : State :=
  let opened := s.openOnAlarm h
  if opened.hallState h = .quiet then opened
  else if opened.latchesManual h then (opened.latchZones h).manualEvent h .panelManual
  else (opened.latchZones h).testConfirmation h

/-! ## Isolation and LOCKOUT (R51, R52) -/

/-- Isolation or LOCKOUT of the hall comes into force; `late` marks LOCKOUT, which sets LATE_LOCKOUT once release has
begun (R51, R101). -/
def State.withholdBegins (s : State) (h : HallId) (late : Bool) : State :=
  match s.hallState h with
  | .waiting => ((s.leaveWaitList h).enterInhibited h).reexamine
  | .countdown => ((s.returnAll h).enterInhibited h).reexamine
  | .held => (((s.leaveHeld h).returnAll h).enterInhibited h).reexamine
  | .selecting => if late then s.setLateLockout h else s
  | .discharging => if late then s.setLateLockout h else s
  | .soak => if late then s.setLateLockout h else s
  | .quiet => s
  | .alert => s
  | .inhibited => s
  | .discharged => s
  | .stalled => s

/-- Isolation or LOCKOUT of the hall ceases: an INHIBITED hall with neither in force is attempted (R52). -/
def State.withholdEnds (s : State) (h : HallId) : State :=
  if s.hallState h = .inhibited ∧ s.withheld h = false then s.singleAttempt h else s

/-! ## Stand-down and retry (R58, R60) -/

/-- The outcome recorded at a stand-down (R58). -/
def closingOf : HallState → Closing
  | .discharged => .discharged
  | .stalled => .stalled
  | _ => .stoodDown

/-- The record is closed with its outcome, the hall goes to QUIET and its wait clock is cleared (R58, R70). -/
def State.closeIncident (s : State) (h : HallId) : State :=
  s.modHall h fun x =>
    { x with
      inc := { x.inc with closing := some (closingOf x.inc.state), isOpen := false, state := .quiet, countdown := none }
      wait := none
      stay := ⟨0, false⟩ }

/-- An accepted STAND_DOWN (R58): everything is returned, the incident is closed, one re-examination follows. A QUIET
hall is left as it is. -/
def State.standDown (s : State) (h : HallId) : State :=
  if s.hallState h = .quiet then s
  else ((((s.leaveHeld h).leaveWaitList h).returnAll h).closeIncident h).reexamine

/-- An accepted RETRY of a STALLED hall (R60). -/
def State.retry (s : State) (h : HallId) : State :=
  if s.withheld h then s.enterInhibited h else s.singleAttempt h

/-! ## The wait limit (R70) -/

/-- The wait limit of a hall in tenths. -/
def State.waitTenths (s : State) (h : HallId) : Nat := 10 * (s.hallPlan h).waitLimit

/-- WAIT_LIMIT_ELAPSING of a hall: its wait clock reaches the limit, once in an incident; later attempts are made in
partial mode where permitted, and a re-examination follows (R70). -/
def State.takeWaitLimit (s : State) (h : HallId) : State :=
  match (s.hall h).wait with
  | none => s
  | some w =>
    if w.elapsed then s
    else
      (s.modHall h fun x =>
        { x with wait := some { w with tenths := max w.tenths (s.waitTenths h), elapsed := true } }).reexamine

/-- WAIT_LIMIT_ELAPSING (R70). -/
def execWaitLimitElapsing (h : HallId) (s : State) : Host.Outcome State Fault Refusal :=
  .next (s.asEvent fun t => t.takeWaitLimit h)

end Sys2Proof.Machine
end

