-- ==== Sys2Proof/Machine/Release.lean ====
section
/-! DEFINITION. Chapter 6, release execution: proving, losing and timing out selectors (R109 to R113), spent marks and
pulses (R118 to R121), flow (R122), discharge (R123, R124) and vent (R125); and the commands of the Release Driver and of
the plan store's write completions (R179). -/

namespace Sys2Proof.Machine

/-! ## Selectors (R109 to R112) -/

/-- A manifold's selector timer is stopped; another timer runs on (R109). -/
def Manifold.stopSelectorTimer (x : Manifold) : Manifold :=
  match x.timer with
  | .selector _ => { x with timer := .stopped }
  | .stopped => x
  | .flow _ => x
  | .vent _ => x

/-- The proven contact of a manifold's selector for a hall is seen closing: an energised selector that has not proven
proves, and the last one takes the hall to DISCHARGING (R109, R111). -/
def State.provenCloses (s : State) (m : ManId) (h : HallId) : State :=
  if (s.selector m h).energised = true ∧ (s.selector m h).proven = false then
    let proved := (s.modSelector m h fun x => { x with proven := true }).modMan m Manifold.stopSelectorTimer
    if proved.hallState h = .selecting ∧ proved.allProven h = true then proved.enterDischarging h else proved
  else s

/-- The hall whose release a manifold carries, in SELECTING, CHARGED and VENTING (R112). -/
def ManState.releasing : ManState → Option HallId
  | .selecting h => some h
  | .charged h => some h
  | .venting h => some h
  | .free => none
  | .claimed _ => none

/-- The proven contact is seen opening: after proving, SELECTOR_LOST is set in the holding hall's record (R112). -/
def State.provenOpens (s : State) (m : ManId) (h : HallId) : State :=
  if (s.selector m h).energised = true ∧ (s.selector m h).proven = true then
    match (s.man m).state.releasing with
    | some g => s.setSelectorLost g
    | none => s
  else s

/-- The hall is STALLED: its selectors are de-energised, its timers stopped, everything is returned, and one
re-examination follows (R110). -/
def State.stall (s : State) (h : HallId) : State :=
  ((s.returnAll h).modInc h fun i => { i with state := .stalled }).reexamine

/-- SELECTOR_TIMEOUT of a manifold: its selector timer is running and expires (R110). -/
def State.takeSelectorTimeout (s : State) (m : ManId) : State :=
  match (s.man m).state, (s.man m).timer with
  | .selecting h, .selector _ => if s.hallState h = .selecting then s.stall h else s
  | _, _ => s

/-! ## Spent marks and pulses (R117 to R121) -/

/-- The first pulse on a SELECTING manifold makes it CHARGED and starts its flow timer (R121). -/
def State.chargeManifold (s : State) (m : ManId) : State :=
  match (s.man m).state with
  | .selecting h =>
    s.modMan m fun x =>
      { x with state := .charged h, timer := .flow (Timer.startSeconds (s.manPlan m).flowTimeout) }
  | _ => s

/-- The slot in which a bank awaits its mark. -/
def State.markingSlot (s : State) (b : BankId) : Option SlotId :=
  if s.slots.get .s1 = .marking b then some .s1
  else if s.slots.get .s2 = .marking b then some .s2
  else none

/-- A bank's initiator output replaced. -/
def State.setInitiator (s : State) (b : BankId) (on : Bool) : State :=
  { s with initiators := s.initiators.set b on }

/-- A bank whose mark is recorded becomes SPENT and its pulse begins (R9, R118, R119, R121). -/
def State.pulseBegins (s : State) (b : BankId) : State :=
  match s.markingSlot b with
  | none => s
  | some i =>
    ((((s.setSlot i (.pulsing b Config.pulseMs)).setBank b .spent).setInitiator b true).markDriven
      (.bank b)).chargeManifold (s.manifoldOf b)

/-- SPENT_MARK_COMPLETION: the write in progress is of a spent mark and completes (R118, R179). -/
def State.takeMarkCompletion (s : State) : State :=
  match s.write with
  | some (.setMark b) => s.completeWrite.pulseBegins b
  | _ => s

/-- STORE_WRITE_COMPLETION: the write in progress is not of a spent mark and completes (R179). -/
def State.takeWriteCompletion (s : State) : State :=
  match s.write with
  | none => s
  | some (.setMark _) => s
  | some _ => s.completeWrite

/-- A slot pulses a bank of a list. -/
def Slot.pulses (banks : List BankId) : Slot → Bool
  | .pulsing b _ => banks.contains b
  | .marking _ => false
  | .empty => false

/-- No bank of the hall's allocation list is FIRING and none pulses: its last pulse has ended (R123; log entry 9). -/
def State.lastPulseEnded (s : State) (h : HallId) : Bool :=
  (s.inc h).allocBanks.all (fun b => !(s.bank b == .firing h)) &&
  !((s.slots.get .s1).pulses (s.inc h).allocBanks) && !((s.slots.get .s2).pulses (s.inc h).allocBanks)

/-- The end of a pulse of a bank: where it was the last of its hall's, the hall's discharge timer starts (R123). -/
def State.startDischarge (s : State) (b : BankId) : State :=
  match s.holder (s.manifoldOf b) with
  | none => s
  | some h =>
    if s.hallState h = .discharging ∧ (s.inc h).allocBanks.contains b = true ∧ s.lastPulseEnded h = true then
      s.modHall h fun x => { x with discharge := some (Timer.startSeconds (s.hallPlan h).discharge) }
    else s

/-- PULSE_END of a slot: its pulse ends, the circuit is de-energised, the slot is emptied and offered to the queue
(R119, R123). -/
def State.takePulseEnd (s : State) (i : SlotId) : State :=
  match s.slots.get i with
  | .pulsing b _ =>
    ((((s.setInitiator b false).clearDriven (.bank b)).setSlot i .empty).startDischarge b).fillSlots
  | .marking _ => s
  | .empty => s

/-! ## Flow (R122) -/

/-- The flow contact of a manifold is seen closing: it confirms flow in CHARGED while the flow timer runs (R122). -/
def State.flowCloses (s : State) (m : ManId) : State :=
  match (s.man m).state, (s.man m).timer with
  | .charged _, .flow _ => s.modMan m fun x => { x with flowConfirmed := true, timer := .stopped }
  | _, _ => s

/-- FLOW_TIMEOUT of a manifold: its flow timer is running and expires (R122). -/
def State.takeFlowTimeout (s : State) (m : ManId) : State :=
  match (s.man m).state, (s.man m).timer with
  | .charged h, .flow _ => (s.modMan m fun x => { x with timer := .stopped }).setNoFlow h
  | _, _ => s

/-! ## Discharge, soak and vent (R124, R125) -/

/-- A manifold held by the hall becomes VENTING: its flow timer stops, NO_FLOW is set where flow is not confirmed, its
vent timer starts (R15, R124). -/
def State.ventManifold (s : State) (h : HallId) (m : ManId) : State :=
  if s.holder m = some h then
    let vented := s.modMan m fun x =>
      { x with state := .venting h, timer := .vent (Timer.startSeconds (s.manPlan m).ventTime) }
    if (s.man m).flowConfirmed then vented else vented.setNoFlow h
  else s

/-- DISCHARGE_PERIOD_EXPIRY of a hall: its discharge timer is running and expires (R124). -/
def State.takeDischargeExpiry (s : State) (h : HallId) : State :=
  if s.hallState h = .discharging ∧ (s.hall h).discharge.isSome = true then
    ((s.modHall h fun x => { x with inc := { x.inc with state := .soak }, discharge := none }).ventManifold h
      .m1).ventManifold h .m2
  else s

/-- The hall holds a manifold. -/
def State.holdsAny (s : State) (h : HallId) : Bool := ManId.all.any fun m => s.holder m == some h

/-- A hall in SOAK that holds no manifold goes to DISCHARGED (R125). -/
def State.dischargedIfDone (s : State) (h : HallId) : State :=
  if s.hallState h = .soak ∧ s.holdsAny h = false then s.modInc h fun i => { i with state := .discharged } else s

/-- VENT_TIMER_EXPIRY of a manifold: its vent timer is running and expires (R125). -/
def State.takeVentExpiry (s : State) (m : ManId) : State :=
  match (s.man m).state, (s.man m).timer with
  | .venting h, .vent _ => ((s.freeManifold m).dischargedIfDone h).reexamine
  | _, _ => s

/-! ## The commands -/

/-- SELECTOR_TIMEOUT (R110). -/
def execSelectorTimeout (m : ManId) (s : State) : Host.Outcome State Fault Refusal :=
  .next (s.asEvent fun t => t.takeSelectorTimeout m)

/-- FLOW_TIMEOUT (R122). -/
def execFlowTimeout (m : ManId) (s : State) : Host.Outcome State Fault Refusal :=
  .next (s.asEvent fun t => t.takeFlowTimeout m)

/-- DISCHARGE_PERIOD_EXPIRY (R124). -/
def execDischargePeriodExpiry (h : HallId) (s : State) : Host.Outcome State Fault Refusal :=
  .next (s.asEvent fun t => t.takeDischargeExpiry h)

/-- VENT_TIMER_EXPIRY (R125). -/
def execVentTimerExpiry (m : ManId) (s : State) : Host.Outcome State Fault Refusal :=
  .next (s.asEvent fun t => t.takeVentExpiry m)

/-- PULSE_END (R119). -/
def execPulseEnd (slot : SlotId) (s : State) : Host.Outcome State Fault Refusal :=
  .next (s.asEvent fun t => t.takePulseEnd slot)

/-- SPENT_MARK_COMPLETION (R118). -/
def execSpentMarkCompletion (s : State) : Host.Outcome State Fault Refusal :=
  .next (s.asEvent State.takeMarkCompletion)

/-- STORE_WRITE_COMPLETION (R179). -/
def execStoreWriteCompletion (s : State) : Host.Outcome State Fault Refusal :=
  .next (s.asEvent State.takeWriteCompletion)

end Sys2Proof.Machine
end

