-- ==== Sys2Proof/Machine/Supervision.lean ====
section
/-! DEFINITION. Chapter 7, release circuit supervision: the rotation (R132), the measurement (R135), readings and their
hysteresis (R136, R137), the effects of a change of condition (R139, R140), the circuit set and the limits at a plan
write (R131, R138), and the commands of the Line Supervisor. -/

namespace Sys2Proof.Machine

/-! ## The rotation (R132) -/

/-- The places of the rotation: B1 to B8, the selectors of M1, then of M2, in ascending hall number. -/
def rotationOrder : List CircuitId :=
  (BankId.all.map CircuitId.bank) ++ (HallId.all.map fun h => CircuitId.selector .m1 h) ++
  (HallId.all.map fun h => CircuitId.selector .m2 h)

/-- The places from the one after the position, wrapping, the position itself last; from B1 where it is before B1 (R132).
A circuit that was discarded and added again at the position is still the last: the model's choice (log entry 30). -/
def rotationFrom : Option CircuitId → List CircuitId
  | none => rotationOrder
  | some c =>
    let after := (rotationOrder.dropWhile fun d => !(d == c)).drop 1
    after ++ rotationOrder.take (rotationOrder.length - after.length)

/-- The circuit is present, not driven, and not the initiator circuit of a SPENT bank (R132 to R134). -/
def State.measurable (s : State) (c : CircuitId) : Bool :=
  (match s.circuit c with
   | some x => !x.driven
   | none => false) &&
  (match c with
   | .bank b => !(s.bank b == .spent)
   | .selector _ _ => true)

/-- MEASUREMENT_INTERVAL: the next measurable circuit of the rotation is chosen and its measurement starts with the
limits in force (R132, R135). The position is a place of the order, whether or not the circuit there was discarded, or
discarded and added again, since (log entry 30). -/
def State.takeInterval (s : State) : State :=
  match (rotationFrom s.position).find? s.measurable with
  | none => s
  | some c =>
    { s with
      position := some c
      measuring :=
        some { circuit := c, openLimit := s.openLimit c, shortLimit := s.shortLimit c,
               preset := Config.counterMax - s.openLimit c } }

/-! ## Readings (R136, R137) -/

/-- The condition of a reading's kind. -/
def Reading.condition : Reading → Condition
  | .normal => .normal
  | .openCircuit => .openCircuit
  | .shortCircuit => .shortCircuit

/-- A reading applied to a record's condition and run (R137). -/
def Circuit.applyReading (k : Reading) (x : Circuit) : Circuit :=
  if x.condition = .untested then { x with condition := k.condition, run := none }
  else if x.condition = k.condition then { x with run := none }
  else
    match x.run with
    | some r =>
      if r.kind = k then
        if Config.confirmations ≤ r.length + 1 then { x with condition := k.condition, run := none }
        else { x with run := some ⟨k, r.length + 1⟩ }
      else { x with run := some ⟨k, 1⟩ }
    | none => { x with run := some ⟨k, 1⟩ }

/-- What a measurement that ends at `count` elapsed ticks reads against the limits taken at its start: a count above the
open limit is past the counter's 4095 (R135, R136; log entry 14). -/
def Measurement.reading (x : Measurement) (count : Nat) : LastCount × Reading :=
  if x.openLimit < count then (.over, .openCircuit)
  else if count < x.shortLimit then (.count count, .shortCircuit)
  else (.count count, .normal)

/-! ## Effects of a change of condition (R139, R140) -/

/-- The banks that a fault of a circuit makes unfit: the bank itself, or the banks of the hall on the manifold (R19). -/
def State.unfitBy (s : State) : CircuitId → List BankId
  | .bank b => if (s.bank b).isReserved then [b] else []
  | .selector m h => BankId.all.filter fun b => s.bank b == .reserved h && s.manifoldOf b == m

/-- A change of a circuit's condition is handed to the Agent Inventory: a fault of a usable circuit withdraws the banks
it makes unfit; NORMAL after a fault brings a re-examination; nothing else acts (R10, R139, R140). -/
def State.conditionMoved (s : State) (c : CircuitId) (old new : Condition) : State :=
  if old.usable && !new.usable then
    match s.unfitBy c with
    | [] => s
    | b :: rest => s.withdraw (b :: rest)
  else if !old.usable && new.usable then s.reexamine
  else s

/-- The end of a measurement: its last count and its reading are applied to the record, and a change of condition is
handed on (R136, R137). -/
def State.endMeasurement (s : State) (x : Measurement) (last : LastCount) (k : Reading) : State :=
  let idle := { s with measuring := none }
  match s.circuit x.circuit with
  | none => idle
  | some c =>
    let read := { c with last := last }.applyReading k
    (idle.modCircuit x.circuit fun _ => read).conditionMoved x.circuit c.condition read.condition

/-- COMPARATOR_TRIP with the elapsed count, in a measurement in progress (R135, R136). -/
def State.takeTrip (s : State) (count : Nat) : State :=
  match s.measuring with
  | none => s
  | some x => s.endMeasurement x (x.reading count).1 (x.reading count).2

/-- COUNTER_PASSES_4095 in a measurement in progress (R136). -/
def State.takeCounterPass (s : State) : State :=
  match s.measuring with
  | none => s
  | some x => s.endMeasurement x .over .openCircuit

/-! ## The circuits at a plan write (R131, R138) -/

/-- A bank circuit at a write of its bank's record: its run is emptied where a limit changes (R138). -/
def Circuit.newLimits (changed : Bool) (x : Circuit) : Circuit := if changed then { x with run := none } else x

/-- A selector circuit at a write of its manifold's record: discarded where the hall leaves the reach, created where it
joins, and else kept with its run emptied where a limit changes (R131, R138). -/
def reachCircuit (reached changed : Bool) (x : Option Circuit) : Option Circuit :=
  if reached then
    match x with
    | some c => some (c.newLimits changed)
    | none => some Circuit.fresh
  else none

/-- A measurement of a circuit that is no longer present is abandoned (R131). -/
def State.dropAbsentMeasurement (s : State) : State :=
  { s with measuring := s.measuring.filter fun x => (s.circuit x.circuit).isSome }

/-- The circuit records after a plan write whose record is `e`; `s` still holds the old working copy (R131, R138). -/
def State.circuitsForEdit (s : State) : PlanEdit → State
  | .site _ => s
  | .hall _ _ => s
  | .bank b r =>
    s.modCircuit (.bank b)
      (Circuit.newLimits (!((s.bankPlan b).openLimit == r.openLimit && (s.bankPlan b).shortLimit == r.shortLimit)))
  | .man m r =>
    { s with
      selCircuits :=
        s.selCircuits.set m
          ((s.selCircuits.get m).mapId fun h x =>
            reachCircuit (r.reach.get h)
              (!((s.manPlan m).openLimit == r.openLimit && (s.manPlan m).shortLimit == r.shortLimit)) x)
    }.dropAbsentMeasurement

/-! ## The commands -/

/-- MEASUREMENT_INTERVAL (R132). -/
def execMeasurementInterval (s : State) : Host.Outcome State Fault Refusal :=
  .next (s.asEvent State.takeInterval)

/-- COMPARATOR_TRIP (R136). -/
def execComparatorTrip (count : Nat) (s : State) : Host.Outcome State Fault Refusal :=
  .next (s.asEvent fun t => t.takeTrip count)

/-- COUNTER_PASSES_4095 (R136). -/
def execCounterPasses4095 (s : State) : Host.Outcome State Fault Refusal :=
  .next (s.asEvent State.takeCounterPass)

end Sys2Proof.Machine
end

