-- ==== Sys2Proof/Machine/Matrix.lean ====
section
/-! DEFINITION. Chapter 8, the contact matrix: the assignment of positions (R148, R149), sampling and debouncing (R145,
R146), the handing of each change to its consumer (R147, R148), return line faults (R150, R151), and the commands of the
Contact Matrix Scanner. -/

namespace Sys2Proof.Machine

/-! ## The assignment (R148, R149) -/

/-- What a position of the matrix carries. -/
inductive Assigned where
  | manual (h : HallId)
  | hold (h : HallId)
  | lockout (h : HallId)
  | proven (m : ManId) (h : HallId)
  | lowPressure (b : BankId)
  | flow (m : ManId)
  | reserveKey
  | commissionKey
  | unused
  deriving DecidableEq, Repr

/-- The contacts of a hall by return line. -/
def hallContact (h : HallId) : Line → Assigned
  | .l0 => .manual h
  | .l1 => .hold h
  | .l2 => .lockout h
  | .l3 => .proven .m1 h
  | .l4 => .proven .m2 h
  | .l5 => .unused
  | .l6 => .unused
  | .l7 => .unused

/-- The bank of a return line on drive line 6. -/
def lineBank : Line → BankId
  | .l0 => .b1 | .l1 => .b2 | .l2 => .b3 | .l3 => .b4 | .l4 => .b5 | .l5 => .b6 | .l6 => .b7 | .l7 => .b8

/-- The contacts of the store on drive line 7. -/
def storeContact : Line → Assigned
  | .l0 => .flow .m1
  | .l1 => .flow .m2
  | .l2 => .reserveKey
  | .l3 => .commissionKey
  | .l4 => .unused
  | .l5 => .unused
  | .l6 => .unused
  | .l7 => .unused

/-- The contact at a drive line and a return line (R148). -/
def assigned : Line → Line → Assigned
  | .l0, r => hallContact .h1 r
  | .l1, r => hallContact .h2 r
  | .l2, r => hallContact .h3 r
  | .l3, r => hallContact .h4 r
  | .l4, r => hallContact .h5 r
  | .l5, r => hallContact .h6 r
  | .l6, r => .lowPressure (lineBank r)
  | .l7, r => storeContact r

/-- The position carries a contact (R149). -/
def inUse (d r : Line) : Bool := !(assigned d r == .unused)

/-! ## Sampling and debouncing (R145, R146) -/

/-- Whether return line r reads closed in a sample. -/
def sampleBit (sample : BitVec 8) (r : Line) : Bool := sample.getLsbD r.num

/-- One position after its sample: the raw reading is written; a position that is debounced counts readings that
differ, and a third one clears the count (R146). -/
def Contact.sampled (debounce raw : Bool) (c : Contact) : Contact :=
  if !debounce then { c with raw := raw }
  else if raw = c.debounced then { c with raw := raw, count := 0 }
  else if Config.confirmations ≤ c.count + 1 then { c with raw := raw, count := 0 }
  else { c with raw := raw, count := c.count + 1 }

/-- The sample is the third in a row that differs from the debounced state (R146). -/
def Contact.turns (raw : Bool) (c : Contact) : Bool :=
  !(raw == c.debounced) && decide (Config.confirmations ≤ c.count + 1)

/-- The position is debounced: in use, its return line not faulted (R146, R150). -/
def State.debounces (s : State) (d r : Line) : Bool := inUse d r && !(s.returns.get r).faulted

/-- The return lines of drive line d whose debounced state changes with this sample. -/
def State.turning (s : State) (d : Line) (sample : BitVec 8) : List Line :=
  Line.all.filter fun r => s.debounces d r && (s.contact d r).turns (sampleBit sample r)

/-- The raw readings and counts of a drive line after its sample. -/
def State.sampleLine (s : State) (d : Line) (sample : BitVec 8) : State :=
  { s with
    contacts :=
      s.contacts.set d
        ((s.contacts.get d).mapId fun r (c : Contact) => c.sampled (s.debounces d r) (sampleBit sample r)) }

/-! ## The handing of changes (R147, R148) -/

/-- Low pressure of a bank sets or clears (R5, R10). -/
def State.lowPressureMoved (s : State) (b : BankId) (closed : Bool) : State :=
  if closed then if (s.bank b).isReserved then s.withdraw [b] else s
  else s.reexamine

/-- The reserve selection changes: the RESERVED banks whose role it no longer matches are withdrawn, and a
re-examination follows (R11). -/
def State.selectionMoved (s : State) : State :=
  s.withdraw (BankId.all.filter fun b => (s.bank b).isReserved && !((s.bankPlan b).role == s.selection))

/-- A change of a contact's debounced state acts at its consumer (R148). -/
def State.contactMoved (s : State) (d r : Line) (closed : Bool) : State :=
  let t := s.modContact d r fun c => { c with debounced := closed }
  match assigned d r with
  | .manual h => if closed then t.manualEvent h .localManual else t
  | .hold h => t.demandMoved h (s.holdDemand h)
  | .lockout h => if closed then t.withholdBegins h true else t.withholdEnds h
  | .proven m h => if closed then t.provenCloses m h else t.provenOpens m h
  | .lowPressure b => t.lowPressureMoved b closed
  | .flow m => if closed then t.flowCloses m else t
  | .reserveKey => t.selectionMoved
  | .commissionKey => t
  | .unused => t

/-- The changes of one dwell, each an event of its own (R147). -/
def State.handChanges (d : Line) (sample : BitVec 8) (s : State) (lines : List Line) : State :=
  lines.foldl (fun t r => t.asEvent fun u => u.contactMoved d r (sampleBit sample r)) s

/-- The open choices that the order of some events takes. -/
def choicesFor {α : Type} (l : List α) : Nat := if l.length ≤ 1 then 0 else l.length

/-- The dwell after the dwell of a drive line (R145). -/
def nextDwell : Line → ScanPos
  | .l0 => .drive .l1
  | .l1 => .drive .l2
  | .l2 => .drive .l3
  | .l3 => .drive .l4
  | .l4 => .drive .l5
  | .l5 => .drive .l6
  | .l6 => .drive .l7
  | .l7 => .dark

/-- DRIVE_DWELL_END: the drive line in progress is sampled and debounced, the scanner moves on, and each change is
handed to its consumer in an open order (R145 to R148). In the dark dwell the event does not arise. -/
def State.takeDriveDwell (s : State) (sample : BitVec 8) : State :=
  match s.scan with
  | .dark => s
  | .drive d =>
    let changed := s.turning d sample
    let sampled := { s.sampleLine d sample with scan := nextDwell d }.spendChoices (choicesFor changed)
    State.handChanges d sample sampled (orderOf s.freeCount changed)

/-! ## Return line faults (R150, R151) -/

/-- One return line after a dark dwell. -/
def ReturnLine.afterDark (closed : Bool) (x : ReturnLine) : ReturnLine :=
  if closed then { faulted := true, clean := 0 }
  else if x.faulted then
    if Config.confirmations ≤ x.clean + 1 then { faulted := false, clean := 0 } else { x with clean := x.clean + 1 }
  else x

/-- One position after a dark dwell: a line that becomes faulted clears its count (R150). -/
def Contact.afterDark (frozen : Bool) (c : Contact) : Contact := if frozen then { c with count := 0 } else c

/-- DARK_DWELL_END: the return lines are tested, and the next frame begins (R150, R151). In a drive dwell the event does
not arise. -/
def State.takeDarkDwell (s : State) (sample : BitVec 8) : State :=
  match s.scan with
  | .drive _ => s
  | .dark =>
    { s with
      returns := s.returns.mapId fun r (x : ReturnLine) => x.afterDark (sampleBit sample r)
      contacts :=
        s.contacts.mapId fun d (row : PerLine Contact) =>
          row.mapId fun r (c : Contact) =>
            c.afterDark (inUse d r && sampleBit sample r && !(s.returns.get r).faulted)
      scan := .drive .l0 }

/-! ## The commands -/

/-- DRIVE_DWELL_END (R146). Each change of a contact is counted as an event of its own. -/
def execDriveDwellEnd (sample : BitVec 8) (s : State) : Host.Outcome State Fault Refusal :=
  .next (s.takeDriveDwell sample)

/-- DARK_DWELL_END (R150). -/
def execDarkDwellEnd (sample : BitVec 8) (s : State) : Host.Outcome State Fault Refusal :=
  .next (s.takeDarkDwell sample)

end Sys2Proof.Machine
end

