-- ==== Sys2Proof/Machine/Reports.lean ====
section
/-! DEFINITION. What the replies carry: CYCLE_RESULT (R170), READ_INCIDENT (R64), READ_BANKS and READ_MANIFOLDS (R24,
R127), READ_STATUS (R78, R127, R171), READ_LINK (R171), READ_CIRCUITS (R142), READ_CONTACTS (R155) and READ_PLAN (R184),
laid out as R173 and R174 give. -/

namespace Sys2Proof.Machine

/-! ## Reports of a hall (R173) -/

/-- The CYCLE_RESULT of a hall (R170). -/
def State.cycleResult (s : State) (h : HallId) : List Byte :=
  [(s.hallState h).code] ++ optional2 (s.inc h).countdown ++ [byteOf (bitAt (s.holdDemand h) 0)] ++
  bytes2 (s.inc h).change.toNat ++ bytes3 (s.available h) ++ optional3 (s.inc h).required ++
  bytes3 (s.inc h).total ++ bytes2 (s.inc h).flags.bits

/-- One latched zone. -/
def Latched.bytes (e : Latched) : List Byte := [e.zone, e.group.code] ++ bytes2 e.time

/-- One entry of an allocation list. -/
def AllocEntry.bytes (e : AllocEntry) : List Byte := [byteOf e.bank.num] ++ bytes2 e.quantity

/-- The READ_INCIDENT reply of a hall (R64). -/
def State.incidentReport (s : State) (h : HallId) : List Byte :=
  let i := s.inc h
  [byteOf h.num] ++ bytes2 i.number.toNat ++ bytes2 i.change.toNat ++ [i.state.code, byteOf i.recordBits] ++
  [causeCode i.cause] ++ bytes4 (i.confNumber.getD 0) ++ [optionalTemp i.tLow, optionalTemp i.tHigh] ++
  optional3 i.required ++ bytes3 i.total ++ optional2 i.estimate ++ optional2 i.countdown ++ bytes2 i.holdUsed ++
  bytes2 i.flags.bits ++ [closingCode i.closing] ++
  [byteOf i.latched.length] ++ i.latched.flatMap Latched.bytes ++
  [byteOf i.alloc.length] ++ i.alloc.flatMap AllocEntry.bytes

/-! ## Reports of the agent store (R24, R127) -/

/-- One bank of the READ_BANKS reply. -/
def State.bankReport (s : State) (b : BankId) : List Byte :=
  [(s.bank b).code, hallNumOpt (s.bank b).hall, byteOf (s.bankBits b), byteOf (s.bankPlan b).cylinders] ++
  bytes2 (s.bankPlan b).fill ++ bytes2 (s.quantity b) ++ bytes2 (s.bankPlan b).openLimit ++
  bytes2 (s.bankPlan b).shortLimit ++ [byteOf (s.bankCircuits.get b).condition.code]

/-- The READ_BANKS reply. -/
def State.banksReport (s : State) : List Byte := BankId.all.flatMap s.bankReport ++ [s.selection.code]

/-- One manifold of the READ_MANIFOLDS reply. -/
def State.manifoldReport (s : State) (m : ManId) : List Byte :=
  [(s.man m).state.code, hallNumOpt (s.holder m), maskByte (s.manPlan m).reach] ++
  bytes2 (s.manPlan m).openLimit ++ bytes2 (s.manPlan m).shortLimit ++
  [byteOf (s.manPlan m).selectorTimeout, byteOf (s.manPlan m).flowTimeout] ++ bytes2 (s.manPlan m).ventTime ++
  [byteOf (s.manifoldBits m), (s.man m).timer.code] ++ optional2 (s.man m).timer.remaining

/-- The READ_MANIFOLDS reply. -/
def State.manifoldsReport (s : State) : List Byte := ManId.all.flatMap s.manifoldReport

/-! ## The station's reports (R171, R174) -/

/-- One hall of the READ_STATUS reply. -/
def State.hallReport (s : State) (h : HallId) : List Byte :=
  [(s.hallState h).code] ++ bytes2 (s.inc h).change.toNat ++ bytes3 (s.available h) ++ [byteOf (s.hallBits h)] ++
  optional2 ((s.hall h).discharge.map Timer.tenths)

/-- One entry of the wait list in the READ_STATUS reply (R78). -/
def State.waitReport (s : State) (h : HallId) : List Byte := [byteOf h.num] ++ bytes4 (s.rankNumber h)

/-- One slot in the READ_STATUS reply. -/
def Slot.bytes (x : Slot) : List Byte := [bankNumOpt x.bank, x.phaseCode]

/-- The READ_STATUS reply. -/
def State.statusReport (s : State) : List Byte :=
  HallId.all.flatMap s.hallReport ++
  [byteOf s.waitList.length] ++ s.waitList.flatMap s.waitReport ++
  [byteOf s.queue.length] ++ (s.queue.map fun b => byteOf b.num) ++
  (s.slots.get .s1).bytes ++ (s.slots.get .s2).bytes ++
  [byteOf (bitAt s.write.isSome 0), byteOf s.markQueue.length, s.work.lock.code, byteOf (bitAt s.overlay 0)] ++
  bytes4 s.confCounter

/-- One declared zone of the READ_LINK reply. -/
def Zone.bytes (z : Zone) : List Byte := [z.id, z.group.code, z.held.code]

/-- The READ_LINK reply of a hall port. -/
def State.linkReport (s : State) (h : HallId) : List Byte :=
  let l := s.link h
  [byteOf h.num, l.state.code, byteOf l.sticky.bits] ++ optional2 (l.silence.map Timer.tenths) ++
  [byteOf (bitAt l.hold 0), optionalTemp l.low, optionalTemp l.high] ++
  [byteOf (s.zones h).length] ++ (s.zones h).flatMap Zone.bytes

/-- The last count of a circuit record in two bytes. -/
def LastCount.bytes : LastCount → List Byte
  | .count t => bytes2 t
  | .over => bytes2 0xFFFE
  | .absent => bytes2 0xFFFF

/-- One circuit of the READ_CIRCUITS reply; nothing for a circuit that is not present. -/
def State.circuitReport (s : State) (c : CircuitId) : List Byte :=
  match s.circuit c with
  | none => []
  | some x =>
    [c.code] ++ bytes2 (s.openLimit c) ++ bytes2 (s.shortLimit c) ++ x.last.bytes ++ [byteOf (s.circuitBits c x)]

/-- A circuit belongs to the part. -/
def CircuitPart.holds : CircuitPart → CircuitId → Bool
  | .bank, .bank _ => true
  | .bank, .selector _ _ => false
  | .selector, .bank _ => false
  | .selector, .selector _ _ => true

/-- The code of a circuit part. -/
def CircuitPart.code : CircuitPart → Byte
  | .bank => 1
  | .selector => 2

/-- The present circuits of a part in rotation order (R142). -/
def State.presentCircuits (s : State) (part : CircuitPart) : List CircuitId :=
  rotationOrder.filter fun c => part.holds c && (s.circuit c).isSome

/-- The READ_CIRCUITS reply of a part. -/
def State.circuitsReport (s : State) (part : CircuitPart) : List Byte :=
  [part.code, (match s.position with | some c => c.code | none => 0), byteOf (s.presentCircuits part).length] ++
  (s.presentCircuits part).flatMap s.circuitReport

/-- The READ_CONTACTS reply. -/
def State.contactsReport (s : State) : List Byte :=
  (Line.all.flatMap fun d => Line.all.map fun r => byteOf (s.contact d r).bits) ++
  (Line.all.map fun r => byteOf (s.returns.get r).bits) ++ [s.selection.code]

/-! ## Plan records (R174, R184) -/

/-- The site record's fields. -/
def SitePlan.bytes (r : SitePlan) : List Byte := bytes2 r.k1 ++ bytes2 r.k2 ++ [maskByte r.portMask, byteOf r.silence]

/-- A manifold record's fields. -/
def ManPlan.bytes (r : ManPlan) : List Byte :=
  [maskByte r.reach] ++ bytes2 r.openLimit ++ bytes2 r.shortLimit ++
  [byteOf r.selectorTimeout, byteOf r.flowTimeout] ++ bytes2 r.ventTime

/-- A bank record's fields. -/
def BankPlan.bytes (r : BankPlan) : List Byte :=
  [byteOf r.manifold.num, r.role.code, byteOf r.cylinders] ++ bytes2 r.fill ++ bytes2 r.openLimit ++
  bytes2 r.shortLimit

/-- A hall record's fields. -/
def HallPlan.bytes (r : HallPlan) : List Byte :=
  [r.rule.code, byteOf (bitAt r.fallback 0)] ++ bytes2 r.volume ++ bytes2 r.design ++ bytes2 r.maximum ++
  [tempByte r.designLow, tempByte r.designHigh, byteOf r.autoDelay, byteOf r.manualDelay] ++ bytes2 r.holdLimit ++
  [byteOf r.restartFloor, byteOf (bitAt r.partialPermitted 0)] ++ bytes2 r.waitLimit ++
  [byteOf r.discharge, byteOf r.preference.length] ++ (r.preference.map fun b => byteOf b.num)

/-- The READ_PLAN reply of a record: kind, number, fields, and the persistent byte of a bank or hall (R174, R184). -/
def State.planReport (s : State) : RecordName → List Byte
  | .site => [1, 1] ++ s.work.site.bytes
  | .man m => [2, byteOf m.num] ++ (s.manPlan m).bytes
  | .bank b => [3, byteOf b.num] ++ (s.bankPlan b).bytes ++ [byteOf (s.bankPersistent b)]
  | .hall h => [4, byteOf h.num] ++ (s.hallPlan h).bytes ++ [byteOf (s.hallPersistent h)]

end Sys2Proof.Machine
end

