-- ==== Sys2Proof/Machine/Links.lean ====
section
/-! DEFINITION. Chapter 9, hall links: the acceptance of DECLARE and CYCLE (R164, R165), LINK_START and LINK_STOP (R162,
R163), the silence of a link (R166), and the command SILENCE_TIMER_EXPIRY. -/

namespace Sys2Proof.Machine

/-- A silence timer started with the site silence timeout in force (R166, R169). -/
def State.silenceTimer (s : State) : Timer := Timer.start s.work.site.silence

/-- An accepted DECLARE: the list becomes the declaration, the link goes to RUNNING, its silence timer starts, and
confirmation is tested (R164). -/
def State.acceptDeclare (s : State) (h : HallId) (zones : List Zone) : State :=
  (s.modLink h fun l =>
    { l with state := .running, zones := some zones, hold := false, silence := some s.silenceTimer }).testConfirmation h

/-- The declared zones with the states of a report, in declaration order (R165). -/
def withStates (zones : List Zone) (states : List ZoneState) : List Zone :=
  List.zipWith (fun (z : Zone) st => { z with held := st }) zones states

/-- The link record after an accepted CYCLE (R29, R165). -/
def Link.afterCycle (timer : Timer) (states : List ZoneState) (hold : Bool) (low high : Option Int) (l : Link) : Link :=
  { l with
    state := .running
    zones := l.zones.map fun zs => withStates zs states
    hold := hold
    low := low
    high := high
    silence := some timer }

/-- An accepted CYCLE, one event: the link record, then the report taken whole, then the hold demand tested once (R93,
R165). -/
def State.acceptCycle (s : State) (h : HallId) (states : List ZoneState) (hold : Bool) (low high : Option Int) : State :=
  ((s.modLink h (Link.afterCycle s.silenceTimer states hold low high)).takeZones h).demandMoved h (s.holdDemand h)

/-- SILENCE_TIMER_EXPIRY of a hall port: its silence timer is running and expires; the link goes to SILENT and the
panel's hold request is released (R93, R166). -/
def State.takeSilence (s : State) (h : HallId) : State :=
  if (s.link h).state = .running ∧ (s.link h).silence.isSome = true then
    (s.modLink h fun l =>
      { l with state := .silent, silence := none, sticky := { l.sticky with silenceSeen := true } }).demandMoved h
      (s.holdDemand h)
  else s

/-- A port's receiver hunts anew; what it was receiving is abandoned (R162, R163). -/
def PortIo.hunt (x : PortIo) : PortIo := { x with rx := .hunting }

/-- The port can be started: STOPPED, and present in the site record in force (R162). -/
def State.startable (s : State) (h : HallId) : Bool :=
  (s.link h).state == .stopped && s.work.site.portMask.get h

/-- A selected port at a LINK_START (R162). -/
def State.startPort (ports : PerHall Bool) (s : State) (h : HallId) : State :=
  if ports.get h && s.startable h then
    (s.modLink h fun _ => Link.restarted .awaitingDeclare).modPort (.hall h) PortIo.hunt
  else s

/-- The selected ports that fail to start (R162). -/
def State.failedToStart (s : State) (ports : PerHall Bool) : PerHall Bool :=
  ports.mapId fun h on => on && !(s.startable h)

/-- An accepted LINK_START (R162). -/
def State.acceptStart (s : State) (ports : PerHall Bool) : State := HallId.all.foldl (State.startPort ports) s

/-- The link record of a stopped port: the sticky flags keep their values (R163). -/
def Link.stop (l : Link) : Link := { Link.restarted .stopped with sticky := l.sticky }

/-- A selected port at a LINK_STOP (R163). -/
def State.stopPort (ports : PerHall Bool) (s : State) (h : HallId) : State :=
  if ports.get h && !((s.link h).state == .stopped) then
    ((s.modLink h Link.stop).modPort (.hall h) PortIo.hunt).demandMoved h (s.holdDemand h)
  else s

/-- The selected ports that a LINK_STOP changes (R163). -/
def State.changedByStop (s : State) (ports : PerHall Bool) : PerHall Bool :=
  ports.mapId fun h on => on && !((s.link h).state == .stopped)

/-- An accepted LINK_STOP (R163). -/
def State.acceptStop (s : State) (ports : PerHall Bool) : State := HallId.all.foldl (State.stopPort ports) s

/-- SILENCE_TIMER_EXPIRY (R166). -/
def execSilenceTimerExpiry (h : HallId) (s : State) : Host.Outcome State Fault Refusal :=
  .next (s.asEvent fun t => t.takeSilence h)

end Sys2Proof.Machine
end

