-- ==== Sys2Proof/Machine/Owners.lean ====
section
/-! DEFINITION. The owners of the requests: the checks each makes in its order, and its effect (R21 to R23, R58, R60,
R162 to R165, R177, R178, R182, R183). Each answers the state after the request's event and the kind of answer. -/

namespace Sys2Proof.Machine

/-- What a request is answered with: a refusal, an ACCEPTED with the items of R174, or the REPLY of a read. -/
inductive Answer where
  | refused (c : RefusalCode)
  | accepted
  | acceptedHall (h : HallId)
  | acceptedPorts (result : PerHall Bool)
  | reply (r : Request)
  | cycleResult (h : HallId)
  deriving DecidableEq, Repr

/-! ## The Agent Inventory (R21 to R23) -/

/-- A bank's working isolated flag replaced and its write begun (R21, R22). -/
def State.isolateBank (s : State) (b : BankId) (v : Bool) : State :=
  { s with work := { s.work with bankIsolated := s.work.bankIsolated.set b v } }.beginWrite (.bankIsolated b v)

/-- A hall's working isolated flag replaced and its write begun (R21, R22). -/
def State.isolateHall (s : State) (h : HallId) (v : Bool) : State :=
  { s with work := { s.work with hallIsolated := s.work.hallIsolated.set h v } }.beginWrite (.hallIsolated h v)

/-- The bank is RESERVED or FIRING (R21). -/
def BankState.inUse (x : BankState) : Bool := x.hall.isSome

/-- The hall's release has begun: SELECTING, DISCHARGING or SOAK (R21, R58). -/
def HallState.releasing : HallState → Bool
  | .selecting => true
  | .discharging => true
  | .soak => true
  | .quiet => false
  | .alert => false
  | .inhibited => false
  | .waiting => false
  | .countdown => false
  | .held => false
  | .discharged => false
  | .stalled => false

/-- ISOLATE at the Agent Inventory (R21). -/
def State.answerIsolate (s : State) : Target → State × Answer
  | .bank b =>
    if s.storeBusy then (s, .refused .storeBusy)
    else if (s.bank b).inUse then (s, .refused .inUse)
    else if s.work.bankIsolated.get b then (s, .accepted)
    else (s.isolateBank b true, .accepted)
  | .hall h =>
    if s.storeBusy then (s, .refused .storeBusy)
    else if (s.hallState h).releasing then (s, .refused .tooLate)
    else if s.isolated h then (s, .accepted)
    else ((s.isolateHall h true).withholdBegins h false, .accepted)

/-- DEISOLATE at the Agent Inventory (R22). -/
def State.answerDeisolate (s : State) : Target → State × Answer
  | .bank b =>
    if s.storeBusy then (s, .refused .storeBusy)
    else if s.work.bankIsolated.get b then ((s.isolateBank b false).reexamine, .accepted)
    else (s, .accepted)
  | .hall h =>
    if s.storeBusy then (s, .refused .storeBusy)
    else if s.isolated h then ((s.isolateHall h false).withholdEnds h, .accepted)
    else (s, .accepted)

/-- The bank stands in the allocation list of the hall that holds the manifold it lies on (R23, R178). -/
def State.servesHolder (s : State) (b : BankId) : Bool :=
  match s.holder (s.manifoldOf b) with
  | some h => (s.inc h).allocBanks.contains b
  | none => false

/-- RECHARGED at the Agent Inventory (R23). -/
def State.answerRecharged (s : State) (b : BankId) : State × Answer :=
  if s.storeBusy then (s, .refused .storeBusy)
  else if !s.commissionKey then (s, .refused .keyRequired)
  else if !(s.bank b == .spent) then (s, .refused .state)
  else if s.lowPressure b || s.servesHolder b then (s, .refused .busy)
  else (((s.setBank b .ready).beginWrite (.clearMark b)).reexamine, .accepted)

/-! ## The Hall Sequencer (R58, R60) -/

/-- STAND_DOWN at the Hall Sequencer (R58). -/
def State.answerStandDown (s : State) (h : HallId) : State × Answer :=
  if (s.hallState h).releasing then (s, .refused .tooLate) else (s.standDown h, .acceptedHall h)

/-- RETRY at the Hall Sequencer (R60). -/
def State.answerRetry (s : State) (h : HallId) : State × Answer :=
  if s.hallState h = .stalled then (s.retry h, .acceptedHall h) else (s, .refused .state)

/-! ## The Plan Store (R177, R178, R182, R183) -/

/-- The effective lock mode forbids a WRITE_PLAN (R182). -/
def State.planLocked (s : State) : Bool :=
  match s.work.lock with
  | .permanent => true
  | .keyed => s.overlay || !s.commissionKey
  | .openMode => s.overlay

/-- Every hall is QUIET or ALERT and both manifolds are FREE (R178). -/
def State.allIdle (s : State) : Bool :=
  HallId.all.all (fun h => s.hallState h == .quiet || s.hallState h == .alert) &&
  ManId.all.all fun m => (s.man m).state == .free

/-- The owner check of a WRITE_PLAN (R178). -/
def State.ownerAllows (s : State) : PlanEdit → Bool
  | .hall h _ => s.hallState h == .quiet
  | .bank b _ => s.bank b == .ready || (s.bank b == .spent && !(s.servesHolder b))
  | .man _ _ => s.allIdle
  | .site _ => s.allIdle

/-- A bank or manifold record is followed by a re-examination (R177). -/
def PlanEdit.reexamines : PlanEdit → Bool
  | .bank _ _ => true
  | .man _ _ => true
  | .site _ => false
  | .hall _ _ => false

/-- An accepted WRITE_PLAN: circuits and limits, the working copy, the write, the re-examination (R177). -/
def State.acceptPlan (s : State) (e : PlanEdit) : State :=
  let circuits := s.circuitsForEdit e
  let written := { circuits with work := e.apply circuits.work }.beginWrite (.plan e)
  if e.reexamines then written.reexamine else written

/-- WRITE_PLAN at the Plan Store (R177). -/
def State.answerWritePlan (s : State) (kind : RecordKind) (number : Byte) (body : List Byte) : State × Answer :=
  if s.planLocked then (s, .refused .locked)
  else if s.storeBusy then (s, .refused .storeBusy)
  else
    match planEditOf kind number body with
    | none => (s, .refused .invalid)
    | some e => if s.ownerAllows e then (s.acceptPlan e, .accepted) else (s, .refused .busy)

/-- The persistent mode changed and its write begun (R183). -/
def State.changeLock (s : State) (m : LockMode) : State :=
  if s.work.lock = m then s else { s with work := { s.work with lock := m } }.beginWrite (.lockMode m)

/-- PERMANENT is left by no setting (R183, check 2). -/
def State.lockForbids (s : State) : LockSetting → Bool
  | .mode .openMode => s.work.lock == .permanent
  | .mode .keyed => s.work.lock == .permanent
  | .mode .permanent => false
  | .overlay => false

/-- The settings that need the COMMISSION key (R183, check 3). -/
def State.lockNeedsKey (s : State) : LockSetting → Bool
  | .mode .permanent => true
  | .mode .openMode => s.work.lock == .keyed
  | .mode .keyed => false
  | .overlay => false

/-- SET_LOCK at the Plan Store (R183). -/
def State.answerSetLock (s : State) (x : LockSetting) : State × Answer :=
  if s.storeBusy then (s, .refused .storeBusy)
  else if s.lockForbids x then (s, .refused .locked)
  else if s.lockNeedsKey x && !s.commissionKey then (s, .refused .keyRequired)
  else
    match x with
    | .mode m => (s.changeLock m, .accepted)
    | .overlay => ({ s with overlay := true }, .accepted)

/-! ## Every request handed to its owner (R160) -/

/-- A request carried out, or refused, by its owner. -/
def State.carryOut (s : State) (p : Port) : Request → State × Answer
  | .declare zones =>
    match p with
    | .hall h => (s.acceptDeclare h zones, .accepted)
    | .station => (s, .refused .notPermitted)
  | .cycle states hold low high =>
    match p with
    | .hall h => (s.acceptCycle h states hold low high, .cycleResult h)
    | .station => (s, .refused .notPermitted)
  | .readStatus => (s, .reply .readStatus)
  | .readIncident h =>
    match p with
    | .hall g => if g = h then (s, .reply (.readIncident h)) else (s, .refused .notPermitted)
    | .station => (s, .reply (.readIncident h))
  | .readBanks => (s, .reply .readBanks)
  | .readManifolds => (s, .reply .readManifolds)
  | .readLink h => (s, .reply (.readLink h))
  | .readCircuits part => (s, .reply (.readCircuits part))
  | .readContacts => (s, .reply .readContacts)
  | .readPlan name => (s, .reply (.readPlan name))
  | .writePlan kind number body => s.answerWritePlan kind number body
  | .setLock x => s.answerSetLock x
  | .isolate t => s.answerIsolate t
  | .deisolate t => s.answerDeisolate t
  | .standDown h => s.answerStandDown h
  | .retry h => s.answerRetry h
  | .recharged b => s.answerRecharged b
  | .linkStart ports => (s.acceptStart ports, .acceptedPorts (s.failedToStart ports))
  | .linkStop ports => (s.acceptStop ports, .acceptedPorts (s.changedByStop ports))

end Sys2Proof.Machine
end

