-- ==== Sys2Proof/Machine/Ports.lean ====
section
/-! DEFINITION. Chapter 9, the ports: admission of a request (R160), the response (R159, R172 to R174), the frame
receiver (R157, R158), and the commands of the frame layer: BYTE_RECEIVED, FRAME_BAD_CRC, FRAME_OVERLENGTH, FRAME_GAP
and RESPONSE_END. -/

namespace Sys2Proof.Machine

/-! ## Admission (R160) -/

/-- The link state in which a hall port takes a kind (R160, check 4). -/
def State.linkAllows (s : State) (k : Kind) : Port → Bool
  | .station => true
  | .hall h =>
    match k with
    | .declare => (s.link h).state == .awaitingDeclare
    | .cycle => !((s.link h).state == .awaitingDeclare)
    | _ => true

/-- How many zones the port's link has declared. -/
def State.declaredCount (s : State) : Port → Nat
  | .hall h => (s.zones h).length
  | .station => 0

/-- A valid frame admitted or refused, and an admitted request handed to its owner (R160). Check 1 is the receiver's:
a stopped port hears nothing. -/
def State.respond (s : State) (p : Port) (kind : Byte) (payload : List Byte) : State × Answer :=
  match kindOfCode kind with
  | none => (s, .refused .unknownKind)
  | some k =>
    if !(k.permitted p) then (s, .refused .notPermitted)
    else if !(s.linkAllows k p) then (s, .refused .state)
    else
      match requestOf (s.declaredCount p) k payload with
      | none => (s, .refused .invalid)
      | some r => s.carryOut p r

/-! ## Responses (R159, R172 to R174) -/

/-- The content of a read's REPLY. -/
def State.replyTo (s : State) : Request → List Byte
  | .readStatus => s.statusReport
  | .readIncident h => s.incidentReport h
  | .readBanks => s.banksReport
  | .readManifolds => s.manifoldsReport
  | .readLink h => s.linkReport h
  | .readCircuits part => s.circuitsReport part
  | .readContacts => s.contactsReport
  | .readPlan name => s.planReport name
  | _ => []

/-- The kind byte of the response to a request kind. -/
def responseKind (kind : Byte) : Answer → Byte
  | .refused _ => refusedCode
  | .accepted => acceptedCode
  | .acceptedHall _ => acceptedCode
  | .acceptedPorts _ => acceptedCode
  | .reply _ => kind + 0x80
  | .cycleResult _ => kind + 0x80

/-- The payload of the response, built from the state after the request's event (R159). -/
def State.responsePayload (s : State) (kind : Byte) : Answer → List Byte
  | .refused c => [kind, c.code]
  | .accepted => [kind]
  | .acceptedHall h => [kind, byteOf h.num, (s.hallState h).code] ++ bytes2 (s.inc h).change.toNat
  | .acceptedPorts result => [kind, maskByte result]
  | .reply r => s.replyTo r
  | .cycleResult h => s.cycleResult h

/-- The response frame, with the request's sequence byte (R159). -/
def State.responseFrame (s : State) (kind seq : Byte) (a : Answer) : List Byte :=
  frameBytes (responseKind kind a) seq (s.responsePayload kind a)

/-- A request on a hall port refused INVALID sets INVALID_SEEN (R167). -/
def State.noteAnswer (s : State) (p : Port) : Answer → State
  | .refused .invalid => s.setInvalidSeen p
  | _ => s

/-- The port sends a response; its receiver does not listen until the end (R159). -/
def State.send (s : State) (p : Port) (frame : List Byte) : State :=
  s.modPort p fun _ => { rx := .hunting, tx := some frame }

/-- A valid frame processed at its completion: one event, and its response built from the state after it (R159). -/
def State.processFrame (s : State) (p : Port) (kind seq : Byte) (payload : List Byte) : State :=
  let a := (s.respond p kind payload).2
  let after := (s.asEvent fun t => (t.respond p kind payload).1).noteAnswer p a
  after.send p (after.responseFrame kind seq a)

/-! ## The receiver (R157, R158) -/

/-- The port's receiver listens: its link is not STOPPED and no response is being sent (R159, R163). -/
def State.listening (s : State) (p : Port) : Bool :=
  (s.port p).tx.isNone &&
  match p with
  | .hall h => !((s.link h).state == .stopped)
  | .station => true

/-- The receiver goes back to hunting. -/
def State.hunt (s : State) (p : Port) : State := s.modPort p PortIo.hunt

/-- A completed frame whose CRC is wrong is discarded (R158). -/
def State.discardBadCrc (s : State) (p : Port) : State := (s.hunt p).setCrcSeen p

/-- A length above 120 abandons the frame (R158). -/
def State.abandonOverlength (s : State) (p : Port) : State := (s.hunt p).setOverlengthSeen p

/-- A frame that has received its last byte: valid, or of a wrong CRC (R157, R158). `body` is kind, sequence, length
and payload; `check` the two CRC bytes. -/
def State.completeFrame (s : State) (p : Port) (body check : List Byte) : State :=
  match body with
  | kind :: seq :: _ :: payload =>
    if check = crcBytes body then (s.hunt p).processFrame p kind seq payload else s.discardBadCrc p
  | _ => s.hunt p

/-- The bytes of a frame after one more of them: kept, abandoned for its length, or completed (R157, R158). -/
def State.takeFrameBytes (s : State) (p : Port) (bytes : List Byte) : State :=
  match bytes[2]? with
  | none => s.modPort p fun x => { x with rx := .inFrame bytes 0 }
  | some len =>
    if Config.maxPayload < len.toNat then s.abandonOverlength p
    else if bytes.length = len.toNat + 5 then
      s.completeFrame p (bytes.take (len.toNat + 3)) (bytes.drop (len.toNat + 3))
    else s.modPort p fun x => { x with rx := .inFrame bytes 0 }

/-- A byte arrives at a port (R157). At a receiver that does not listen it is lost (R159, R163). -/
def State.receiveByte (p : Port) (s : State) (b : Byte) : State :=
  if s.listening p then
    match (s.port p).rx with
    | .hunting => if b = Config.syncByte then s.modPort p fun x => { x with rx := .inFrame [] 0 } else s
    | .inFrame bytes _ => s.takeFrameBytes p (bytes ++ [b])
  else s

/-- A whole valid frame arrives at a port (log entry 1). At a listening receiver that hunts it is processed; otherwise
its bytes are taken one by one as the receiver stands. -/
def State.frameArrives (s : State) (p : Port) (kind seq : Byte) (payload : List Byte) : State :=
  if s.listening p ∧ (s.port p).rx = .hunting ∧ payload.length ≤ Config.maxPayload then
    s.processFrame p kind seq payload
  else (frameBytes kind seq payload).foldl (State.receiveByte p) s

/-! ## The commands of the frame layer -/

/-- FRAME_BAD_CRC at a listening port (R158). -/
def State.takeBadCrc (s : State) (p : Port) : State := if s.listening p then s.discardBadCrc p else s

/-- FRAME_OVERLENGTH at a listening port (R158). -/
def State.takeOverlength (s : State) (p : Port) : State := if s.listening p then s.abandonOverlength p else s

/-- FRAME_GAP at a port that is within a frame (R158). -/
def State.takeGap (s : State) (p : Port) : State :=
  match (s.port p).rx with
  | .inFrame _ _ => s.hunt p
  | .hunting => s

/-- RESPONSE_END at a port that sends (R159). -/
def State.takeResponseEnd (s : State) (p : Port) : State :=
  match (s.port p).tx with
  | some _ => s.modPort p fun _ => { rx := .hunting, tx := none }
  | none => s

/-- FRAME_BAD_CRC (R158). -/
def execFrameBadCrc (p : Port) (s : State) : Host.Outcome State Fault Refusal := .next (s.takeBadCrc p)

/-- FRAME_OVERLENGTH (R158). -/
def execFrameOverlength (p : Port) (s : State) : Host.Outcome State Fault Refusal := .next (s.takeOverlength p)

/-- FRAME_GAP (R158). -/
def execFrameGap (p : Port) (s : State) : Host.Outcome State Fault Refusal := .next (s.takeGap p)

/-- RESPONSE_END (R159). -/
def execResponseEnd (p : Port) (s : State) : Host.Outcome State Fault Refusal := .next (s.takeResponseEnd p)

/-- BYTE_RECEIVED (R157). -/
def execByteReceived (p : Port) (b : Byte) (s : State) : Host.Outcome State Fault Refusal :=
  .next (State.receiveByte p s b)

end Sys2Proof.Machine
end

