-- ==== Sys2Proof/Machine/Requests.lean ====
section
/-! DEFINITION. The request commands: a valid frame of one kind arrives at a port (R159, R160). Each is a row of the
table with a meaning of its own over the shared operation `frameArrives`. -/

namespace Sys2Proof.Machine

/-- DECLARE (R164): a frame of this kind arrives. -/
def execDeclare (p : Port) (seq : Byte) (payload : List Byte) (s : State) : Host.Outcome State Fault Refusal :=
  .next (s.frameArrives p Kind.declare.code seq payload)

/-- CYCLE (R165): a frame of this kind arrives. -/
def execCycle (p : Port) (seq : Byte) (payload : List Byte) (s : State) : Host.Outcome State Fault Refusal :=
  .next (s.frameArrives p Kind.cycle.code seq payload)

/-- READ_STATUS (R171): a frame of this kind arrives. -/
def execReadStatus (p : Port) (seq : Byte) (payload : List Byte) (s : State) : Host.Outcome State Fault Refusal :=
  .next (s.frameArrives p Kind.readStatus.code seq payload)

/-- READ_INCIDENT (R64): a frame of this kind arrives. -/
def execReadIncident (p : Port) (seq : Byte) (payload : List Byte) (s : State) : Host.Outcome State Fault Refusal :=
  .next (s.frameArrives p Kind.readIncident.code seq payload)

/-- READ_BANKS (R24): a frame of this kind arrives. -/
def execReadBanks (p : Port) (seq : Byte) (payload : List Byte) (s : State) : Host.Outcome State Fault Refusal :=
  .next (s.frameArrives p Kind.readBanks.code seq payload)

/-- READ_MANIFOLDS (R24): a frame of this kind arrives. -/
def execReadManifolds (p : Port) (seq : Byte) (payload : List Byte) (s : State) : Host.Outcome State Fault Refusal :=
  .next (s.frameArrives p Kind.readManifolds.code seq payload)

/-- READ_LINK (R171): a frame of this kind arrives. -/
def execReadLink (p : Port) (seq : Byte) (payload : List Byte) (s : State) : Host.Outcome State Fault Refusal :=
  .next (s.frameArrives p Kind.readLink.code seq payload)

/-- READ_CIRCUITS (R142): a frame of this kind arrives. -/
def execReadCircuits (p : Port) (seq : Byte) (payload : List Byte) (s : State) : Host.Outcome State Fault Refusal :=
  .next (s.frameArrives p Kind.readCircuits.code seq payload)

/-- READ_CONTACTS (R155): a frame of this kind arrives. -/
def execReadContacts (p : Port) (seq : Byte) (payload : List Byte) (s : State) : Host.Outcome State Fault Refusal :=
  .next (s.frameArrives p Kind.readContacts.code seq payload)

/-- READ_PLAN (R184): a frame of this kind arrives. -/
def execReadPlan (p : Port) (seq : Byte) (payload : List Byte) (s : State) : Host.Outcome State Fault Refusal :=
  .next (s.frameArrives p Kind.readPlan.code seq payload)

/-- WRITE_PLAN (R177): a frame of this kind arrives. -/
def execWritePlan (p : Port) (seq : Byte) (payload : List Byte) (s : State) : Host.Outcome State Fault Refusal :=
  .next (s.frameArrives p Kind.writePlan.code seq payload)

/-- SET_LOCK (R183): a frame of this kind arrives. -/
def execSetLock (p : Port) (seq : Byte) (payload : List Byte) (s : State) : Host.Outcome State Fault Refusal :=
  .next (s.frameArrives p Kind.setLock.code seq payload)

/-- ISOLATE (R21): a frame of this kind arrives. -/
def execIsolate (p : Port) (seq : Byte) (payload : List Byte) (s : State) : Host.Outcome State Fault Refusal :=
  .next (s.frameArrives p Kind.isolate.code seq payload)

/-- DEISOLATE (R22): a frame of this kind arrives. -/
def execDeisolate (p : Port) (seq : Byte) (payload : List Byte) (s : State) : Host.Outcome State Fault Refusal :=
  .next (s.frameArrives p Kind.deisolate.code seq payload)

/-- STAND_DOWN (R58): a frame of this kind arrives. -/
def execStandDown (p : Port) (seq : Byte) (payload : List Byte) (s : State) : Host.Outcome State Fault Refusal :=
  .next (s.frameArrives p Kind.standDown.code seq payload)

/-- RETRY (R60): a frame of this kind arrives. -/
def execRetry (p : Port) (seq : Byte) (payload : List Byte) (s : State) : Host.Outcome State Fault Refusal :=
  .next (s.frameArrives p Kind.retry.code seq payload)

/-- RECHARGED (R23): a frame of this kind arrives. -/
def execRecharged (p : Port) (seq : Byte) (payload : List Byte) (s : State) : Host.Outcome State Fault Refusal :=
  .next (s.frameArrives p Kind.recharged.code seq payload)

/-- LINK_START (R162): a frame of this kind arrives. -/
def execLinkStart (p : Port) (seq : Byte) (payload : List Byte) (s : State) : Host.Outcome State Fault Refusal :=
  .next (s.frameArrives p Kind.linkStart.code seq payload)

/-- LINK_STOP (R163): a frame of this kind arrives. -/
def execLinkStop (p : Port) (seq : Byte) (payload : List Byte) (s : State) : Host.Outcome State Fault Refusal :=
  .next (s.frameArrives p Kind.linkStop.code seq payload)

/-- UNKNOWN_KIND (R160): a frame arrives whose kind is not a request kind. -/
def execUnknownKind (p : Port) (kind seq : Byte) (payload : List Byte) (s : State) : Host.Outcome State Fault Refusal :=
  .next (s.frameArrives p kind seq payload)

end Sys2Proof.Machine
end

