-- ==== Sys2Proof/Machine/Restart.lean ====
section
/-! DEFINITION. The restart (00_scope 7.4): every block's state set from the plan store's last completed writes (R25, R39,
R65, R88, R106, R129, R143, R156, R157, R161, R185), and the command RESTART. -/

namespace Sys2Proof.Machine

/-- A bank's state after a restart: SPENT where the store holds its mark, else READY (R25). A mark whose clearing was not
completed counts as held, also where the bank's new mark waits in the spent-mark queue (R23, R185; log entry 31). -/
def bankAfterRestart (marked : Bool) : BankState := if marked then .spent else .ready

/-- The selector circuit of a hall after a restart: present where the manifold's reach holds the hall (R143). -/
def circuitAfterRestart (reached : Bool) : Option Circuit := if reached then some Circuit.fresh else none

/-- A hall link after a restart: AWAITING_DECLARE where the port is present in the site record, else STOPPED (R161). -/
def linkAfterRestart (present : Bool) : Link :=
  Link.restarted (if present then .awaitingDeclare else .stopped)

/-- A restart. Only the store survives it; the waiting commands and the count of open choices are the model's own and
stay (log entry 26). A bank of the spent-mark queue whose old mark was still being cleared is SPENT, by R23 and R185 and
against R129 and R180 (log entry 31). -/
def State.restart (s : State) : State where
  pending := s.pending
  work := s.nvPlan
  nvPlan := s.nvPlan
  nvSpent := s.nvSpent
  overlay := false
  write := none
  markQueue := []
  banks := s.nvSpent.mapId fun _ marked => bankAfterRestart marked
  initiators := PerBank.fill false
  mans := PerMan.fill { state := .free, flowConfirmed := false, timer := .stopped }
  selectors := PerMan.fill (PerHall.fill { energised := false, proven := false })
  halls := PerHall.fill Hall.restarted
  confCounter := 1
  waitList := []
  queue := []
  slots := PerSlot.fill .empty
  bankCircuits := PerBank.fill Circuit.fresh
  selCircuits := s.nvPlan.mans.mapId fun _ r => r.reach.mapId fun _ on => circuitAfterRestart on
  position := none
  measuring := none
  contacts := PerLine.fill (PerLine.fill { raw := false, debounced := false, count := 0 })
  returns := PerLine.fill { faulted := false, clean := 0 }
  scan := .drive .l0
  links := s.nvPlan.site.portMask.mapId fun _ on => linkAfterRestart on
  hallPorts := PerHall.fill PortIo.restarted
  stationPort := PortIo.restarted
  freeCount := s.freeCount

/-- RESTART (R25, R185). The records start afresh, their change numbers with them (R65). -/
def execRestart (s : State) : Host.Outcome State Fault Refusal := .next s.restart

end Sys2Proof.Machine
end

