-- ==== Sys2Proof/Machine/Time.lean ====
section
/-! DEFINITION. The idle step: one millisecond in which the coordinator's timers run (log entry 2) and the timed events
that fall due are taken, in an open order where there are several (log entry 3). The dwells of the scanner, the
measurement interval, the ends of measurements, writes, responses and bytes are commands only (log entry 21). -/

namespace Sys2Proof.Machine

/-! ## One millisecond of each clock -/

/-- The incident clock of an open incident: whole seconds, staying at 65535 (R41). -/
def IncidentClock.tick (c : IncidentClock) : IncidentClock :=
  if c.ms + 1 < 1000 then { c with ms := c.ms + 1 }
  else { secs := min Config.clockSaturation (c.secs + 1), ms := 0 }

/-- A running wait clock: tenths, staying at 65535 (R70). -/
def WaitClock.tick (w : WaitClock) : WaitClock :=
  if w.ms + 1 < 100 then { w with ms := w.ms + 1 }
  else { w with tenths := min Config.clockSaturation (w.tenths + 1), ms := 0 }

/-- A millisecond of COUNTDOWN: at each whole tenth the remaining time falls by one; the last tenth is kept until the
expiry is taken (R90, R104). -/
def Hall.tickCountdown (x : Hall) : Hall :=
  if x.stay.ms + 1 < 100 then { x with stay := { x.stay with ms := x.stay.ms + 1 } }
  else if 1 < x.inc.countdown.getD 0 then
    { x with inc := { x.inc with countdown := some (x.inc.countdown.getD 0 - 1) }, stay := ⟨0, true⟩ }
  else { x with stay := { x.stay with ms := 100 } }

/-- A millisecond of HELD: at each whole tenth hold used rises by one; the tenth that reaches the hold limit is kept
until the override is taken (R90, R98). -/
def Hall.tickHeld (limit : Nat) (x : Hall) : Hall :=
  if x.stay.ms + 1 < 100 then { x with stay := { x.stay with ms := x.stay.ms + 1 } }
  else if x.inc.holdUsed + 1 < limit then
    { x with inc := { x.inc with holdUsed := x.inc.holdUsed + 1 }, stay := ⟨0, true⟩ }
  else { x with stay := { x.stay with ms := 100 } }

/-- A millisecond of the measure of R90; `limit` is the hold limit in tenths. -/
def Hall.tickStay (limit : Nat) (x : Hall) : Hall :=
  if x.inc.state = .countdown then x.tickCountdown
  else if x.inc.state = .held then x.tickHeld limit
  else x

/-- A millisecond of a hall's clocks and timers. -/
def Hall.tick (limit : Nat) (x : Hall) : Hall :=
  let stayed := x.tickStay limit
  { stayed with
    clock := if x.inc.isOpen then x.clock.tick else x.clock
    wait := x.wait.map WaitClock.tick
    discharge := x.discharge.map Timer.tick }

/-- A millisecond of a manifold's running timer (R107). -/
def ManTimer.tick : ManTimer → ManTimer
  | .stopped => .stopped
  | .selector t => .selector t.tick
  | .flow t => .flow t.tick
  | .vent t => .vent t.tick

/-- A millisecond of a pulse (R119). -/
def Slot.tick : Slot → Slot
  | .empty => .empty
  | .marking b => .marking b
  | .pulsing b ms => .pulsing b (ms - 1)

/-- A millisecond of a receiver's gap measure (R158). -/
def Receiver.tick : Receiver → Receiver
  | .hunting => .hunting
  | .inFrame bytes gapMs => .inFrame bytes (gapMs + 1)

/-- A millisecond of a port. -/
def PortIo.tick (x : PortIo) : PortIo := { x with rx := x.rx.tick }

/-- A millisecond of every clock and timer. -/
def State.advance (s : State) : State :=
  { s with
    halls := s.halls.mapId fun h (x : Hall) => x.tick (10 * (s.hallPlan h).holdLimit)
    mans := s.mans.mapId fun _ (x : Manifold) => { x with timer := x.timer.tick }
    slots := s.slots.mapId fun _ (x : Slot) => x.tick
    links := s.links.mapId fun _ (x : Link) => { x with silence := x.silence.map Timer.tick }
    hallPorts := s.hallPorts.mapId fun _ (x : PortIo) => x.tick
    stationPort := s.stationPort.tick }

/-! ## The timed events -/

/-- The events that the passage of time brings. -/
inductive Timed where
  | silence (h : HallId)
  | countdown (h : HallId)
  | budget (h : HallId)
  | waitLimit (h : HallId)
  | discharge (h : HallId)
  | manifold (m : ManId)
  | pulse (i : SlotId)
  | gap (p : Port)
  deriving DecidableEq, Repr

/-- Every timed event there can be. -/
def Timed.all : List Timed :=
  HallId.all.map Timed.silence ++ HallId.all.map Timed.countdown ++ HallId.all.map Timed.budget ++
  HallId.all.map Timed.waitLimit ++ HallId.all.map Timed.discharge ++ ManId.all.map Timed.manifold ++
  [.pulse .s1, .pulse .s2] ++ Port.all.map Timed.gap

/-- A manifold's running timer has run its time. -/
def ManTimer.due : ManTimer → Bool
  | .stopped => false
  | .selector t => t.due
  | .flow t => t.due
  | .vent t => t.due

/-- A hall in the given state has run the tenth of its measure that ends the stay. -/
def State.stayDue (s : State) (h : HallId) (x : HallState) : Bool :=
  s.hallState h == x && decide (100 ≤ (s.hall h).stay.ms)

/-- A timed event is due. -/
def State.timedDue (s : State) : Timed → Bool
  | .silence h => (s.link h).silence.any Timer.due
  | .countdown h => s.stayDue h .countdown
  | .budget h => s.stayDue h .held
  | .waitLimit h => (s.hall h).wait.any fun w => !w.elapsed && decide (s.waitTenths h ≤ w.tenths)
  | .discharge h => (s.hall h).discharge.any Timer.due
  | .manifold m => (s.man m).timer.due
  | .pulse i =>
    match s.slots.get i with
    | .pulsing _ ms => ms == 0
    | .marking _ => false
    | .empty => false
  | .gap p =>
    match (s.port p).rx with
    | .inFrame _ gapMs => decide (Config.gapLimitMs ≤ gapMs)
    | .hunting => false

/-- A manifold's timer expires: the event of the timer it runs (R110, R122, R125). -/
def State.takeManifoldTimer (s : State) (m : ManId) : State :=
  match (s.man m).timer with
  | .stopped => s
  | .selector _ => s.takeSelectorTimeout m
  | .flow _ => s.takeFlowTimeout m
  | .vent _ => s.takeVentExpiry m

/-- The effect of a timed event: that of its row. -/
def State.takeTimed (s : State) : Timed → State
  | .silence h => s.takeSilence h
  | .countdown h => s.takeCountdownExpiry h
  | .budget h => s.takeBudgetOverride h
  | .waitLimit h => s.takeWaitLimit h
  | .discharge h => s.takeDischargeExpiry h
  | .manifold m => s.takeManifoldTimer m
  | .pulse i => s.takePulseEnd i
  | .gap p => s.takeGap p

/-- A timed event is taken where it is still due, as an event of its own (R63). -/
def State.takeIfDue (s : State) (e : Timed) : State :=
  if s.timedDue e then s.asEvent fun t => t.takeTimed e else s

/-- The timed events that are due. -/
def State.dueEvents (s : State) : List Timed := Timed.all.filter s.timedDue

/-- The idle step (log entry 2): a millisecond runs and the events that fall due are taken one after the other. -/
def State.tick (s : State) : State :=
  let ran := s.advance
  (orderOf ran.freeCount ran.dueEvents).foldl State.takeIfDue (ran.spendChoices (choicesFor ran.dueEvents))

end Sys2Proof.Machine
end

