-- ==== Sys2Proof/Machine/Dispatch.lean ====
section
/-! DEFINITION. Each command to its meaning. -/

namespace Sys2Proof.Machine

/-- The effect of a command on everything but the queue of commands. -/
def exec (i : Instr) (s : State) : Host.Outcome State Fault Refusal :=
  match i with
  | .restart => Sys2Proof.Machine.execRestart s
  | .declare p seq payload => Sys2Proof.Machine.execDeclare p seq payload s
  | .cycle p seq payload => Sys2Proof.Machine.execCycle p seq payload s
  | .readStatus p seq payload => Sys2Proof.Machine.execReadStatus p seq payload s
  | .readIncident p seq payload => Sys2Proof.Machine.execReadIncident p seq payload s
  | .readBanks p seq payload => Sys2Proof.Machine.execReadBanks p seq payload s
  | .readManifolds p seq payload => Sys2Proof.Machine.execReadManifolds p seq payload s
  | .readLink p seq payload => Sys2Proof.Machine.execReadLink p seq payload s
  | .readCircuits p seq payload => Sys2Proof.Machine.execReadCircuits p seq payload s
  | .readContacts p seq payload => Sys2Proof.Machine.execReadContacts p seq payload s
  | .readPlan p seq payload => Sys2Proof.Machine.execReadPlan p seq payload s
  | .writePlan p seq payload => Sys2Proof.Machine.execWritePlan p seq payload s
  | .setLock p seq payload => Sys2Proof.Machine.execSetLock p seq payload s
  | .isolate p seq payload => Sys2Proof.Machine.execIsolate p seq payload s
  | .deisolate p seq payload => Sys2Proof.Machine.execDeisolate p seq payload s
  | .standDown p seq payload => Sys2Proof.Machine.execStandDown p seq payload s
  | .retry p seq payload => Sys2Proof.Machine.execRetry p seq payload s
  | .recharged p seq payload => Sys2Proof.Machine.execRecharged p seq payload s
  | .linkStart p seq payload => Sys2Proof.Machine.execLinkStart p seq payload s
  | .linkStop p seq payload => Sys2Proof.Machine.execLinkStop p seq payload s
  | .unknownKind p kind seq payload => Sys2Proof.Machine.execUnknownKind p kind seq payload s
  | .frameBadCrc p => Sys2Proof.Machine.execFrameBadCrc p s
  | .frameOverlength p => Sys2Proof.Machine.execFrameOverlength p s
  | .frameGap p => Sys2Proof.Machine.execFrameGap p s
  | .responseEnd p => Sys2Proof.Machine.execResponseEnd p s
  | .silenceTimerExpiry h => Sys2Proof.Machine.execSilenceTimerExpiry h s
  | .countdownExpiry h => Sys2Proof.Machine.execCountdownExpiry h s
  | .budgetOverride h => Sys2Proof.Machine.execBudgetOverride h s
  | .waitLimitElapsing h => Sys2Proof.Machine.execWaitLimitElapsing h s
  | .selectorTimeout m => Sys2Proof.Machine.execSelectorTimeout m s
  | .flowTimeout m => Sys2Proof.Machine.execFlowTimeout m s
  | .dischargePeriodExpiry h => Sys2Proof.Machine.execDischargePeriodExpiry h s
  | .ventTimerExpiry m => Sys2Proof.Machine.execVentTimerExpiry m s
  | .pulseEnd slot => Sys2Proof.Machine.execPulseEnd slot s
  | .spentMarkCompletion => Sys2Proof.Machine.execSpentMarkCompletion s
  | .storeWriteCompletion => Sys2Proof.Machine.execStoreWriteCompletion s
  | .measurementInterval => Sys2Proof.Machine.execMeasurementInterval s
  | .comparatorTrip count => Sys2Proof.Machine.execComparatorTrip count s
  | .counterPasses4095 => Sys2Proof.Machine.execCounterPasses4095 s
  | .driveDwellEnd sample => Sys2Proof.Machine.execDriveDwellEnd sample s
  | .darkDwellEnd sample => Sys2Proof.Machine.execDarkDwellEnd sample s
  | .byteReceived p b => Sys2Proof.Machine.execByteReceived p b s

end Sys2Proof.Machine
end

