-- ==== Sys2Proof/Safety.lean ====
section
/-! DEFINITION. What counts as a sound state of the coordinator: the laws that the manual names, and the vocabulary in
which the statements speak of what a command leaves alone. -/

namespace Sys2Proof.Machine

/-! ## A port that hears a request -/

/-- The port's receiver listens and hunts, so that a whole frame that arrives is processed (R157, R159, R163). -/
def State.portReady (s : State) (p : Port) : Prop := s.listening p = true ∧ (s.port p).rx = .hunting

/-- The row of a request kind (R172). -/
def Kind.row (k : Kind) (p : Port) (seq : Byte) (payload : List Byte) : Instr :=
  match k with
  | .declare => .declare p seq payload
  | .cycle => .cycle p seq payload
  | .readStatus => .readStatus p seq payload
  | .readIncident => .readIncident p seq payload
  | .readBanks => .readBanks p seq payload
  | .readManifolds => .readManifolds p seq payload
  | .readLink => .readLink p seq payload
  | .readCircuits => .readCircuits p seq payload
  | .readContacts => .readContacts p seq payload
  | .readPlan => .readPlan p seq payload
  | .writePlan => .writePlan p seq payload
  | .setLock => .setLock p seq payload
  | .isolate => .isolate p seq payload
  | .deisolate => .deisolate p seq payload
  | .standDown => .standDown p seq payload
  | .retry => .retry p seq payload
  | .recharged => .recharged p seq payload
  | .linkStart => .linkStart p seq payload
  | .linkStop => .linkStop p seq payload

/-- A REFUSED response to a request: the request's kind and a refusal code (R160, R172, R173). -/
def refusedFrame (kind seq : Byte) (c : RefusalCode) : List Byte := frameBytes 0xFF seq [kind, c.code]

/-- An ACCEPTED response: the request's kind and the items of R174 (R160, R172, R174). -/
def acceptedFrame (kind seq : Byte) (items : List Byte) : List Byte := frameBytes 0xFE seq (kind :: items)

/-- Bytes that arrive at a port one after the other, each a BYTE_RECEIVED command. -/
def feedBytes (p : Port) (bytes : List Byte) (s : State) : Host.Outcome State Fault Refusal :=
  bytes.foldl
    (fun o b =>
      match o with
      | .next t => exec (.byteReceived p b) t
      | .fault r => .fault r
      | .refused r => .refused r)
    (.next s)

/-- The dwell of drive line `d` is in progress and its sample, at its end, changes one debounced state: that of return
line `r`, which becomes `closed` (R146, R147). -/
def State.sees (s : State) (d r : Line) (closed : Bool) (sample : BitVec 8) : Prop :=
  s.scan = .drive d ∧ s.turning d sample = [r] ∧ sampleBit sample r = closed

/-! ## What a command may leave alone -/

/-- The plan store less its working copies: what survives a restart, and the write and marks under way (R175). -/
def State.storePart (s : State) : Plan × PerBank Bool × Bool × Option StoreWrite × List BankId :=
  (s.nvPlan, s.nvSpent, s.overlay, s.write, s.markQueue)

/-- The bank and manifold tables (R1, R12). -/
def State.inventoryPart (s : State) : PerBank BankState × PerMan Manifold := (s.banks, s.mans)

/-- The Release Driver's outputs, queue and slots (R107). -/
def State.driverPart (s : State) : PerBank Bool × PerMan (PerHall Selector) × List BankId × PerSlot Slot :=
  (s.initiators, s.selectors, s.queue, s.slots)

/-- The Line Supervisor's records (R130). -/
def State.linesPart (s : State) :
    PerBank Circuit × PerMan (PerHall (Option Circuit)) × Option CircuitId × Option Measurement :=
  (s.bankCircuits, s.selCircuits, s.position, s.measuring)

/-- The Contact Matrix Scanner's state (R144). -/
def State.scannerPart (s : State) : PerLine (PerLine Contact) × PerLine ReturnLine × ScanPos :=
  (s.contacts, s.returns, s.scan)

/-- The Hall Sequencer's and the Allocator's state (R41, R50, R75). -/
def State.hallsPart (s : State) : PerHall Hall × Nat × List HallId := (s.halls, s.confCounter, s.waitList)

/-- The links and the receivers and transmitters of the ports (R157, R161). -/
def State.portsPart (s : State) : PerHall Link × PerHall PortIo × PortIo := (s.links, s.hallPorts, s.stationPort)

/-! ## The layouts of R172 to R174 -/

/-- The number that bytes spell, most significant byte first (09 section 9.5). -/
def spelled (bytes : List Byte) : Nat := bytes.foldl (fun n b => n * 256 + b.toNat) 0

/-- The `size` bytes of a payload from byte `place` on carry the number `n`. -/
def carries (payload : List Byte) (place size n : Nat) : Prop :=
  ((payload.drop place).take size).length = size ∧ spelled ((payload.drop place).take size) = n % 256 ^ size

/-- A bit of a packed byte. -/
def flagBit (on : Bool) (place : Nat) : Nat := if on = true then 2 ^ place else 0

/-- A set of halls or ports as a mask: bit n - 1 for Hn or Pn (09 section 9.5). -/
def maskNumber (t : PerHall Bool) : Nat := (HallId.all.map fun h => flagBit (t.get h) (h.num - 1)).sum

/-- A temperature as a byte: two's complement, -128 where absent (R172). -/
def tempNumber (t : Option Int) : Nat := (BitVec.ofInt 8 (t.getD (-128))).toNat

/-- The incident flags as a number (R172). -/
def Flags.number (f : Flags) : Nat :=
  flagBit f.holdOverridden 0 + flagBit f.manualOverride 1 + flagBit f.isPartial 2 + flagBit f.shortfall 3 +
  flagBit f.concHigh 4 + flagBit f.countdownSpent 5 + flagBit f.noFlow 6 + flagBit f.selectorLost 7 +
  flagBit f.lateLockout 8 + flagBit f.designShort 9

/-- The number of an optional hall; 0 where absent (R172). -/
def hallNumber (h : Option HallId) : Nat := (h.map HallId.num).getD 0

/-- A CYCLE_RESULT of hall `h` (R170, R173). -/
def State.cycleLaidOut (s : State) (h : HallId) (r : List Byte) : Prop :=
  r.length = 17 ∧ carries r 0 1 (s.hallState h).code.toNat ∧ carries r 1 2 ((s.inc h).countdown.getD 0xFFFF) ∧
  carries r 3 1 (flagBit (s.holdDemand h) 0) ∧ carries r 4 2 (s.inc h).change.toNat ∧
  carries r 6 3 (s.available h) ∧ carries r 9 3 ((s.inc h).required.getD 0xFFFFFF) ∧
  carries r 12 3 (s.inc h).total ∧ carries r 15 2 (s.inc h).flags.number

/-- A READ_INCIDENT reply of hall `h` (R64, R173). -/
def State.incidentLaidOut (s : State) (h : HallId) (r : List Byte) : Prop :=
  let i := s.inc h
  let k := i.latched.length
  r.length = 31 + 4 * k + 3 * i.alloc.length ∧
  carries r 0 1 h.num ∧ carries r 1 2 i.number.toNat ∧ carries r 3 2 i.change.toNat ∧ carries r 5 1 i.state.code.toNat ∧
  carries r 6 1 (flagBit i.isOpen 0 + flagBit i.manualSeen 1) ∧ carries r 7 1 (causeCode i.cause).toNat ∧
  carries r 8 4 (i.confNumber.getD 0) ∧ carries r 12 1 (tempNumber i.tLow) ∧ carries r 13 1 (tempNumber i.tHigh) ∧
  carries r 14 3 (i.required.getD 0xFFFFFF) ∧ carries r 17 3 i.total ∧ carries r 20 2 (i.estimate.getD 0xFFFF) ∧
  carries r 22 2 (i.countdown.getD 0xFFFF) ∧ carries r 24 2 i.holdUsed ∧ carries r 26 2 i.flags.number ∧
  carries r 28 1 (closingCode i.closing).toNat ∧ carries r 29 1 k ∧
  (∀ n e, i.latched[n]? = some e →
    carries r (30 + 4 * n) 1 e.zone.toNat ∧ carries r (31 + 4 * n) 1 e.group.code.toNat ∧
    carries r (32 + 4 * n) 2 e.time) ∧
  carries r (30 + 4 * k) 1 i.alloc.length ∧
  ∀ n e, i.alloc[n]? = some e →
    carries r (31 + 4 * k + 3 * n) 1 e.bank.num ∧ carries r (32 + 4 * k + 3 * n) 2 e.quantity

/-- A READ_BANKS reply (R24, R173). -/
def State.banksLaidOut (s : State) (r : List Byte) : Prop :=
  r.length = 105 ∧
  (∀ b : BankId,
    let at0 := 13 * (b.num - 1)
    let p := s.bankPlan b
    carries r at0 1 (s.bank b).code.toNat ∧ carries r (at0 + 1) 1 (hallNumber (s.bank b).hall) ∧
    carries r (at0 + 2) 1
      (flagBit (p.manifold == .m2) 0 + flagBit (p.role == .reserve) 1 + flagBit (s.work.bankIsolated.get b) 2 +
        flagBit (s.lowPressure b) 3) ∧
    carries r (at0 + 3) 1 p.cylinders ∧ carries r (at0 + 4) 2 p.fill ∧
    carries r (at0 + 6) 2 (p.cylinders * p.fill) ∧ carries r (at0 + 8) 2 p.openLimit ∧
    carries r (at0 + 10) 2 p.shortLimit ∧ carries r (at0 + 12) 1 (s.bankCircuits.get b).condition.code) ∧
  carries r 104 1 s.selection.code.toNat

/-- A READ_MANIFOLDS reply (R24, R127, R174). -/
def State.manifoldsLaidOut (s : State) (r : List Byte) : Prop :=
  r.length = 30 ∧
  ∀ m : ManId,
    let at0 := 15 * (m.num - 1)
    let p := s.manPlan m
    carries r at0 1 (s.man m).state.code.toNat ∧ carries r (at0 + 1) 1 (hallNumber (s.holder m)) ∧
    carries r (at0 + 2) 1 (maskNumber p.reach) ∧ carries r (at0 + 3) 2 p.openLimit ∧
    carries r (at0 + 5) 2 p.shortLimit ∧ carries r (at0 + 7) 1 p.selectorTimeout ∧
    carries r (at0 + 8) 1 p.flowTimeout ∧ carries r (at0 + 9) 2 p.ventTime ∧
    carries r (at0 + 11) 1
      (flagBit (s.man m).flowConfirmed 0 +
        flagBit ((s.holder m).any fun h => (s.selector m h).energised) 1 +
        flagBit ((s.holder m).any fun h => (s.selector m h).proven) 2) ∧
    carries r (at0 + 12) 1
      (match (s.man m).timer with | .stopped => 0 | .selector _ => 1 | .flow _ => 2 | .vent _ => 3) ∧
    carries r (at0 + 13) 2
      (match (s.man m).timer with
        | .stopped => 0xFFFF | .selector x => x.tenths | .flow x => x.tenths | .vent x => x.tenths)

/-- A slot's bank and phase in a READ_STATUS reply (R172, R174). -/
def Slot.laidOut (x : Slot) (r : List Byte) (place : Nat) : Prop :=
  carries r place 1 (match x with | .empty => 0 | .marking b => b.num | .pulsing b _ => b.num) ∧
  carries r (place + 1) 1 (match x with | .empty => 0 | .marking _ => 1 | .pulsing _ _ => 2)

/-- A READ_STATUS reply (R78, R127, R171, R174). -/
def State.statusLaidOut (s : State) (r : List Byte) : Prop :=
  let w := s.waitList.length
  let q := s.queue.length
  r.length = 68 + 5 * w + q ∧
  (∀ h : HallId,
    let at0 := 9 * (h.num - 1)
    carries r at0 1 (s.hallState h).code.toNat ∧ carries r (at0 + 1) 2 (s.inc h).change.toNat ∧
    carries r (at0 + 3) 3 (s.available h) ∧
    carries r (at0 + 6) 1 (flagBit (s.holdDemand h) 0 + flagBit (s.isolated h) 1 + flagBit (s.lockout h) 2) ∧
    carries r (at0 + 7) 2 (((s.hall h).discharge.map Timer.tenths).getD 0xFFFF)) ∧
  carries r 54 1 w ∧
  (∀ n h, s.waitList[n]? = some h →
    carries r (55 + 5 * n) 1 h.num ∧ carries r (56 + 5 * n) 4 ((s.inc h).confNumber.getD 0)) ∧
  carries r (55 + 5 * w) 1 q ∧ (∀ n b, s.queue[n]? = some b → carries r (56 + 5 * w + n) 1 b.num) ∧
  (s.slots.get .s1).laidOut r (56 + 5 * w + q) ∧ (s.slots.get .s2).laidOut r (58 + 5 * w + q) ∧
  carries r (60 + 5 * w + q) 1 (flagBit s.write.isSome 0) ∧ carries r (61 + 5 * w + q) 1 s.markQueue.length ∧
  carries r (62 + 5 * w + q) 1 s.work.lock.code.toNat ∧ carries r (63 + 5 * w + q) 1 (flagBit s.overlay 0) ∧
  carries r (64 + 5 * w + q) 4 s.confCounter

/-- A READ_LINK reply of port Pn (R171, R174). -/
def State.linkLaidOut (s : State) (h : HallId) (r : List Byte) : Prop :=
  let l := s.link h
  let zones := l.zones.getD []
  r.length = 9 + 3 * zones.length ∧
  carries r 0 1 h.num ∧ carries r 1 1 l.state.code.toNat ∧
  carries r 2 1
    (flagBit l.sticky.crcSeen 0 + flagBit l.sticky.overlengthSeen 1 + flagBit l.sticky.silenceSeen 2 +
      flagBit l.sticky.invalidSeen 3) ∧
  carries r 3 2 ((l.silence.map Timer.tenths).getD 0xFFFF) ∧ carries r 5 1 (flagBit l.hold 0) ∧
  carries r 6 1 (tempNumber l.low) ∧ carries r 7 1 (tempNumber l.high) ∧ carries r 8 1 zones.length ∧
  ∀ n z, zones[n]? = some z →
    carries r (9 + 3 * n) 1 z.id.toNat ∧ carries r (10 + 3 * n) 1 z.group.code.toNat ∧
    carries r (11 + 3 * n) 1 z.held.code.toNat

/-- The identity of a circuit: the bank number, or 16 m + h for the selector of Mm for Hh (R174). -/
def CircuitId.number : CircuitId → Nat
  | .bank b => b.num
  | .selector m h => 16 * m.num + h.num

/-- The present circuits of a part in rotation order (R142, R171). -/
def State.circuitsOf (s : State) (part : CircuitPart) : List (CircuitId × Circuit) :=
  match part with
  | .bank => BankId.all.map fun b => (.bank b, s.bankCircuits.get b)
  | .selector =>
    ManId.all.flatMap fun m =>
      HallId.all.filterMap fun h => ((s.selCircuits.get m).get h).map fun x => (.selector m h, x)

/-- A READ_CIRCUITS reply of a part (R142, R174). -/
def State.circuitsLaidOut (s : State) (part : CircuitPart) (r : List Byte) : Prop :=
  let l := s.circuitsOf part
  r.length = 3 + 8 * l.length ∧
  carries r 0 1 (match part with | .bank => 1 | .selector => 2) ∧
  carries r 1 1 (match s.position with | none => 0 | some c => c.number) ∧ carries r 2 1 l.length ∧
  ∀ n c x, l[n]? = some (c, x) →
    carries r (3 + 8 * n) 1 c.number ∧
    carries r (4 + 8 * n) 2
      (match c with | .bank b => (s.bankPlan b).openLimit | .selector m _ => (s.manPlan m).openLimit) ∧
    carries r (6 + 8 * n) 2
      (match c with | .bank b => (s.bankPlan b).shortLimit | .selector m _ => (s.manPlan m).shortLimit) ∧
    carries r (8 + 8 * n) 2 (match x.last with | .count k => k | .over => 0xFFFE | .absent => 0xFFFF) ∧
    carries r (10 + 8 * n) 1
      (x.condition.code + (match x.run with | none => 0 | some k => 4 * k.kind.code + 16 * k.length) +
        flagBit x.driven 6 + flagBit (match c with | .bank b => s.bank b == .spent | .selector _ _ => false) 7)

/-- A READ_CONTACTS reply (R155, R174). -/
def State.contactsLaidOut (s : State) (r : List Byte) : Prop :=
  r.length = 73 ∧
  (∀ d e : Line, carries r (8 * d.num + e.num) 1
    (flagBit (s.contact d e).raw 0 + flagBit (s.contact d e).debounced 1 + 4 * (s.contact d e).count)) ∧
  (∀ e : Line, carries r (64 + e.num) 1 (flagBit (s.returns.get e).faulted 0 + 2 * (s.returns.get e).clean)) ∧
  carries r 72 1 s.selection.code.toNat

/-- A READ_PLAN reply of a record (R174, R184). -/
def State.planLaidOut (s : State) (name : RecordName) (r : List Byte) : Prop :=
  match name with
  | .site =>
    let p := s.work.site
    r.length = 8 ∧ carries r 0 1 1 ∧ carries r 1 1 1 ∧ carries r 2 2 p.k1 ∧ carries r 4 2 p.k2 ∧
    carries r 6 1 (maskNumber p.portMask) ∧ carries r 7 1 p.silence
  | .man m =>
    let p := s.work.mans.get m
    r.length = 11 ∧ carries r 0 1 2 ∧ carries r 1 1 m.num ∧ carries r 2 1 (maskNumber p.reach) ∧
    carries r 3 2 p.openLimit ∧ carries r 5 2 p.shortLimit ∧ carries r 7 1 p.selectorTimeout ∧
    carries r 8 1 p.flowTimeout ∧ carries r 9 2 p.ventTime
  | .bank b =>
    let p := s.work.banks.get b
    r.length = 12 ∧ carries r 0 1 3 ∧ carries r 1 1 b.num ∧ carries r 2 1 p.manifold.num ∧
    carries r 3 1 (match p.role with | .main => 0 | .reserve => 1) ∧ carries r 4 1 p.cylinders ∧
    carries r 5 2 p.fill ∧ carries r 7 2 p.openLimit ∧ carries r 9 2 p.shortLimit ∧
    carries r 11 1 (flagBit (s.bank b == .spent) 0 + flagBit (s.work.bankIsolated.get b) 1)
  | .hall h =>
    let p := s.work.halls.get h
    r.length = 23 + p.preference.length ∧ carries r 0 1 4 ∧ carries r 1 1 h.num ∧
    carries r 2 1 (match p.rule with | .cross => 1 | .double => 2) ∧ carries r 3 1 (flagBit p.fallback 0) ∧
    carries r 4 2 p.volume ∧ carries r 6 2 p.design ∧ carries r 8 2 p.maximum ∧
    carries r 10 1 (tempNumber (some p.designLow)) ∧ carries r 11 1 (tempNumber (some p.designHigh)) ∧
    carries r 12 1 p.autoDelay ∧ carries r 13 1 p.manualDelay ∧ carries r 14 2 p.holdLimit ∧
    carries r 16 1 p.restartFloor ∧ carries r 17 1 (flagBit p.partialPermitted 0) ∧ carries r 18 2 p.waitLimit ∧
    carries r 20 1 p.discharge ∧ carries r 21 1 p.preference.length ∧
    (∀ n b, p.preference[n]? = some b → carries r (22 + n) 1 b.num) ∧
    carries r (22 + p.preference.length) 1 (flagBit (s.work.hallIsolated.get h) 1)

/-- The payload of a request kind has the form of its kind, on a port whose link has `n` declared zones (R162 to R165,
R171 to R174, R183). -/
def Kind.wellFormed (n : Nat) (k : Kind) (payload : List Byte) : Prop :=
  match k with
  | .declare =>
    ∃ entries : List (Byte × Byte),
      payload = (entries.flatMap fun e => [e.1, e.2]) ++ [0] ∧ 1 ≤ entries.length ∧ entries.length ≤ 16 ∧
      (entries.map Prod.fst).Nodup ∧ ∀ e, e ∈ entries → ¬ e.1 = 0 ∧ 1 ≤ e.2.toNat ∧ e.2.toNat ≤ 4
  | .cycle =>
    payload.length = n + 3 ∧ (∀ b, b ∈ payload.take n → b.toNat ≤ 3) ∧
    (payload[n]? = some 0 ∨ payload[n]? = some 1) ∧
    ∀ b, b ∈ payload.drop (n + 1) → b = 0x80 ∨ (-40 ≤ b.toInt ∧ b.toInt ≤ 85)
  | .readStatus => payload = []
  | .readBanks => payload = []
  | .readManifolds => payload = []
  | .readContacts => payload = []
  | .readIncident => ∃ b, payload = [b] ∧ 1 ≤ b.toNat ∧ b.toNat ≤ 6
  | .readLink => ∃ b, payload = [b] ∧ 1 ≤ b.toNat ∧ b.toNat ≤ 6
  | .standDown => ∃ b, payload = [b] ∧ 1 ≤ b.toNat ∧ b.toNat ≤ 6
  | .retry => ∃ b, payload = [b] ∧ 1 ≤ b.toNat ∧ b.toNat ≤ 6
  | .recharged => ∃ b, payload = [b] ∧ 1 ≤ b.toNat ∧ b.toNat ≤ 8
  | .readCircuits => ∃ b, payload = [b] ∧ 1 ≤ b.toNat ∧ b.toNat ≤ 2
  | .setLock => ∃ b, payload = [b] ∧ b.toNat ≤ 3
  | .linkStart => ∃ b, payload = [b] ∧ 1 ≤ b.toNat ∧ b.toNat ≤ 63
  | .linkStop => ∃ b, payload = [b] ∧ 1 ≤ b.toNat ∧ b.toNat ≤ 63
  | .isolate => ∃ a b, payload = [a, b] ∧ 1 ≤ b.toNat ∧ ((a = 1 ∧ b.toNat ≤ 6) ∨ (a = 2 ∧ b.toNat ≤ 8))
  | .deisolate => ∃ a b, payload = [a, b] ∧ 1 ≤ b.toNat ∧ ((a = 1 ∧ b.toNat ≤ 6) ∨ (a = 2 ∧ b.toNat ≤ 8))
  | .readPlan =>
    ∃ a b, payload = [a, b] ∧ 1 ≤ b.toNat ∧
      ((a = 1 ∧ b.toNat ≤ 1) ∨ (a = 2 ∧ b.toNat ≤ 2) ∨ (a = 3 ∧ b.toNat ≤ 8) ∨ (a = 4 ∧ b.toNat ≤ 6))
  | .writePlan =>
    ∃ a b body, payload = a :: b :: body ∧
      ((a = 1 ∧ body.length = 6) ∨ (a = 2 ∧ body.length = 9) ∨ (a = 3 ∧ body.length = 9) ∨
        (a = 4 ∧ ∃ p, body[19]? = some p ∧ 1 ≤ p.toNat ∧ p.toNat ≤ 8 ∧ body.length = 20 + p.toNat))

/-! ## One idle millisecond (log entry 2) -/

/-- A running timer after a millisecond: a tenth falls at each whole one, the last is kept until its expiry is taken. -/
def Timer.ranTo (x y : Timer) : Prop :=
  (x.ms < 99 → y = ⟨x.tenths, x.ms + 1⟩) ∧ (99 ≤ x.ms → 1 < x.tenths → y = ⟨x.tenths - 1, 0⟩) ∧
  (99 ≤ x.ms → x.tenths ≤ 1 → y = ⟨x.tenths, 100⟩)

/-- A timer that may be stopped: it stays so, or runs. -/
def timerRanTo : Option Timer → Option Timer → Prop
  | none, y => y = none
  | some _, none => False
  | some x, some y => x.ranTo y

/-- A hall after a millisecond; `limit` is the hold limit in tenths. The incident clock runs in an open incident (R41), the
wait clock once started (R70), the discharge timer while it runs (R123). In COUNTDOWN the remaining time falls at each
whole tenth, in HELD hold used rises at each whole tenth; the tenth that ends the stay is kept until the expiry or the
override is taken (R90, R96, R98). Nothing else of the record moves, and the change number does not (R63, R90). -/
def Hall.ranTo (limit : Nat) (x y : Hall) : Prop :=
  (x.inc.isOpen = false → y.clock = x.clock) ∧
  (x.inc.isOpen = true → x.clock.ms < 999 → y.clock = ⟨x.clock.secs, x.clock.ms + 1⟩) ∧
  (x.inc.isOpen = true → 999 ≤ x.clock.ms → y.clock = ⟨min 65535 (x.clock.secs + 1), 0⟩) ∧
  (x.wait = none → y.wait = none) ∧
  (∀ w, x.wait = some w →
    (w.ms < 99 → y.wait = some { w with ms := w.ms + 1 }) ∧
    (99 ≤ w.ms → y.wait = some { w with tenths := min 65535 (w.tenths + 1), ms := 0 })) ∧
  timerRanTo x.discharge y.discharge ∧
  (¬ x.inc.state = .countdown → ¬ x.inc.state = .held → y.inc = x.inc ∧ y.stay = x.stay) ∧
  (x.inc.state = .countdown ∨ x.inc.state = .held → x.stay.ms < 99 →
    y.inc = x.inc ∧ y.stay = { x.stay with ms := x.stay.ms + 1 }) ∧
  (x.inc.state = .countdown → 99 ≤ x.stay.ms → ∀ n, x.inc.countdown = some n →
    (1 < n → y.inc = { x.inc with countdown := some (n - 1) } ∧ y.stay = ⟨0, true⟩) ∧
    (n ≤ 1 → y.inc = x.inc ∧ y.stay = { x.stay with ms := 100 })) ∧
  (x.inc.state = .held → 99 ≤ x.stay.ms →
    (x.inc.holdUsed + 1 < limit → y.inc = { x.inc with holdUsed := x.inc.holdUsed + 1 } ∧ y.stay = ⟨0, true⟩) ∧
    (limit ≤ x.inc.holdUsed + 1 → y.inc = x.inc ∧ y.stay = { x.stay with ms := 100 }))

/-- A manifold's timer after a millisecond (R107). -/
def ManTimer.ranTo : ManTimer → ManTimer → Prop
  | .stopped, y => y = .stopped
  | .selector x, .selector y => x.ranTo y
  | .flow x, .flow y => x.ranTo y
  | .vent x, .vent y => x.ranTo y
  | _, _ => False

/-- A port after a millisecond: within a frame the gap since its last byte grows (R158). -/
def PortIo.ranTo (x y : PortIo) : Prop :=
  y.tx = x.tx ∧ (x.rx = .hunting → y.rx = .hunting) ∧
  ∀ bytes gap, x.rx = .inFrame bytes gap → y.rx = .inFrame bytes (gap + 1)

/-- A millisecond ran and took no event yet. -/
def State.ranTo (s u : State) : Prop :=
  (∀ h, (s.hall h).ranTo (10 * (s.hallPlan h).holdLimit) (u.hall h)) ∧
  (∀ m, (u.man m).state = (s.man m).state ∧ (u.man m).flowConfirmed = (s.man m).flowConfirmed ∧
    (s.man m).timer.ranTo (u.man m).timer) ∧
  (∀ i, u.slots.get i =
    match s.slots.get i with
    | .empty => .empty
    | .marking b => .marking b
    | .pulsing b ms => .pulsing b (ms - 1)) ∧
  (∀ h, timerRanTo (s.link h).silence (u.link h).silence ∧ u.link h = { s.link h with silence := (u.link h).silence }) ∧
  (∀ p, (s.port p).ranTo (u.port p)) ∧
  u =
    { s with
      halls := u.halls
      mans := u.mans
      slots := u.slots
      links := u.links
      hallPorts := u.hallPorts
      stationPort := u.stationPort }

/-- A timer has run its time. -/
def Timer.hasRun (x : Timer) : Bool := decide (x.tenths ≤ 1) && decide (100 ≤ x.ms)

/-- The row of a timer that has run its time: silence, countdown and hold measures, wait limit, selector, flow, vent and
discharge timers, a pulse, the inter-byte gap (R90, R98, R70, R107, R119, R158, R166). No other row comes with time (log
entry 21). -/
def State.rowDue (s : State) : Instr → Bool
  | .silenceTimerExpiry h => (s.link h).silence.any Timer.hasRun
  | .countdownExpiry h => s.hallState h == .countdown && decide (100 ≤ (s.hall h).stay.ms)
  | .budgetOverride h => s.hallState h == .held && decide (100 ≤ (s.hall h).stay.ms)
  | .waitLimitElapsing h =>
    (s.hall h).wait.any fun w => !w.elapsed && decide (10 * (s.hallPlan h).waitLimit ≤ w.tenths)
  | .selectorTimeout m => match (s.man m).timer with | .selector x => x.hasRun | _ => false
  | .flowTimeout m => match (s.man m).timer with | .flow x => x.hasRun | _ => false
  | .ventTimerExpiry m => match (s.man m).timer with | .vent x => x.hasRun | _ => false
  | .dischargePeriodExpiry h => (s.hall h).discharge.any Timer.hasRun
  | .pulseEnd i => match s.slots.get i with | .pulsing _ ms => decide (ms = 0) | _ => false
  | .frameGap p => match (s.port p).rx with | .inFrame _ gap => decide (20 ≤ gap) | .hunting => false
  | _ => false

/-- A row that came with time is taken where no earlier one of the same millisecond stopped or restarted its timer. -/
def State.takeDueRow (s : State) (c : Instr) : State :=
  if s.rowDue c = true then
    match exec c s with
    | .next t => t
    | .fault _ => s
    | .refused _ => s
  else s

/-! ## What an event does to a hall and leaves to the others -/

/-- What no allocation, countdown or release touches: the non-volatile content of the store and its overlay, the
confirmation counter, the scanner, the links and the ports of the halls. -/
def State.outsideKept (s t : State) : Prop :=
  t.nvPlan = s.nvPlan ∧ t.nvSpent = s.nvSpent ∧ t.overlay = s.overlay ∧ t.confCounter = s.confCounter ∧
  t.scannerPart = s.scannerPart ∧ t.links = s.links ∧ t.hallPorts = s.hallPorts

/-- Every hall but `h` that does not wait keeps its records: no attempt is made for it (R66). -/
def State.othersKept (s t : State) (h : HallId) : Prop :=
  ∀ g, ¬ g = h → ¬ g ∈ s.waitList → t.hall g = s.hall g

/-- The reservations of hall `h` have been returned (R87): no bank of its list stays RESERVED to it, no manifold CLAIMED
by or SELECTING for it, its list keeps the other entries, and its estimate goes with the last of them. Where no other
hall waits, every bank and manifold is as the return left it. -/
def State.returnedTo (s t : State) (h : HallId) : Prop :=
  (∀ b, b ∈ (s.inc h).allocBanks → ¬ t.bank b = .reserved h) ∧
  (∀ m, ¬ (t.man m).state = .claimed h ∧ ¬ (t.man m).state = .selecting h) ∧
  (t.inc h).alloc = (s.inc h).alloc.filter (fun e => !(s.bank e.bank == .reserved h)) ∧
  (t.inc h).estimate = (if (t.inc h).alloc = [] then none else (s.inc h).estimate) ∧
  ((∀ g, g ∈ s.waitList → g = h) →
    (∀ b, t.bank b = if b ∈ (s.inc h).allocBanks ∧ s.bank b = .reserved h then .ready else s.bank b) ∧
    ∀ m,
      t.man m =
        (if (s.man m).state = .claimed h ∨ (s.man m).state = .selecting h then
          { state := .free, flowConfirmed := false, timer := .stopped }
        else s.man m) ∧
      ((s.man m).state = .claimed h ∨ (s.man m).state = .selecting h → t.selector m h = ⟨false, false⟩))

/-- The parts of hall `h`'s record that no step of an allocation, a countdown or a release writes: they name the
incident and say how it was confirmed (R61). -/
def State.sameIncident (s t : State) (h : HallId) : Prop :=
  (t.inc h).number = (s.inc h).number ∧ (t.inc h).cause = (s.inc h).cause ∧
  (t.inc h).confNumber = (s.inc h).confNumber ∧ (t.inc h).latched = (s.inc h).latched ∧
  (t.hall h).clock = (s.hall h).clock

/-- Hall `h` went to SELECTING (R55, R108): its CLAIMED manifolds are SELECTING with their selectors energised, unproven,
and their timers started; every other manifold and selector is as it was. -/
def State.selectingFrom (s t : State) (h : HallId) : Prop :=
  t.hallState h = .selecting ∧ (t.inc h).countdown = none ∧
  ∀ m,
    ((s.man m).state = .claimed h →
      (t.man m).state = .selecting h ∧
      (t.man m).timer = .selector (Timer.startSeconds (s.manPlan m).selectorTimeout) ∧
      t.selector m h = ⟨true, false⟩ ∧
      ∀ x, (t.selCircuits.get m).get h = some x → x.driven = true ∧ x.run = none) ∧
    (¬ (s.man m).state = .claimed h → t.man m = s.man m ∧ t.selectors.get m = s.selectors.get m) ∧
    ∀ g, ¬ g = h → t.selector m g = s.selector m g

/-- The sum of the quantities of an allocation list (R61). -/
def entriesTotal (l : List AllocEntry) : Nat := (l.map AllocEntry.quantity).sum

/-- The estimate for an allocation list at the recorded T_high; absent for an empty one (R34, R35). -/
def State.estimateFor (s : State) (h : HallId) (l : List AllocEntry) : Option Nat :=
  if l = [] then none
  else some (estimatedConcentration (s.hallPlan h).volume (entriesTotal l) (s.volumeAt (s.recordedHigh h)))

/-- The computation was recorded for hall `h`, and its incident stayed the same (R26, R33, R61). -/
def State.computedFor (s t : State) (h : HallId) : Prop :=
  (t.inc h).required = some (s.computeRequired h) ∧ (t.inc h).tLow = some (s.chooseLow h) ∧
  (t.inc h).tHigh = some (s.chooseHigh h) ∧ s.sameIncident t h

/-- Hall `h` holds the manifold in CLAIMED once the banks `taken` are reserved to it (R13, R68). -/
def State.claimedWith (s : State) (h : HallId) (taken : List BankId) (m : ManId) : Prop :=
  (s.man m).state = .claimed h ∨ ((s.man m).state = .free ∧ ∃ b, b ∈ taken ∧ s.manifoldOf b = m)

/-- What an attempt that took the banks `taken` for hall `h` left when it succeeded: exactly they are reserved and listed,
the estimate follows the list (R34 to R36), the FREE manifolds they lie on are claimed, the hall left the wait list and is
in COUNTDOWN, HELD or SELECTING; in SELECTING its CLAIMED manifolds are SELECTING with their selectors energised, whose
circuits are driven and no longer measured (R53 to R55, R68, R69, R77, R108, R133). -/
def State.allocatedTo (s t : State) (h : HallId) (taken : List BankId) : Prop :=
  (∀ b, t.bank b = if b ∈ taken then .reserved h else s.bank b) ∧
  (t.inc h).alloc = s.entriesFor taken ∧
  (t.inc h).estimate = t.estimateFor h (t.inc h).alloc ∧
  ((t.inc h).flags.concHigh = true ↔
    (s.inc h).flags.concHigh = true ∨ ∃ c, (t.inc h).estimate = some c ∧ (s.hallPlan h).maximum < c) ∧
  ((t.inc h).flags.isPartial = true ↔
    (s.inc h).flags.isPartial = true ∨ s.sumOf taken < s.computeRequired h) ∧
  (∀ m,
    (s.claimedWith h taken m →
      t.man m =
        if t.hallState h = .selecting then
          { s.man m with
            state := .selecting h, timer := .selector (Timer.startSeconds (s.manPlan m).selectorTimeout) }
        else { s.man m with state := .claimed h }) ∧
    (¬ s.claimedWith h taken m → t.man m = s.man m) ∧
    (s.claimedWith h taken m ∧ t.hallState h = .selecting →
      t.selectors.get m = (s.selectors.get m).set h ⟨true, false⟩ ∧
      t.selCircuits.get m =
        (s.selCircuits.get m).set h
          (((s.selCircuits.get m).get h).map fun c => { c with driven := true, run := none })) ∧
    (¬ (s.claimedWith h taken m ∧ t.hallState h = .selecting) →
      t.selectors.get m = s.selectors.get m ∧ t.selCircuits.get m = s.selCircuits.get m)) ∧
  (∀ x, t.measuring = some x ↔
    s.measuring = some x ∧
    ¬ ∃ m, x.circuit = .selector m h ∧ s.claimedWith h taken m ∧ t.hallState h = .selecting) ∧
  t.waitList = s.waitList.filter (fun g => !(g == h)) ∧
  ((s.inc h).flags.countdownSpent = true ∨ t.startDelay h = 0 → t.hallState h = .selecting) ∧
  ((s.inc h).flags.countdownSpent = false → ¬ t.startDelay h = 0 →
    (t.inc h).countdown = some (10 * t.startDelay h) ∧
    t.hallState h = if s.holdDemand h = true ∧ t.mayHold h = true then .held else .countdown)

/-- A single attempt made for hall `h` (R66, R73): the computation is recorded either way; a success reserves exactly the
banks of the walk, claims the FREE manifolds they lie on and leads to COUNTDOWN, HELD or SELECTING; a failure changes no
bank, no manifold and no allocation and leads to WAITING (R53, R54, R67, R68). -/
def State.attemptedFrom (s t : State) (h : HallId) : Prop :=
  s.computedFor t h ∧
  (s.attemptSucceeds h (s.attemptTakes h (s.protectedFrom h)) = true →
    s.allocatedTo t h (s.attemptTakes h (s.protectedFrom h))) ∧
  (s.attemptSucceeds h (s.attemptTakes h (s.protectedFrom h)) = false →
    t.banks = s.banks ∧ t.mans = s.mans ∧ (t.inc h).alloc = (s.inc h).alloc ∧ t.hallState h = .waiting ∧
    h ∈ t.waitList)

/-! ## A re-examination (R72, R80) -/

/-- Hall `h`'s computation recorded and nothing else: what a failed attempt in a re-examination leaves (R26, R33, R37,
R72). -/
def State.withComputation (s : State) (h : HallId) : State :=
  { s with
    halls :=
      s.halls.set h
        { s.hall h with
          inc :=
            { s.inc h with
              tLow := some (s.chooseLow h)
              tHigh := some (s.chooseHigh h)
              required := some (s.computeRequired h)
              flags :=
                { (s.inc h).flags with
                  designShort :=
                    (s.inc h).flags.designShort ||
                    decide
                      (s.sumOf ((s.preference h).filter fun b => !(s.bank b == .spent)) < s.computeRequired h) } } } }

/-- Hall `h` was attempted with the banks `guarded` protected. A success touches the bank and manifold tables, the
selectors and their circuits, the hall's own record and the wait list; a failure leaves the hall in its place with its computation (R72,
R80). -/
def State.examinedTo (s u : State) (h : HallId) (guarded : List BankId) : Prop :=
  (s.attemptSucceeds h (s.attemptTakes h guarded) = true →
    s.computedFor u h ∧ s.allocatedTo u h (s.attemptTakes h guarded) ∧
    u =
      { s with
        banks := u.banks
        mans := u.mans
        selectors := u.selectors
        selCircuits := u.selCircuits
        measuring := u.measuring
        halls := s.halls.set h (u.hall h)
        waitList := u.waitList }) ∧
  (s.attemptSucceeds h (s.attemptTakes h guarded) = false → u = s.withComputation h)

/-- The halls `l` were attempted in turn, each on the state that the one before it left. A hall that failed adds its
preference list to the banks protected from those behind it, one that succeeded adds nothing (R72, R80). -/
def State.walkedTo : List HallId → List BankId → State → State → Prop
  | [], _, s, v => v = s
  | h :: rest, guarded, s, v =>
    ∃ u, s.examinedTo u h guarded ∧
      (s.attemptSucceeds h (s.attemptTakes h guarded) = true → State.walkedTo rest guarded u v) ∧
      (s.attemptSucceeds h (s.attemptTakes h guarded) = false → State.walkedTo rest (guarded ++ s.preference h) u v)

/-- One re-examination of the wait list as it stands, with nothing protected at its start (R72, R80). -/
def State.reexaminedTo (s v : State) : Prop := State.walkedTo s.waitList [] s v

/-- The event that began in `s` led to `u`, one re-examination of `u` followed, and the event ended in `t`: each hall's
change number advanced where its record changed (R63, R79, R80). The station's port stands aside. -/
def State.thenReexamined (s u t : State) : Prop :=
  ∃ v : State, u.reexaminedTo v ∧ t = { v with halls := t.halls, stationPort := t.stationPort } ∧
    ∀ g, t.hall g =
      { v.hall g with
        inc :=
          { v.inc g with
            change :=
              (s.inc g).change +
                if { v.inc g with change := 0 } = { s.inc g with change := 0 } then 0 else 1 } }

/-- The accepted plan record `e` was taken: the working copy holds it and its write has begun; a bank circuit's run is
emptied where a limit changes, the selector circuits of a manifold follow its reach, and a measurement of a circuit that
is no longer present is abandoned (R131, R138, R177). -/
def State.editedTo (s u : State) (e : PlanEdit) : Prop :=
  u =
    { s with
      work := e.apply s.work
      write := some (.plan e)
      bankCircuits := u.bankCircuits
      selCircuits := u.selCircuits
      measuring :=
        match e with
        | .man _ _ => s.measuring.filter fun x => (u.circuit x.circuit).isSome
        | _ => s.measuring } ∧
  (∀ b, u.bankCircuits.get b =
    match e with
    | .bank c r =>
      if b = c ∧ ¬ (r.openLimit = (s.bankPlan b).openLimit ∧ r.shortLimit = (s.bankPlan b).shortLimit) then
        { s.bankCircuits.get b with run := none }
      else s.bankCircuits.get b
    | _ => s.bankCircuits.get b) ∧
  ∀ m h, (u.selCircuits.get m).get h =
    match e with
    | .man n r =>
      if m = n then
        if r.reach.get h = true then
          match (s.selCircuits.get m).get h with
          | none => some { last := .absent, condition := .untested, run := none, driven := false }
          | some x =>
            if r.openLimit = (s.manPlan m).openLimit ∧ r.shortLimit = (s.manPlan m).shortLimit then some x
            else some { x with run := none }
        else none
      else (s.selCircuits.get m).get h
    | _ => (s.selCircuits.get m).get h

/-- How a WRITE_PLAN that began in `s` and took its record in `u` ends in `t`: with one re-examination after a bank or
manifold record, with none after a site or hall record (R177). -/
def PlanEdit.endsIn (s u t : State) : PlanEdit → Prop
  | .bank _ _ => s.thenReexamined u t
  | .man _ _ => s.thenReexamined u t
  | .site _ => t = { u with stationPort := t.stationPort }
  | .hall _ _ => t = { u with stationPort := t.stationPort }

/-- The event that began in `s` changed hall `h`'s record to that of `t`, took the hall out of the wait list, left banks
and manifolds as `u` has them, and a re-examination that did not concern `h` followed (R77, R79). -/
def State.leadsThrough (s u t : State) (h : HallId) : Prop :=
  u =
    { s with
      work := t.work
      write := t.write
      contacts := t.contacts
      scan := t.scan
      banks := u.banks
      mans := u.mans
      selectors := u.selectors
      selCircuits := u.selCircuits
      halls := s.halls.set h { t.hall h with inc := { t.inc h with change := (s.inc h).change } }
      waitList := s.waitList.filter fun g => !(g == h) } ∧
  s.thenReexamined u t

/-- The manifolds of hall `h` that `freed` names are FREE in `u`, its selectors on them de-energised and their circuits no
longer driven; every other manifold and selector is as it was (R15, R16, R113, R133). -/
def State.manifoldsFreed (s u : State) (h : HallId) (freed : ManId → Prop) : Prop :=
  ∀ m,
    (freed m →
      u.man m = { state := .free, flowConfirmed := false, timer := .stopped } ∧
      u.selectors.get m = (s.selectors.get m).set h ⟨false, false⟩ ∧
      u.selCircuits.get m =
        (s.selCircuits.get m).set h (((s.selCircuits.get m).get h).map fun c => { c with driven := false })) ∧
    (¬ freed m →
      u.man m = s.man m ∧ u.selectors.get m = s.selectors.get m ∧ u.selCircuits.get m = s.selCircuits.get m)

/-- Every reservation and claim of hall `h` is given back in `u` (R7, R16, R87). -/
def State.handedBack (s u : State) (h : HallId) : Prop :=
  (∀ b, u.bank b = if b ∈ (s.inc h).allocBanks ∧ s.bank b = .reserved h then .ready else s.bank b) ∧
  s.manifoldsFreed u h fun m => (s.man m).state = .claimed h ∨ (s.man m).state = .selecting h

/-- Hall `h` went to INHIBITED because isolation or LOCKOUT came into force in WAITING, COUNTDOWN or HELD (R51): what it
held is given back, and a re-examination follows (R79, R87). -/
def State.inhibitedFrom (s t : State) (h : HallId) : Prop :=
  t.hallState h = .inhibited ∧ (t.inc h).countdown = none ∧ (t.inc h).isOpen = (s.inc h).isOpen ∧
  s.sameIncident t h ∧ (t.inc h).manualSeen = (s.inc h).manualSeen ∧ (t.inc h).flags = (s.inc h).flags ∧
  (t.inc h).required = (s.inc h).required ∧ (t.inc h).change = (s.inc h).change + 1 ∧
  (t.hall h).wait = (s.hall h).wait ∧
  (t.inc h).holdUsed =
    (s.inc h).holdUsed +
      (if s.hallState h = .held ∧ (0 < (s.hall h).stay.ms ∨ (s.hall h).stay.counted = false) then 1 else 0) ∧
  ¬ h ∈ t.waitList ∧ s.othersKept t h ∧ (¬ s.hallState h = .waiting → s.returnedTo t h) ∧
  ∃ u, s.leadsThrough u t h ∧
    (s.hallState h = .waiting → s.manifoldsFreed u h (fun _ => False) ∧ u.banks = s.banks) ∧
    (¬ s.hallState h = .waiting → s.handedBack u h)

/-! ## Outcomes of a countdown -/

/-- Where the banks of a hall join the tail of the queue (R116): the free slots, slot 1 first, take the head of the queue
in turn, each enters MARKING and requests its bank's mark, which is written at once where the store is idle and else
waits behind the marks already waiting (R117, R118, R180). -/
def State.queuedFrom (s t : State) (joining : List BankId) : Prop :=
  let line := s.queue ++ joining
  let first := if s.slots.get .s1 = .empty then 1 else 0
  let second := if s.slots.get .s2 = .empty then 1 else 0
  t.queue = line.drop (first + second) ∧
  t.slots.get .s1 =
    (if s.slots.get .s1 = .empty then (match line with | [] => .empty | c :: _ => .marking c) else s.slots.get .s1) ∧
  t.slots.get .s2 =
    (if s.slots.get .s2 = .empty then (match line.drop first with | [] => .empty | c :: _ => .marking c)
      else s.slots.get .s2) ∧
  t.write =
    (match s.write, line.take (first + second) with
      | none, [] => none
      | none, c :: _ => some (.setMark c)
      | some w, _ => some w) ∧
  t.markQueue =
    s.markQueue ++ (if s.write = none then (line.take (first + second)).drop 1 else line.take (first + second))

/-- Hall `h` joined the wait list in `u` at its rank: behind the halls that rank before it (R75, R76). -/
def State.joinedAt (s u : State) (h : HallId) : Prop :=
  ∃ before after, s.waitList = before ++ after ∧ u.waitList = before ++ h :: after ∧
    (∀ g, g ∈ before → s.ranksBefore g h = true) ∧ ∀ g, after.head? = some g → s.ranksBefore g h = false

/-- Hall `h` waits in `u` with flags `f`, what it held given back, at its rank in the wait list (R76, R87): no attempt has
been made for it yet. -/
def State.sentBackInto (s u : State) (h : HallId) (f : Flags) : Prop :=
  let kept := (s.inc h).alloc.filter fun e => !(s.bank e.bank == .reserved h)
  u =
    { s with
      banks := u.banks
      mans := u.mans
      selectors := u.selectors
      selCircuits := u.selCircuits
      halls :=
        s.halls.set h
          { s.hall h with
            inc :=
              { s.inc h with
                state := .waiting
                countdown := none
                alloc := kept
                estimate := if kept = [] then none else (s.inc h).estimate
                flags := f } }
      waitList := u.waitList } ∧
  s.handedBack u h ∧ s.joinedAt u h

/-- Hall `h` was sent back to wait with flags `f`: its reservations were returned (R87), it was entered in the wait list at
its rank, and the re-examination that followed attempted it in its place (R76, R80, R85, R103): a walk over the wait list
on the state `u` that the return left. Left in WAITING the hall holds nothing. Where no other hall waits, the walk is the
one attempt for it. -/
def State.sentBackTo (s t : State) (h : HallId) (f : Flags) : Prop :=
  (∃ u, s.sentBackInto u h f ∧ s.thenReexamined u t) ∧
  s.sameIncident t h ∧ (t.inc h).holdUsed = (s.inc h).holdUsed ∧ (t.inc h).countdown = none ∧
  (t.inc h).flags.countdownSpent = true ∧
  ((t.hallState h = .waiting ∧ h ∈ t.waitList ∧ s.returnedTo t h) ∨
    (t.hallState h = .selecting ∧ ¬ h ∈ t.waitList)) ∧
  (s.waitList = [] →
    ∃ u : State,
      s.returnedTo u h ∧ s.sameIncident u h ∧ u.hallState h = .waiting ∧ u.waitList = [h] ∧ (u.inc h).flags = f ∧
      (u.hall h).wait = (s.hall h).wait ∧ u.work = s.work ∧ u.contacts = s.contacts ∧ u.links = s.links ∧
      (∀ c, u.circuitUsable c = s.circuitUsable c) ∧ u.attemptedFrom t h)

/-- Hall `h`'s countdown expired (R102). Met, or short with banks where partial release is permitted or PARTIAL is set,
the hall is in SELECTING; else COUNTDOWN_SPENT is set and it is sent back to wait (R103). -/
def State.expiredFrom (s t : State) (h : HallId) : Prop :=
  s.sameIncident t h ∧ (t.inc h).holdUsed = (s.inc h).holdUsed ∧ (t.inc h).countdown = none ∧
  (¬ (s.inc h).alloc = [] → s.recordedRequired h ≤ (s.inc h).total →
    s.selectingFrom t h ∧ t.banks = s.banks ∧ t.waitList = s.waitList ∧ (t.inc h).alloc = (s.inc h).alloc ∧
    (t.inc h).flags = (s.inc h).flags) ∧
  (¬ (s.inc h).alloc = [] → (s.inc h).total < s.recordedRequired h →
    ((s.hallPlan h).partialPermitted = true ∨ (s.inc h).flags.isPartial = true) →
    s.selectingFrom t h ∧ t.banks = s.banks ∧ t.waitList = s.waitList ∧ (t.inc h).alloc = (s.inc h).alloc ∧
    (t.inc h).flags = { (s.inc h).flags with isPartial := true }) ∧
  (((s.inc h).alloc = [] ∨
      ((s.inc h).total < s.recordedRequired h ∧ (s.hallPlan h).partialPermitted = false ∧
        (s.inc h).flags.isPartial = false)) →
    s.sentBackTo t h { (s.inc h).flags with countdownSpent := true })

/-! ## A withdrawal (R82 to R85) -/

/-- A bank that the replacement for hall `h` may take, with the banks `unfit` withdrawn in the event (R83). -/
def State.mayReplace (s : State) (h : HallId) (unfit : List BankId) (b : BankId) : Bool :=
  s.eligible h b && !(s.protectedFrom h).contains b && !unfit.contains b &&
  (!(s.hallState h == .selecting) || s.holder (s.manifoldOf b) == some h)

/-- The banks a replacement takes from the first `n` entries of the preference list (R83). -/
def State.takenBy (s : State) (h : HallId) (unfit : List BankId) (n : Nat) : List BankId :=
  ((s.preference h).take n).filter (s.mayReplace h unfit)

/-- The allocation list after the withdrawal and the replacement from the first `n` entries: the other entries stay, the
banks taken are appended in their order (R82, R83). -/
def State.listAfter (s : State) (h : HallId) (unfit : List BankId) (n : Nat) : List AllocEntry :=
  ((s.inc h).alloc.filter fun e => !unfit.contains e.bank) ++ s.entriesFor (s.takenBy h unfit n)

/-- The replacement's walk goes through the first `n` entries: it stops at the first that brings the total to the recorded
required quantity, or at the end of the list (R83). -/
def State.replacesThrough (s : State) (h : HallId) (unfit : List BankId) (n : Nat) : Prop :=
  n ≤ (s.preference h).length ∧
  (n = (s.preference h).length ∨ s.recordedRequired h ≤ entriesTotal (s.listAfter h unfit n)) ∧
  ∀ k, k < n → entriesTotal (s.listAfter h unfit k) < s.recordedRequired h

/-- Hall `h` with the list `l`, the state `x` and the flags `f` that a withdrawal leaves it: the estimate follows the list
and sets CONC_HIGH where it exceeds the maximum (R35, R36); nothing else of the hall moves. -/
def State.reallocated (s : State) (h : HallId) (l : List AllocEntry) (x : HallState) (f : Flags) : Hall :=
  { s.hall h with
    inc :=
      { s.inc h with
        state := x
        alloc := l
        estimate := s.estimateFor h l
        flags :=
          { f with
            concHigh := f.concHigh || (s.estimateFor h l).any fun c => decide ((s.hallPlan h).maximum < c) } } }

/-- Hall `h` after an event whose withdrawal leaves it the list `l`, the state `x` and the flags `f`: the change number
advanced (R63). -/
def State.reallocatedTo (s t : State) (h : HallId) (l : List AllocEntry) (x : HallState) (f : Flags) : Prop :=
  t.hall h =
    { s.reallocated h l x f with inc := { (s.reallocated h l x f).inc with change := (s.inc h).change + 1 } }

/-- The tables after hall `h` lost the banks `unfit` and took `taken`, its banks now in the state `x`: the others and
theirs stay; a manifold on which it is left with no bank becomes FREE with its selector de-energised, a FREE one of a
bank taken is CLAIMED (R16, R82, R83). -/
def State.settledTo (s t : State) (h : HallId) (unfit taken : List BankId) (x : BankState) : Prop :=
  (∀ b, t.bank b =
    if b ∈ taken ∨ (s.bank b = .reserved h ∧ ¬ b ∈ unfit) then x
    else if s.bank b = .reserved h then .ready else s.bank b) ∧
  ∀ m,
    ((s.man m).state = .claimed h ∨ (s.man m).state = .selecting h →
      ((∃ b, s.manifoldOf b = m ∧ (b ∈ taken ∨ (s.bank b = .reserved h ∧ ¬ b ∈ unfit))) →
        t.man m = s.man m ∧ t.selectors.get m = s.selectors.get m ∧ t.selCircuits.get m = s.selCircuits.get m) ∧
      ((∀ b, s.manifoldOf b = m → ¬ (b ∈ taken ∨ (s.bank b = .reserved h ∧ ¬ b ∈ unfit))) →
        t.man m = { state := .free, flowConfirmed := false, timer := .stopped } ∧
        t.selectors.get m = (s.selectors.get m).set h ⟨false, false⟩ ∧
        t.selCircuits.get m =
          (s.selCircuits.get m).set h (((s.selCircuits.get m).get h).map fun c => { c with driven := false }))) ∧
    (¬ ((s.man m).state = .claimed h ∨ (s.man m).state = .selecting h) →
      t.selectors.get m = s.selectors.get m ∧ t.selCircuits.get m = s.selCircuits.get m ∧
      t.man m =
        if (s.man m).state = .free ∧ taken.any (fun b => s.manifoldOf b == m) = true then
          { s.man m with state := .claimed h }
        else s.man m)

/-- The banks `unfit`, RESERVED to hall `h` in a state that meets the laws of the tables, are withdrawn (R82): `s` is the
state with the new condition. In COUNTDOWN and HELD the countdown and the hold budget run on, with SHORTFALL where the
total is left short (R84). In SELECTING the release goes on where the total is met, or short with banks where partial
release is permitted, and enters DISCHARGING where no unproven selector is left; else the hall is sent back to wait
(R85). The tables are stated where no other hall waits. -/
def State.withdrawnFrom (s t : State) (h : HallId) (unfit : List BankId) : Prop :=
  ∃ n, n ≤ (s.preference h).length ∧ s.replacesThrough h unfit n ∧
    (s.hallState h = .countdown ∨ s.hallState h = .held →
      s.reallocatedTo t h (s.listAfter h unfit n) (s.hallState h)
        { (s.inc h).flags with
          shortfall :=
            (s.inc h).flags.shortfall || decide (entriesTotal (s.listAfter h unfit n) < s.recordedRequired h) } ∧
      t.queue = s.queue ∧ t.slots = s.slots ∧ t.storePart = s.storePart ∧
      (s.waitList = [] → s.settledTo t h unfit (s.takenBy h unfit n) (.reserved h))) ∧
    (s.hallState h = .selecting → 0 < s.recordedRequired h →
      (s.recordedRequired h ≤ entriesTotal (s.listAfter h unfit n) ∨
          (¬ s.listAfter h unfit n = [] ∧ (s.hallPlan h).partialPermitted = true) →
        ((∃ e, e ∈ s.listAfter h unfit n ∧ (s.selector (s.manifoldOf e.bank) h).proven = false) →
          s.reallocatedTo t h (s.listAfter h unfit n) .selecting
            (if s.recordedRequired h ≤ entriesTotal (s.listAfter h unfit n) then (s.inc h).flags
              else { (s.inc h).flags with shortfall := true, isPartial := true }) ∧
          t.queue = s.queue ∧ t.slots = s.slots ∧ t.storePart = s.storePart ∧
          (s.waitList = [] → s.settledTo t h unfit (s.takenBy h unfit n) (.reserved h))) ∧
        ((∀ e, e ∈ s.listAfter h unfit n → (s.selector (s.manifoldOf e.bank) h).proven = true) →
          s.reallocatedTo t h (s.listAfter h unfit n) .discharging
            (if s.recordedRequired h ≤ entriesTotal (s.listAfter h unfit n) then (s.inc h).flags
              else { (s.inc h).flags with shortfall := true, isPartial := true }) ∧
          s.queuedFrom t ((s.listAfter h unfit n).map AllocEntry.bank) ∧
          (s.waitList = [] → s.settledTo t h unfit (s.takenBy h unfit n) (.firing h)))) ∧
      (entriesTotal (s.listAfter h unfit n) < s.recordedRequired h →
        (s.listAfter h unfit n = [] ∨ (s.hallPlan h).partialPermitted = false) →
        s.sentBackTo t h { (s.inc h).flags with shortfall := true, countdownSpent := true } ∧
        (t.inc h).flags.shortfall = true ∧ t.queue = s.queue ∧ t.slots = s.slots ∧ t.storePart = s.storePart))

/-- Steps 1 to 5 of R82 for one hall, from `s` to `u`: hall `h` lost its RESERVED banks `unfit` and took its replacement. In
COUNTDOWN and HELD it stays, with SHORTFALL where the total is left short (R84); in SELECTING it goes on, enters
DISCHARGING or is sent back to wait (R85). Nothing else moves. -/
def State.lostTo (s u : State) (h : HallId) (unfit : List BankId) : Prop :=
  ∃ n, n ≤ (s.preference h).length ∧ s.replacesThrough h unfit n ∧
    (s.hallState h = .countdown ∨ s.hallState h = .held →
      s.settledTo u h unfit (s.takenBy h unfit n) (.reserved h) ∧
      u =
        { s with
          banks := u.banks
          mans := u.mans
          selectors := u.selectors
          selCircuits := u.selCircuits
          halls :=
            s.halls.set h
              (s.reallocated h (s.listAfter h unfit n) (s.hallState h)
                { (s.inc h).flags with
                  shortfall :=
                    (s.inc h).flags.shortfall ||
                    decide (entriesTotal (s.listAfter h unfit n) < s.recordedRequired h) }) }) ∧
    (s.hallState h = .selecting → 0 < s.recordedRequired h →
      (s.recordedRequired h ≤ entriesTotal (s.listAfter h unfit n) ∨
          (¬ s.listAfter h unfit n = [] ∧ (s.hallPlan h).partialPermitted = true) →
        let f :=
          if s.recordedRequired h ≤ entriesTotal (s.listAfter h unfit n) then (s.inc h).flags
          else { (s.inc h).flags with shortfall := true, isPartial := true }
        ((∃ e, e ∈ s.listAfter h unfit n ∧ (s.selector (s.manifoldOf e.bank) h).proven = false) →
          s.settledTo u h unfit (s.takenBy h unfit n) (.reserved h) ∧
          u =
            { s with
              banks := u.banks
              mans := u.mans
              selectors := u.selectors
              selCircuits := u.selCircuits
              halls := s.halls.set h (s.reallocated h (s.listAfter h unfit n) .selecting f) }) ∧
        ((∀ e, e ∈ s.listAfter h unfit n → (s.selector (s.manifoldOf e.bank) h).proven = true) →
          s.settledTo u h unfit (s.takenBy h unfit n) (.firing h) ∧
          s.queuedFrom u ((s.listAfter h unfit n).map AllocEntry.bank) ∧
          u =
            { s with
              banks := u.banks
              mans := u.mans
              selectors := u.selectors
              selCircuits := u.selCircuits
              halls := s.halls.set h (s.reallocated h (s.listAfter h unfit n) .discharging f)
              queue := u.queue
              slots := u.slots
              write := u.write
              markQueue := u.markQueue })) ∧
      (entriesTotal (s.listAfter h unfit n) < s.recordedRequired h →
        (s.listAfter h unfit n = [] ∨ (s.hallPlan h).partialPermitted = false) →
        s.sentBackInto u h { (s.inc h).flags with shortfall := true, countdownSpent := true }))

/-- The halls `l` lost their RESERVED banks among `unfit` in turn, each on the state that the one before it left: what an
earlier one lost is open to the replacement of a later one (R82; log entry 11). -/
def State.allLostTo : List HallId → List BankId → State → State → Prop
  | [], _, s, u => u = s
  | h :: rest, unfit, s, u =>
    ∃ v, s.lostTo v h (unfit.filter fun b => s.bank b == .reserved h) ∧ State.allLostTo rest unfit v u

/-- One event made the banks `unfit` unfit: the halls with a RESERVED one among them lost theirs in rank order, and one
re-examination followed (R82). `s` is the state with the new condition. -/
def State.withdrawnInto (s t : State) (unfit : List BankId) : Prop :=
  ∃ (l : List HallId) (u : State),
    (∀ h, h ∈ l ↔ ∃ b, b ∈ unfit ∧ s.bank b = .reserved h) ∧
    l.Pairwise (fun g h => s.ranksBefore g h = true) ∧ State.allLostTo l unfit s u ∧ s.thenReexamined u t

/-! ## A confirmation (R46 to R50) -/

/-- A cross group is unavailable: no declared zone of it, or every one of them held in FAULT (R48). -/
def unavailable (g : ZoneGroup) (declared : List Zone) : Prop := ∀ z, z ∈ declared → z.group = g → z.held = .fault

/-- The zone alarms confirm with this cause, under the hall's rule, from the zones latched and those declared: DOUBLE with
two entries of A or B; CROSS with one of each; and, with the fallback on, FALLBACK with one entry where the other group
alone is unavailable (R46 to R49). -/
def HallPlan.confirmsBy (p : HallPlan) (declared : List Zone) (latched : List Latched) : Cause → Prop
  | .double => p.rule = .double ∧ 2 ≤ (latched.filter fun e => e.group == .a || e.group == .b).length
  | .cross => p.rule = .cross ∧ (∃ e, e ∈ latched ∧ e.group = .a) ∧ ∃ e, e ∈ latched ∧ e.group = .b
  | .fallback =>
    p.rule = .cross ∧ p.fallback = true ∧
    ¬ ((∃ e, e ∈ latched ∧ e.group = .a) ∧ ∃ e, e ∈ latched ∧ e.group = .b) ∧
    (((∃ e, e ∈ latched ∧ e.group = .a) ∧ unavailable .b declared ∧ ¬ unavailable .a declared) ∨
      ((∃ e, e ∈ latched ∧ e.group = .b) ∧ unavailable .a declared ∧ ¬ unavailable .b declared))
  | .panelManual => False
  | .localManual => False

/-- The hall with its cause and its confirmation number recorded, its wait clock started from 0 and the counter advanced
(R49, R50, R70). -/
def State.numbered (s : State) (h : HallId) (cause : Cause) : State :=
  { s with
    halls :=
      s.halls.set h
        { s.hall h with
          inc := { s.inc h with cause := some cause, confNumber := some s.confCounter }
          wait := some ⟨0, 0, false⟩ }
    confCounter := if s.confCounter < 4294967295 then s.confCounter + 1 else s.confCounter }

/-- Hall `h`'s incident, as `s` holds it, was confirmed: with isolation or LOCKOUT in force the computation is recorded
and the hall is INHIBITED; else the first attempt decided (R49, R50, R66). -/
def State.confirmedFrom (s t : State) (h : HallId) (cause : Cause) : Prop :=
  t.confCounter = (s.numbered h cause).confCounter ∧ (t.hall h).wait = some ⟨0, 0, false⟩ ∧
  (t.inc h).manualSeen = (s.inc h).manualSeen ∧ (t.inc h).isOpen = (s.inc h).isOpen ∧
  (s.numbered h cause).sameIncident t h ∧
  (t.inc h).required = some (s.computeRequired h) ∧ (t.inc h).tLow = some (s.chooseLow h) ∧
  (t.inc h).tHigh = some (s.chooseHigh h) ∧
  (s.withheld h = true →
    t.hallState h = .inhibited ∧ t.inventoryPart = s.inventoryPart ∧ t.waitList = s.waitList ∧
    (t.inc h).alloc = (s.inc h).alloc) ∧
  (s.withheld h = false → (s.numbered h cause).attemptedFrom t h)

/-! ## A report of zones (R42 to R49) -/

/-- What a report of hall `h`'s zones latches: the zones in ALARM whose id is not latched yet, in declaration order, while
there is room, with their groups and the incident clock's seconds (R43). -/
def State.latchedNow (s : State) (h : HallId) (reported : List Zone) : List Latched :=
  ((reported.filter fun z => z.held == .alarm && (s.inc h).latched.all fun e => !(e.zone == z.id)).take
    (16 - (s.inc h).latched.length)).map fun z => { zone := z.id, group := z.group, time := (s.hall h).clock.secs }

/-- Hall `h` with a new incident open (R44). -/
def State.openedFor (s : State) (h : HallId) : State :=
  { s with
    halls :=
      s.halls.set h
        { inc :=
            { Incident.empty with
              number := (s.inc h).number + 1, change := (s.inc h).change, isOpen := true, state := .alert }
          clock := ⟨0, 0⟩
          wait := none
          stay := ⟨0, false⟩
          discharge := none } }

/-- Hall `h` with more zones latched, and manual seen set where one of them is a manual event (R43, R45). -/
def State.withLatched (s : State) (h : HallId) (new : List Latched) : State :=
  { s with
    halls :=
      s.halls.set h
        { s.hall h with
          inc :=
            { s.inc h with
              latched := (s.inc h).latched ++ new
              manualSeen := (s.inc h).manualSeen || new.any fun e => e.group == .manual } } }

/-- Hall `h` after its part of a record changed: as `v` holds it, with the change number it has in `t` (R63). -/
def State.hallAsIn (v t : State) (h : HallId) : Prop :=
  t.hall h = { v.hall h with inc := { v.inc h with change := (t.inc h).change } }

/-- What a stay in HELD that ends adds to hold used: a part tenth counts as one, and a stay costs at least one (R90; log
entry 12). -/
def Stay.adds (x : Stay) : Nat := if 0 < x.ms ∨ x.counted = false then 1 else 0

/-- Hall `h` released by a manual event in COUNTDOWN or HELD (R99), with `n` tenths then remaining: it is in COUNTDOWN,
MANUAL_OVERRIDE is set, and a stay in HELD is added to hold used but for the tenth that the budget override would take
(R98; log entry 29). -/
def State.releasedWith (s : State) (h : HallId) (n : Nat) : State :=
  { s with
    halls :=
      s.halls.set h
        { s.hall h with
          inc :=
            { s.inc h with
              state := .countdown
              countdown := some n
              holdUsed :=
                (s.inc h).holdUsed +
                  (if s.hallState h = .held ∧ (s.hall h).stay.ms < 100 then (s.hall h).stay.adds else 0)
              flags := { (s.inc h).flags with manualOverride := true } }
          stay := ⟨0, false⟩ } }

/-- The tenths that a manual event leaves of the countdown: the lesser of what remains and the manual delay, or with
CONC_HIGH the longer of the two delays (R99). -/
def State.manualRemaining (s : State) (h : HallId) : Nat :=
  min ((s.inc h).countdown.getD 0)
    (10 * (if (s.inc h).flags.concHigh = true then max (s.hallPlan h).autoDelay (s.hallPlan h).manualDelay
      else (s.hallPlan h).manualDelay))

/-- Hall `h`, open as `s` holds it with the new link record, took a report of its zones; `before` is the hold demand
before the CYCLE. A MANUAL zone that latches is a manual event and acts first (R45, R49, R99); in ALERT the confirmation
rules are tested (R49); in COUNTDOWN and HELD the hold demand that began or ended acts (R93 to R97); in every other state
the zones latch and nothing more (R43, R45). -/
def State.reportTakenFrom (s t : State) (h : HallId) (before : Bool) (reported : List Zone) : Prop :=
  let new := s.latchedNow h reported
  let v := s.withLatched h new
  (s.hallState h = .alert →
    ((∃ e, e ∈ new ∧ e.group = .manual) → v.confirmedFrom t h .panelManual) ∧
    ((∀ e, e ∈ new → ¬ e.group = .manual) →
      (∀ c, (s.hallPlan h).confirmsBy reported (v.inc h).latched c → v.confirmedFrom t h c) ∧
      ((∀ c, ¬ (s.hallPlan h).confirmsBy reported (v.inc h).latched c) →
        v.hallAsIn t h ∧ t.confCounter = s.confCounter ∧ t.inventoryPart = s.inventoryPart ∧
        t.waitList = s.waitList))) ∧
  (s.hallState h = .countdown ∨ s.hallState h = .held →
    ((∃ e, e ∈ new ∧ e.group = .manual) → ¬ h ∈ s.waitList →
      (0 < s.manualRemaining h →
        (v.releasedWith h (s.manualRemaining h)).hallAsIn t h ∧ t.inventoryPart = s.inventoryPart ∧
        t.waitList = s.waitList) ∧
      (s.manualRemaining h = 0 →
        (v.releasedWith h 0).expiredFrom t h ∧ (t.inc h).manualSeen = true ∧
        (t.inc h).flags.manualOverride = true)) ∧
    ((∀ e, e ∈ new → ¬ e.group = .manual) →
      t.inventoryPart = s.inventoryPart ∧ t.waitList = s.waitList ∧
      t.hall h =
        if s.hallState h = .countdown ∧ before = false ∧ s.holdDemand h = true ∧
            (s.inc h).flags.manualOverride = false ∧ (s.inc h).flags.holdOverridden = false ∧
            (s.inc h).holdUsed < 10 * (s.hallPlan h).holdLimit then
          { v.hall h with
            inc := { v.inc h with state := .held, change := (t.inc h).change }
            stay := ⟨0, false⟩ }
        else if s.hallState h = .held ∧ before = true ∧ s.holdDemand h = false then
          { v.hall h with
            inc :=
              { v.inc h with
                state := .countdown
                countdown := some (max ((s.inc h).countdown.getD 0) (10 * (s.hallPlan h).restartFloor))
                holdUsed := (s.inc h).holdUsed + (s.hall h).stay.adds
                change := (t.inc h).change }
            stay := ⟨0, false⟩ }
        else { v.hall h with inc := { v.inc h with change := (t.inc h).change } })) ∧
  (¬ s.hallState h = .alert → ¬ s.hallState h = .countdown → ¬ s.hallState h = .held →
    v.hallAsIn t h ∧ t.confCounter = s.confCounter ∧ t.inventoryPart = s.inventoryPart ∧ t.waitList = s.waitList)

/-! ## The laws -/

/-- The law of the wait list: exactly the halls in WAITING, in strictly rising rank (R71, R75). -/
def State.waitListLaw (s : State) : Prop :=
  (∀ h, h ∈ s.waitList ↔ s.hallState h = .waiting) ∧
  s.waitList.Pairwise fun g h => s.ranksBefore g h = true

/-- The law of the inhibited hall: never in COUNTDOWN or HELD while isolation or LOCKOUT is in force (R51). A hall in
WAITING with either in force has passed its countdown, which is why no attempt leads it there (log entry 16). -/
def State.inhibitedLaw (s : State) : Prop :=
  ∀ h,
    (s.hallState h = .countdown ∨ s.hallState h = .held → s.withheld h = false) ∧
    (s.hallState h = .waiting → s.withheld h = false ∨ (s.inc h).flags.countdownSpent = true)

/-- The law of the hold budget: hold used never exceeds the hold limit in an open incident, and is below it in HELD
(R96). -/
def State.holdLaw (s : State) : Prop :=
  ∀ h,
    (¬ s.hallState h = .quiet → (s.inc h).holdUsed ≤ 10 * (s.hallPlan h).holdLimit) ∧
    (s.hallState h = .held → (s.inc h).holdUsed < 10 * (s.hallPlan h).holdLimit)

/-- The law of release entry: a hall in SELECTING has its required quantity, or PARTIAL set and at least one bank
(R55). -/
def State.entryLaw (s : State) : Prop :=
  ∀ h, s.hallState h = .selecting →
    s.recordedRequired h ≤ (s.inc h).total ∨
    ((s.inc h).flags.isPartial = true ∧ ¬ (s.inc h).alloc = [])

/-- The record follows the state: open outside QUIET, countdown remaining in COUNTDOWN and HELD alone (R41, R61, R90). -/
def State.recordLaw (s : State) : Prop :=
  ∀ h,
    ((s.inc h).isOpen = true ↔ ¬ s.hallState h = .quiet) ∧
    ((s.inc h).countdown.isSome = true ↔ s.hallState h = .countdown ∨ s.hallState h = .held)

/-- The law of the store: the working copy is the non-volatile content with the write in progress applied, and marks
wait only behind a write (R175, R179, R180). -/
def State.storeLaw (s : State) : Prop :=
  (match s.write with
   | none => s.work = s.nvPlan
   | some w => s.work = w.applyPlan s.nvPlan) ∧
  (s.write = none → s.markQueue = [])

/-- An energised initiator is that of a bank in a pulsing slot, so at most two are energised (R119). -/
def State.initiatorLaw (s : State) : Prop :=
  ∀ b, s.initiators.get b = true → ∃ i ms, s.slots.get i = .pulsing b ms

/-- A selector is energised only for the hall whose release its manifold carries, and has proven only while energised
(section 6.2, R107). -/
def State.selectorLaw (s : State) : Prop :=
  ∀ m h,
    ((s.selector m h).energised = true → (s.man m).state.releasing = some h) ∧
    ((s.selector m h).proven = true → (s.selector m h).energised = true)

/-- The circuit of a selector is marked driven just while the selector is energised, that of a bank just while its
initiator is (R133). -/
def State.drivenLaw (s : State) : Prop :=
  (∀ b, (s.bankCircuits.get b).driven = s.initiators.get b) ∧
  (∀ m h x, (s.selCircuits.get m).get h = some x → x.driven = (s.selector m h).energised)

/-- A manifold runs only the timer of its state, and shows flow only once CHARGED (R107, R15). -/
def Manifold.lawful (x : Manifold) : Prop :=
  match x.state, x.timer with
  | .free, .stopped => x.flowConfirmed = false
  | .claimed _, .stopped => x.flowConfirmed = false
  | .selecting _, .stopped => x.flowConfirmed = false
  | .selecting _, .selector _ => x.flowConfirmed = false
  | .charged _, .stopped => True
  | .charged _, .flow _ => x.flowConfirmed = false
  | .venting _, .vent _ => True
  | _, _ => False

/-- Every manifold is lawful. -/
def State.manifoldLaw (s : State) : Prop := ∀ m, (s.man m).lawful

/-- One position of the matrix: counts 0 to 2; an unused one stays open; one on a faulted line does not count (R144,
R149, R150). -/
def Contact.lawful (used faulted : Bool) (c : Contact) : Prop :=
  c.count ≤ 2 ∧ (used = false → c.debounced = false ∧ c.count = 0) ∧ (faulted = true → c.count = 0)

/-- The law of the contact matrix. -/
def State.matrixLaw (s : State) : Prop :=
  (∀ d r, (s.contact d r).lawful (inUse d r) (s.returns.get r).faulted) ∧
  ∀ r, (s.returns.get r).clean ≤ 2

/-! ## The laws of the bank table and the manifold table (R6, R13) -/

/-- A RESERVED bank belongs to a hall in COUNTDOWN, HELD or SELECTING, a FIRING one to a hall in DISCHARGING; it stands
in that hall's allocation list and lies on a manifold that hall holds (R6). -/
def State.bankLaw (s : State) (b : BankId) : Prop :=
  match s.bank b with
  | .reserved h =>
    (s.hallState h = .countdown ∨ s.hallState h = .held ∨ s.hallState h = .selecting) ∧
    b ∈ (s.inc h).allocBanks ∧ s.holder (s.manifoldOf b) = some h
  | .firing h => s.hallState h = .discharging ∧ b ∈ (s.inc h).allocBanks ∧ s.holder (s.manifoldOf b) = some h
  | .ready => True
  | .spent => True

/-- A manifold that is not FREE is held by a hall in the state that goes with it, and carries a bank of that hall's
allocation list that is RESERVED, FIRING or SPENT (R13 to R16). -/
def State.heldLaw (s : State) (m : ManId) : Prop :=
  match (s.man m).state with
  | .free => True
  | .claimed h =>
    (s.hallState h = .countdown ∨ s.hallState h = .held) ∧ ∃ b, s.bank b = .reserved h ∧ s.manifoldOf b = m
  | .selecting h =>
    (s.hallState h = .selecting ∧ ∃ b, s.bank b = .reserved h ∧ s.manifoldOf b = m) ∨
    (s.hallState h = .discharging ∧ ∃ b, s.bank b = .firing h ∧ s.manifoldOf b = m)
  | .charged h =>
    s.hallState h = .discharging ∧ ∃ b, b ∈ (s.inc h).allocBanks ∧ s.bank b = .spent ∧ s.manifoldOf b = m
  | .venting h =>
    s.hallState h = .soak ∧ ∃ b, b ∈ (s.inc h).allocBanks ∧ s.bank b = .spent ∧ s.manifoldOf b = m

/-- The allocation list of a hall by its state: all RESERVED to it before the firing, FIRING or SPENT on a manifold it
holds in DISCHARGING, empty before an allocation (R61, R87, R123). -/
def State.allocLaw (s : State) (h : HallId) : Prop :=
  (s.hallState h = .countdown ∨ s.hallState h = .held ∨ s.hallState h = .selecting →
    ∀ b, b ∈ (s.inc h).allocBanks → s.bank b = .reserved h) ∧
  (s.hallState h = .discharging →
    ∀ b, b ∈ (s.inc h).allocBanks →
      s.bank b = .firing h ∨ (s.bank b = .spent ∧ s.holder (s.manifoldOf b) = some h)) ∧
  (s.hallState h = .alert ∨ s.hallState h = .inhibited ∨ s.hallState h = .waiting ∨ s.hallState h = .stalled →
    (s.inc h).alloc = [])

/-- The banks in the two slots. -/
def State.slotBanks (s : State) : List BankId := (s.slots.get .s1).bank.toList ++ (s.slots.get .s2).bank.toList

/-- A bank awaits its mark in a slot. -/
def State.inMarking (s : State) (b : BankId) : Prop := ∃ i, s.slots.get i = .marking b

/-- A bank pulses in a slot. -/
def State.inPulsing (s : State) (b : BankId) : Prop := ∃ i ms, s.slots.get i = .pulsing b ms

/-- The queue and the slots hold no bank twice, and a bank is FIRING just while it stands in the queue or awaits its
mark in a slot (R115). -/
def State.queueLaw (s : State) : Prop :=
  (s.queue ++ s.slotBanks).Nodup ∧
  ∀ b, (∃ h, s.bank b = .firing h) ↔ b ∈ s.queue ∨ s.inMarking b

/-- A discharge timer runs only in DISCHARGING, with every bank of the allocation list SPENT and none pulsing (R123). -/
def State.dischargeLaw (s : State) (h : HallId) : Prop :=
  (s.hall h).discharge.isSome = true →
    s.hallState h = .discharging ∧ ∀ b, b ∈ (s.inc h).allocBanks → s.bank b = .spent ∧ ¬ s.inPulsing b

/-- The laws of the tables together. -/
def State.tableLaw (s : State) : Prop :=
  s.waitListLaw ∧ (∀ b, s.bankLaw b) ∧ (∀ m, s.heldLaw m) ∧ (∀ h, s.allocLaw h) ∧ s.queueLaw ∧ ∀ h, s.dischargeLaw h

/-- No bank stands twice in an allocation list, nor in a preference list, in use or in the store (R61, R68, R176). -/
def State.listLaw (s : State) : Prop :=
  ∀ h,
    (s.inc h).allocBanks.Nodup ∧ (s.preference h).Nodup ∧ (s.nvPlan.halls.get h).preference.Nodup

/-! ## The law of write-before-fire (R118) -/

/-- A pulsing bank is SPENT and serves the hall that holds its CHARGED manifold (R118). -/
def State.pulsedLaw (s : State) (b : BankId) : Prop :=
  s.inPulsing b →
    s.bank b = .spent ∧
    ∃ h, (s.man (s.manifoldOf b)).state = .charged h ∧ b ∈ (s.inc h).allocBanks ∧ s.hallState h = .discharging

/-- A pulsing bank is SPENT with its mark recorded and its initiator energised, and serves the hall that holds its
CHARGED manifold, whose discharge timer does not run. -/
def State.pulseLaw (s : State) (b : BankId) : Prop :=
  s.inPulsing b →
    s.bank b = .spent ∧ s.nvSpent.get b = true ∧ s.initiators.get b = true ∧
    ∃ h, (s.man (s.manifoldOf b)).state = .charged h ∧ b ∈ (s.inc h).allocBanks ∧ s.hallState h = .discharging ∧
      (s.hall h).discharge = none

/-- The marks under way are those of the banks in MARKING, each once (R118, R180). -/
def State.marksLaw (s : State) : Prop :=
  (∀ b, s.inMarking b ↔ s.write = some (.setMark b) ∨ b ∈ s.markQueue) ∧
  s.markQueue.Nodup ∧ ∀ b, s.write = some (.setMark b) → ¬ b ∈ s.markQueue

/-- A bank is SPENT just where the store holds its mark and no write under way clears it (R1, R9). -/
def State.spentLaw (s : State) : Prop :=
  ∀ b, s.bank b = .spent ↔ s.nvSpent.get b = true ∧ ¬ s.write = some (.clearMark b)

/-- The laws of the tables, the marks and the initiators together. -/
def State.fireLaw (s : State) : Prop :=
  s.tableLaw ∧ s.initiatorLaw ∧ (∀ b, s.pulseLaw b) ∧ s.marksLaw ∧ s.spentLaw

end Sys2Proof.Machine
end

