-- ==== Sys2Proof/Certificates/Slice0/Obligations.lean ====
section
/-! DEFINITION. The statements for the provers. Each docstring names the rule it formalises, or says that it states a
choice of the model and names the log entry. -/

open Sys2Proof Sys2Proof.Machine

/-! ## The machine -/

/-- A step takes the command at the front of the queue: `exec` of it on the state with the rest of the queue. -/
def Obligations.StepTakesFrontCommand : Prop :=
  ∀ (c : Instr) (rest : List Instr) (s : State), step { s with pending := c :: rest } = exec c { s with pending := rest }

/-- No command stops the coordinator, and none touches the commands that wait (model: log entries 1, 6). -/
def Obligations.EveryCommandGoesOnAndKeepsQueue : Prop :=
  ∀ (c : Instr) (s : State), ∃ t, exec c s = .next t ∧ t.pending = s.pending

/-! ## Restart -/

/-- RESTART at the Plan Store, and a store as delivered (R185). -/
def Obligations.RestartLoadsStore : Prop :=
  (∀ s : State, ∃ t, exec .restart s = .next t ∧
    t.nvPlan = s.nvPlan ∧ t.nvSpent = s.nvSpent ∧ t.work = s.nvPlan ∧ t.overlay = false ∧ t.write = none ∧
    t.markQueue = []) ∧
  State.reset.work = State.reset.nvPlan ∧ State.reset.nvSpent = PerBank.fill false ∧
  State.reset.nvPlan.lock = .openMode ∧ State.reset.nvPlan.bankIsolated = PerBank.fill false ∧
  State.reset.nvPlan.hallIsolated = PerHall.fill false ∧
  State.reset.nvPlan.site = { k1 := 1000, k2 := 0, portMask := PerHall.fill false, silence := 10 } ∧
  (∀ m, State.reset.nvPlan.mans.get m =
    { reach := PerHall.fill false, openLimit := 4095, shortLimit := 1, selectorTimeout := 10, flowTimeout := 20,
      ventTime := 60 }) ∧
  (∀ b, State.reset.nvPlan.banks.get b =
    { manifold := .m1, role := .main, cylinders := 1, fill := 100, openLimit := 4095, shortLimit := 1 }) ∧
  ∀ h, State.reset.nvPlan.halls.get h =
    { rule := .cross, fallback := false, volume := 100, design := 40, maximum := 40, designLow := 20, designHigh := 20,
      autoDelay := 30, manualDelay := 10, holdLimit := 60, restartFloor := 10, partialPermitted := false,
      waitLimit := 120, discharge := 30, preference := [.b1] }

/-- RESTART at the Agent Inventory: every line of R25's table. -/
def Obligations.RestartSetsTables : Prop :=
  ∀ s : State, ∃ t, exec .restart s = .next t ∧
    (∀ b,
      t.bankPlan b = s.nvPlan.banks.get b ∧
      t.quantity b = (s.nvPlan.banks.get b).cylinders * (s.nvPlan.banks.get b).fill ∧
      t.bank b = (if s.nvSpent.get b = true then .spent else .ready) ∧
      (t.bank b).hall = none ∧
      t.work.bankIsolated.get b = s.nvPlan.bankIsolated.get b ∧
      (∃ c, t.circuit (.bank b) = some c ∧ c.condition = .untested) ∧
      t.lowPressure b = false) ∧
    t.selection = .main ∧
    (∀ m,
      t.manPlan m = s.nvPlan.mans.get m ∧ (t.man m).state = .free ∧ t.holder m = none ∧
      (t.man m).flowConfirmed = false) ∧
    (∀ h, t.work.hallIsolated.get h = s.nvPlan.hallIsolated.get h ∧ t.hallState h = .quiet) ∧
    t.waitList = [] ∧ (∀ b, t.initiators.get b = false) ∧ ∀ m h, (t.selector m h).energised = false

/-- RESTART at every other block (R65, R88, R129, R143, R156, R157, R161). -/
def Obligations.RestartClearsEveryBlock : Prop :=
  ∀ s : State, ∃ t, exec .restart s = .next t ∧
    (∀ h, t.inc h = Incident.empty ∧ (t.hall h).clock = ⟨0, 0⟩ ∧ (t.hall h).wait = none ∧
      (t.hall h).discharge = none) ∧
    t.confCounter = 1 ∧ t.waitList = [] ∧ t.queue = [] ∧ (∀ i, t.slots.get i = .empty) ∧
    (∀ b, t.initiators.get b = false) ∧
    (∀ m h, t.selector m h = ⟨false, false⟩) ∧ (∀ m, (t.man m).timer = .stopped) ∧
    (∀ b, t.bankCircuits.get b = { last := .absent, condition := .untested, run := none, driven := false }) ∧
    (∀ m h, (t.selCircuits.get m).get h =
      if (s.nvPlan.mans.get m).reach.get h = true then
        some { last := .absent, condition := .untested, run := none, driven := false }
      else none) ∧
    t.position = none ∧ t.measuring = none ∧
    (∀ d r, t.contact d r = ⟨false, false, 0⟩) ∧ (∀ r, t.returns.get r = ⟨false, 0⟩) ∧ t.scan = .drive .l0 ∧
    (∀ h, (t.link h).state = (if s.nvPlan.site.portMask.get h = true then .awaitingDeclare else .stopped) ∧
      (t.link h).zones = none ∧ (t.link h).hold = false ∧ (t.link h).low = none ∧ (t.link h).high = none ∧
      (t.link h).silence = none ∧ (t.link h).sticky = ⟨false, false, false, false⟩) ∧
    ∀ p, t.port p = ⟨.hunting, none⟩

/-! ## The frame layer -/

/-- The bytes of a request frame, received one by one at a ready port, do what the row of the whole frame does: framing,
length and CRC are read right (R157, R159; log entry 1). -/
def Obligations.FrameBytesAreTheRow : Prop :=
  (∀ (k : Kind) (p : Port) (seq : Byte) (payload : List Byte) (s : State),
    s.portReady p → payload.length ≤ 120 →
    feedBytes p (frameBytes k.code seq payload) s = exec (k.row p seq payload) s) ∧
  ∀ (p : Port) (kind seq : Byte) (payload : List Byte) (s : State),
    s.portReady p → payload.length ≤ 120 → ¬ kind ∈ requestKindCodes →
    feedBytes p (frameBytes kind seq payload) s = exec (.unknownKind p kind seq payload) s

/-- A frame whose last two bytes are not its CRC is discarded: received byte by byte at a ready port it does what
FRAME_BAD_CRC does, and no block sees it (R157, R158). -/
def Obligations.WrongCrcIsDiscarded : Prop :=
  ∀ (p : Port) (kind seq : Byte) (payload : List Byte) (x y : Byte) (s : State),
    s.portReady p → payload.length ≤ 120 →
    ¬ [x, y] = crcBytes (frameBody kind seq payload) →
    feedBytes p (Config.syncByte :: (frameBody kind seq payload ++ [x, y])) s = exec (.frameBadCrc p) s

/-- FRAME_BAD_CRC, FRAME_OVERLENGTH and FRAME_GAP: the receiver hunts, the first two set their sticky flag on a hall
port, nothing else changes (R158, R167). At a port that does not listen, or without a frame, nothing happens (log entry
6). -/
def Obligations.DiscardedFrames : Prop :=
  (∀ (h : HallId) (s : State), s.listening (.hall h) = true →
    exec (.frameBadCrc (.hall h)) s = .next
      { s with
        hallPorts := s.hallPorts.set h { rx := .hunting, tx := none }
        links := s.links.set h { s.link h with sticky := { (s.link h).sticky with crcSeen := true } } } ∧
    exec (.frameOverlength (.hall h)) s = .next
      { s with
        hallPorts := s.hallPorts.set h { rx := .hunting, tx := none }
        links := s.links.set h { s.link h with sticky := { (s.link h).sticky with overlengthSeen := true } } }) ∧
  (∀ s : State, s.listening .station = true →
    exec (.frameBadCrc .station) s = .next { s with stationPort := { rx := .hunting, tx := none } } ∧
    exec (.frameOverlength .station) s = .next { s with stationPort := { rx := .hunting, tx := none } }) ∧
  (∀ (p : Port) (s : State), s.listening p = false →
    exec (.frameBadCrc p) s = .next s ∧ exec (.frameOverlength p) s = .next s) ∧
  (∀ (h : HallId) (s : State) (bytes : List Byte) (gap : Nat), (s.port (.hall h)).rx = .inFrame bytes gap →
    exec (.frameGap (.hall h)) s = .next
      { s with hallPorts := s.hallPorts.set h { rx := .hunting, tx := (s.port (.hall h)).tx } }) ∧
  (∀ (s : State) (bytes : List Byte) (gap : Nat), s.stationPort.rx = .inFrame bytes gap →
    exec (.frameGap .station) s = .next { s with stationPort := { rx := .hunting, tx := s.stationPort.tx } }) ∧
  ∀ (p : Port) (s : State), (s.port p).rx = .hunting → exec (.frameGap p) s = .next s

/-- RESPONSE_END: the receiver resumes hunting. While a port sends, or its link is STOPPED, every byte and every frame,
of whatever kind, is lost (R159, R163). That the deafness begins at the request's completion, and so covers the turnaround
of 1 to 5 ms before the first byte, is the model's reading (log entry 7). -/
def Obligations.ResponseEndAndDeafPorts : Prop :=
  (∀ (p : Port) (s : State) (f : List Byte), (s.port p).tx = some f → ∃ t,
    exec (.responseEnd p) s = .next t ∧ t.port p = ⟨.hunting, none⟩ ∧ (∀ q, ¬ q = p → t.port q = s.port q) ∧
    t.links = s.links ∧ t.hallsPart = s.hallsPart ∧ t.storePart = s.storePart ∧ t.work = s.work ∧
    t.inventoryPart = s.inventoryPart ∧ t.driverPart = s.driverPart ∧ t.linesPart = s.linesPart ∧
    t.scannerPart = s.scannerPart) ∧
  ∀ (p : Port) (s : State), s.listening p = false →
    (∀ b, exec (.byteReceived p b) s = .next s) ∧
    (∀ (kind seq : Byte) (payload : List Byte), exec (.unknownKind p kind seq payload) s = .next s) ∧
    ∀ (k : Kind) (seq : Byte) (payload : List Byte), exec (k.row p seq payload) s = .next s

/-- BYTE_RECEIVED: a hunting receiver passes over every byte but the sync byte; within a frame a byte is kept, a length
above 120 abandons the frame at that byte (R157, R158). The completing byte is that of FrameBytesAreTheRow. -/
def Obligations.ByteReceivedStepsReceiver : Prop :=
  ∀ (p : Port) (b : Byte) (s : State), s.listening p = true →
    ((s.port p).rx = .hunting →
      (¬ b = 0xA5 → exec (.byteReceived p b) s = .next s) ∧
      (b = 0xA5 → exec (.byteReceived p b) s = .next (s.modPort p fun x => { x with rx := .inFrame [] 0 }))) ∧
    ∀ (bytes : List Byte) (gap : Nat), (s.port p).rx = .inFrame bytes gap →
      (bytes.length < 2 →
        exec (.byteReceived p b) s = .next (s.modPort p fun x => { x with rx := .inFrame (bytes ++ [b]) 0 })) ∧
      (bytes.length = 2 → 120 < b.toNat → exec (.byteReceived p b) s = exec (.frameOverlength p) s) ∧
      (bytes.length = 2 → b.toNat ≤ 120 →
        exec (.byteReceived p b) s = .next (s.modPort p fun x => { x with rx := .inFrame (bytes ++ [b]) 0 }))

/-- Checks 2 to 5 of R160, in their order, at a ready port: UNKNOWN_KIND, NOT_PERMITTED, STATE, INVALID. Each refusal
changes nothing but the response, and INVALID sets INVALID_SEEN on a hall port (R160, R167). STATE meets a DECLARE on a
link that is not AWAITING_DECLARE and a CYCLE on one that is (R164, R165); INVALID meets just the payloads whose length,
form or fields are not those of the kind (R162, R164, R165, R171, R172, R174, R183). -/
def Obligations.AdmissionRefusals : Prop :=
  (∀ (k : Kind) (s : State),
    s.linkAllows k .station = true ∧
    ∀ h, s.linkAllows k (.hall h) = true ↔
      (k = .declare → (s.link h).state = .awaitingDeclare) ∧ (k = .cycle → ¬ (s.link h).state = .awaitingDeclare)) ∧
  (∀ (h : HallId) (s : State), s.declaredCount (.hall h) = ((s.link h).zones.getD []).length) ∧
  (∀ (n : Nat) (k : Kind) (payload : List Byte), requestOf n k payload = none ↔ ¬ k.wellFormed n payload) ∧
  ∀ (p : Port) (seq : Byte) (payload : List Byte) (s : State), s.portReady p → payload.length ≤ 120 →
    (∀ kind, ¬ kind ∈ requestKindCodes →
      exec (.unknownKind p kind seq payload) s = .next (s.send p (refusedFrame kind seq .unknownKind))) ∧
    ∀ k : Kind,
      (k.permitted p = false → exec (k.row p seq payload) s = .next (s.send p (refusedFrame k.code seq .notPermitted))) ∧
      (k.permitted p = true → s.linkAllows k p = false →
        exec (k.row p seq payload) s = .next (s.send p (refusedFrame k.code seq .state))) ∧
      (k.permitted p = true → s.linkAllows k p = true → requestOf (s.declaredCount p) k payload = none →
        exec (k.row p seq payload) s =
          .next ((s.setInvalidSeen p).send p (refusedFrame k.code seq .invalid)))

/-- The kinds permitted on each port (R160, check 3; R172). -/
def Obligations.PortsPermitTheirKinds : Prop :=
  (∀ k : Kind, k.permitted .station = true ↔ ¬ k = .declare ∧ ¬ k = .cycle) ∧
  ∀ (h : HallId) (k : Kind),
    k.permitted (.hall h) = true ↔ k = .declare ∨ k = .cycle ∨ k = .readIncident ∨ k = .readBanks

/-! ## Reads -/

/-- Every read is answered with the REPLY of its owner and changes nothing else: the station's reads, READ_BANKS on any
ready port, READ_INCIDENT of any hall at the station and of its own hall at a hall port (R64, R171, R24, R142, R155,
R184). Each REPLY carries, field by field at the bytes of its layout, what the state holds, absent values as R172 encodes
them (R78, R127, R172, R173, R174). The value codes are those of R172. The available quantity of a hall is the sum of the
quantities of the banks that are eligible for it (R20). A number too large for its field, which no run reaches, is carried
modulo the field. -/
def Obligations.ReadsReplyAndChangeNothing : Prop :=
  (∀ (h : HallId) (s : State),
    s.available h =
      (BankId.all.map fun b =>
        if s.eligible h b = true then (s.bankPlan b).cylinders * (s.bankPlan b).fill else 0).sum) ∧
  (∀ s : State,
    s.statusLaidOut s.statusReport ∧ s.banksLaidOut s.banksReport ∧ s.manifoldsLaidOut s.manifoldsReport ∧
    s.contactsLaidOut s.contactsReport ∧
    (∀ h, s.incidentLaidOut h (s.incidentReport h) ∧ s.linkLaidOut h (s.linkReport h)) ∧
    (∀ part, s.circuitsLaidOut part (s.circuitsReport part)) ∧
    ∀ name, s.planLaidOut name (s.planReport name)) ∧
  ([HallState.quiet, .alert, .inhibited, .waiting, .countdown, .held, .selecting, .discharging, .soak, .discharged,
      .stalled].map HallState.code = [0, 1, 2, 3, 4, 5, 6, 7, 8, 9, 10] ∧
    (∀ h, [BankState.ready, .reserved h, .firing h, .spent].map BankState.code = [0, 1, 2, 3]) ∧
    (∀ h, [ManState.free, .claimed h, .selecting h, .charged h, .venting h].map ManState.code = [0, 1, 2, 3, 4]) ∧
    [Condition.untested, .normal, .openCircuit, .shortCircuit].map Condition.code = [0, 1, 2, 3] ∧
    [Reading.normal, .openCircuit, .shortCircuit].map Reading.code = [1, 2, 3] ∧
    [ZoneGroup.a, .b, .manual, .advisory].map ZoneGroup.code = [1, 2, 3, 4] ∧
    [ZoneState.normal, .prealarm, .alarm, .fault].map ZoneState.code = [0, 1, 2, 3] ∧
    [none, some Cause.cross, some .double, some .fallback, some .panelManual, some .localManual].map causeCode =
      [0, 1, 2, 3, 4, 5] ∧
    [none, some Closing.discharged, some .stalled, some .stoodDown].map closingCode = [0, 1, 2, 3] ∧
    [LinkState.stopped, .awaitingDeclare, .running, .silent].map LinkState.code = [0, 1, 2, 3] ∧
    [Role.main, .reserve].map Role.code = [0, 1] ∧ [LockMode.openMode, .keyed, .permanent].map LockMode.code = [0, 1, 2] ∧
    [RefusalCode.busy, .storeBusy, .locked, .invalid, .inUse, .tooLate, .notPermitted, .state, .keyRequired,
      .unknownKind].map RefusalCode.code = [1, 2, 3, 4, 5, 6, 7, 8, 9, 10]) ∧
  (∀ (seq : Byte) (s : State), s.portReady .station →
    exec (.readStatus .station seq []) s = .next (s.send .station (frameBytes 0x90 seq s.statusReport)) ∧
    exec (.readManifolds .station seq []) s = .next (s.send .station (frameBytes 0x93 seq s.manifoldsReport)) ∧
    (∀ h : HallId, exec (.readLink .station seq [byteOf h.num]) s =
      .next (s.send .station (frameBytes 0x94 seq (s.linkReport h)))) ∧
    (∀ part : CircuitPart, exec (.readCircuits .station seq [part.code]) s =
      .next (s.send .station (frameBytes 0x95 seq (s.circuitsReport part)))) ∧
    exec (.readContacts .station seq []) s = .next (s.send .station (frameBytes 0x96 seq s.contactsReport)) ∧
    exec (.readPlan .station seq [1, 1]) s = .next (s.send .station (frameBytes 0x97 seq (s.planReport .site))) ∧
    (∀ m : ManId, exec (.readPlan .station seq [2, byteOf m.num]) s =
      .next (s.send .station (frameBytes 0x97 seq (s.planReport (.man m))))) ∧
    (∀ b : BankId, exec (.readPlan .station seq [3, byteOf b.num]) s =
      .next (s.send .station (frameBytes 0x97 seq (s.planReport (.bank b))))) ∧
    (∀ h : HallId, exec (.readPlan .station seq [4, byteOf h.num]) s =
      .next (s.send .station (frameBytes 0x97 seq (s.planReport (.hall h))))) ∧
    ∀ h : HallId, exec (.readIncident .station seq [byteOf h.num]) s =
      .next (s.send .station (frameBytes 0x91 seq (s.incidentReport h)))) ∧
  (∀ (p : Port) (seq : Byte) (s : State), s.portReady p →
    exec (.readBanks p seq []) s = .next (s.send p (frameBytes 0x92 seq s.banksReport))) ∧
  ∀ (g h : HallId) (seq : Byte) (s : State), s.portReady (.hall g) →
    exec (.readIncident (.hall g) seq [byteOf h.num]) s =
      .next (s.send (.hall g)
        (if g = h then frameBytes 0x91 seq (s.incidentReport h) else refusedFrame 0x11 seq .notPermitted))

/-! ## The hall link -/

/-- An accepted DECLARE: on a link AWAITING_DECLARE, a list of 1 to 16 zones with distinct ids from 1 to 255, ended by a
zero id, becomes the declaration with every zone NORMAL; the link is RUNNING, its hold request clear, its silence timer
started; the answer is ACCEPTED; the other links and the store stay (R164, R166). A hall in ALERT is tested at this event:
where the new declaration and the zones latched confirm, as the fallback does where one cross group is not declared and a
zone of the other is latched, it is confirmed with that cause; else, and in any other state, the hall stays as it was
(R42, R46 to R50, R63; log entry 28). -/
def Obligations.DeclareIsAccepted : Prop :=
  ∀ (h : HallId) (seq : Byte) (zones : List (Byte × ZoneGroup)) (s : State),
    s.portReady (.hall h) → (s.link h).state = .awaitingDeclare →
    1 ≤ zones.length → zones.length ≤ 16 → (zones.map Prod.fst).Nodup → ¬ (0 : Byte) ∈ zones.map Prod.fst →
    ∃ t, exec (.declare (.hall h) seq ((zones.flatMap fun z => [z.1, z.2.code]) ++ [0])) s = .next t ∧
      t.links = s.links.set h
        { s.link h with
          state := .running
          zones := some (zones.map fun z => { id := z.1, group := z.2, held := .normal })
          hold := false
          silence := some (Timer.start s.work.site.silence) } ∧
      t.port (.hall h) = ⟨.hunting, some (acceptedFrame 0x01 seq [])⟩ ∧
      (∀ q, ¬ q = .hall h → t.port q = s.port q) ∧
      t.work = s.work ∧ t.storePart = s.storePart ∧ t.scannerPart = s.scannerPart ∧
      (∀ g, ¬ g = h → t.hall g = s.hall g) ∧
      (∀ cause, s.hallState h = .alert →
        (s.hallPlan h).confirmsBy (zones.map fun z => { id := z.1, group := z.2, held := .normal }) (s.inc h).latched
          cause →
        { s with links := t.links }.confirmedFrom t h cause ∧ (t.inc h).change = (s.inc h).change + 1) ∧
      (¬ s.hallState h = .alert ∨
          (∀ cause, ¬ (s.hallPlan h).confirmsBy (zones.map fun z => { id := z.1, group := z.2, held := .normal })
            (s.inc h).latched cause) →
        t.hallsPart = s.hallsPart ∧ t.inventoryPart = s.inventoryPart ∧ t.driverPart = s.driverPart ∧
        t.linesPart = s.linesPart)

/-- An accepted CYCLE on a RUNNING or SILENT link: held states, hold request and temperatures are replaced, the silence
timer restarts, the link is RUNNING; the CYCLE_RESULT carries the hall as it stands after the event, laid out as R173
gives (R29, R165, R170). The report is taken whole. A QUIET hall opens an incident just where a zone of A, B or MANUAL is
in ALARM, and is else left as it was (R44). In an open incident the zones in ALARM latch, each once, while there is room;
a MANUAL zone that latches confirms with PANEL_MANUAL or releases the countdown; in ALERT the hall's rule confirms; the
hold demand is then tested once, against the hall as the event left it; the change number advances once at most (R42 to
R50, R93 to R99). A hall that does not wait keeps its record; a waiting one may be served where a manual release with
delay 0 lets the countdown expire (R92, R103). That a manual event at the end of the tenth that reaches the hold limit
adds nothing for that tenth to hold used is the model's choice (log entry 29). -/
def Obligations.CycleIsAccepted : Prop :=
  ∀ (h : HallId) (seq : Byte) (zones reported : List Zone) (states : List ZoneState) (hold : Bool)
    (low high : Option Int) (s : State),
    s.portReady (.hall h) → ((s.link h).state = .running ∨ (s.link h).state = .silent) →
    (s.link h).zones = some zones → states.length = zones.length → zones.length ≤ 16 →
    reported = List.zipWith (fun (z : Zone) x => { z with held := x }) zones states →
    (∀ x, low = some x → -40 ≤ x ∧ x ≤ 85) → (∀ x, high = some x → -40 ≤ x ∧ x ≤ 85) →
    ∃ t,
      exec (.cycle (.hall h) seq
        (states.map ZoneState.code ++ [if hold then 1 else 0, optionalTemp low, optionalTemp high])) s = .next t ∧
      t.links = s.links.set h
        { s.link h with
          state := .running
          zones := some reported
          hold := hold
          low := low
          high := high
          silence := some (Timer.start s.work.site.silence) } ∧
      t.port (.hall h) = ⟨.hunting, some (frameBytes 0x82 seq (t.cycleResult h))⟩ ∧
      t.cycleLaidOut h (t.cycleResult h) ∧ t.holdDemand h = (s.holdContact h || hold) ∧
      (∀ q, ¬ q = .hall h → t.port q = s.port q) ∧
      t.work = s.work ∧ t.storePart = s.storePart ∧ t.scannerPart = s.scannerPart ∧ s.othersKept t h ∧
      (t.inc h).change =
        (s.inc h).change +
          (if { t.inc h with change := 0 } = { s.inc h with change := 0 } then 0 else 1) ∧
      (s.hallState h = .quiet → (∀ z, z ∈ reported → z.held = .alarm → z.group = .advisory) →
        t.hallsPart = s.hallsPart ∧ t.inventoryPart = s.inventoryPart) ∧
      ((zones.map Zone.id).Nodup →
        (s.hallState h = .quiet → (∃ z, z ∈ reported ∧ z.held = .alarm ∧ ¬ z.group = .advisory) →
          ({ s with links := t.links, hallPorts := t.hallPorts }.openedFor h).reportTakenFrom t h (s.holdDemand h) reported) ∧
        (¬ s.hallState h = .quiet →
          { s with links := t.links, hallPorts := t.hallPorts }.reportTakenFrom t h (s.holdDemand h) reported))

/-- SILENCE_TIMER_EXPIRY on a RUNNING link: SILENT, timer stopped, SILENCE_SEEN set, everything else of the link kept
(R166). A hall in HELD on the panel's request alone resumes its countdown with at least the restart floor and the stay
added to hold used (R93, R97); any other hall, and one whose HOLD contact is closed, is left as it was. -/
def Obligations.SilenceExpiryReleasesPanelHold : Prop :=
  ∀ (h : HallId) (s : State) (timer : Timer),
    (s.link h).state = .running → (s.link h).silence = some timer →
    ∃ t, exec (.silenceTimerExpiry h) s = .next t ∧
      t.links = s.links.set h
        { s.link h with
          state := .silent
          silence := none
          sticky := { (s.link h).sticky with silenceSeen := true } } ∧
      (∀ g, ¬ g = h → t.hall g = s.hall g) ∧
      (s.hallState h = .held → s.holdContact h = false → (s.link h).hold = true →
        t.hallState h = .countdown ∧
        (t.inc h).countdown = some (max ((s.inc h).countdown.getD 0) (10 * (s.hallPlan h).restartFloor)) ∧
        (t.inc h).holdUsed =
          (s.inc h).holdUsed +
            (if 0 < (s.hall h).stay.ms ∨ (s.hall h).stay.counted = false then 1 else 0) ∧
        (t.inc h).change = (s.inc h).change + 1 ∧ (t.inc h).flags = (s.inc h).flags) ∧
      (¬ s.hallState h = .held ∨ s.holdContact h = true ∨ (s.link h).hold = false → t.hall h = s.hall h) ∧
      t.work = s.work ∧ t.storePart = s.storePart ∧ t.inventoryPart = s.inventoryPart ∧ t.driverPart = s.driverPart ∧
      t.linesPart = s.linesPart ∧ t.scannerPart = s.scannerPart ∧ t.waitList = s.waitList ∧
      t.hallPorts = s.hallPorts ∧ t.stationPort = s.stationPort

/-- An accepted LINK_START: each selected port that is STOPPED and present in the site record awaits a declaration with
its sticky flags cleared and its receiver hunting; every other port stays, and the failed ones are in the result mask
(R162). -/
def Obligations.LinkStartStartsStoppedPorts : Prop :=
  ∀ (seq mask : Byte) (ports : PerHall Bool) (s : State), s.portReady .station → portMaskOf mask = some ports →
    ∃ t, exec (.linkStart .station seq [mask]) s = .next t ∧
      (∀ h,
        (ports.get h = true ∧ (s.link h).state = .stopped ∧ s.work.site.portMask.get h = true →
          t.link h =
            { state := .awaitingDeclare, zones := none, hold := false, low := none, high := none, silence := none,
              sticky := ⟨false, false, false, false⟩ } ∧
          (t.port (.hall h)).rx = .hunting) ∧
        (¬ (ports.get h = true ∧ (s.link h).state = .stopped ∧ s.work.site.portMask.get h = true) →
          t.link h = s.link h ∧ t.port (.hall h) = s.port (.hall h))) ∧
      (∃ failed : PerHall Bool,
        (∀ h, failed.get h = true ↔
          ports.get h = true ∧ ¬ ((s.link h).state = .stopped ∧ s.work.site.portMask.get h = true)) ∧
        t.stationPort = ⟨.hunting, some (acceptedFrame 0x27 seq [maskByte failed])⟩) ∧
      t.hallsPart = s.hallsPart ∧ t.work = s.work ∧ t.storePart = s.storePart ∧ t.inventoryPart = s.inventoryPart ∧
      t.driverPart = s.driverPart ∧ t.linesPart = s.linesPart ∧ t.scannerPart = s.scannerPart

/-- An accepted LINK_STOP: each selected port goes to STOPPED with its declaration, hold request, temperatures and
silence timer cleared, its sticky flags kept, a partial frame abandoned and a response in transmission left alone; the
result mask shows the ports that changed (R163). A hall in HELD on a stopped panel's request alone resumes its countdown
with at least the restart floor and its stay added to hold used; every other hall's record stays (R90, R93, R97). In the
masks of LINK_START and LINK_STOP bit n - 1 stands for Pn; a request's mask is from 1 to 63 (R162, R172). -/
def Obligations.LinkStopStopsSelectedPorts : Prop :=
  (∀ (mask : Byte) (ports : PerHall Bool),
    portMaskOf mask = some ports ↔
      1 ≤ mask.toNat ∧ mask.toNat ≤ 63 ∧ ∀ h : HallId, ports.get h = mask.getLsbD (h.num - 1)) ∧
  (∀ (ports : PerHall Bool),
    (∀ h : HallId, (maskByte ports).getLsbD (h.num - 1) = ports.get h) ∧ (maskByte ports).toNat ≤ 63) ∧
  ∀ (seq mask : Byte) (ports : PerHall Bool) (s : State), s.portReady .station → portMaskOf mask = some ports →
    ∃ t, exec (.linkStop .station seq [mask]) s = .next t ∧
      (∀ h,
        (ports.get h = true ∧ ¬ (s.link h).state = .stopped →
          t.link h =
            { state := .stopped, zones := none, hold := false, low := none, high := none, silence := none,
              sticky := (s.link h).sticky } ∧
          t.port (.hall h) = ⟨.hunting, (s.port (.hall h)).tx⟩) ∧
        (¬ (ports.get h = true ∧ ¬ (s.link h).state = .stopped) →
          t.link h = s.link h ∧ t.port (.hall h) = s.port (.hall h)) ∧
        (ports.get h = true → s.hallState h = .held → s.holdContact h = false → (s.link h).state = .running →
          (s.link h).hold = true →
          t.hall h =
            { s.hall h with
              inc :=
                { s.inc h with
                  state := .countdown
                  countdown := some (max ((s.inc h).countdown.getD 0) (10 * (s.hallPlan h).restartFloor))
                  holdUsed :=
                    (s.inc h).holdUsed +
                      (if 0 < (s.hall h).stay.ms ∨ (s.hall h).stay.counted = false then 1 else 0)
                  change := (s.inc h).change + 1 }
              stay := ⟨0, false⟩ }) ∧
        (ports.get h = false ∨ ¬ s.hallState h = .held ∨ s.holdContact h = true ∨ ¬ (s.link h).state = .running ∨
            (s.link h).hold = false →
          t.hall h = s.hall h)) ∧
      (∃ changed : PerHall Bool,
        (∀ h, changed.get h = true ↔ ports.get h = true ∧ ¬ (s.link h).state = .stopped) ∧
        t.stationPort = ⟨.hunting, some (acceptedFrame 0x28 seq [maskByte changed])⟩) ∧
      t.waitList = s.waitList ∧ t.confCounter = s.confCounter ∧ t.work = s.work ∧ t.storePart = s.storePart ∧
      t.inventoryPart = s.inventoryPart ∧ t.driverPart = s.driverPart ∧ t.linesPart = s.linesPart ∧
      t.scannerPart = s.scannerPart

/-! ## The plan store -/

/-- An accepted WRITE_PLAN: a record of the right form and content, the mode open to it, the store idle and the owner
willing. The working copy takes the record at once, the write of it begins, and the answer is ACCEPTED; a bank or
manifold record is followed by one re-examination, made on the state that the edit left; after a site or hall record
there is none (R72, R79, R80, R177). A bank circuit's run is emptied where a limit changes, and the selector circuits
follow the reach; a measurement of a circuit that is discarded is abandoned (R131, R138). -/
def Obligations.WritePlanIsAccepted : Prop :=
  ∀ (seq code number : Byte) (kind : RecordKind) (body : List Byte) (e : PlanEdit) (s : State),
    s.portReady .station → recordKindOf code = some kind → planBodyFits kind body = true →
    planEditOf kind number body = some e → s.planLocked = false → s.write = none → s.markQueue = [] →
    s.ownerAllows e = true →
    ∃ t, exec (.writePlan .station seq (code :: number :: body)) s = .next t ∧
      t.work = e.apply s.work ∧ t.write = some (.plan e) ∧ t.markQueue = [] ∧ s.outsideKept t ∧
      t.stationPort = ⟨.hunting, some (acceptedFrame 0x20 seq [])⟩ ∧ (∀ g, ¬ g ∈ s.waitList → t.hall g = s.hall g) ∧
      (∀ b, t.bankCircuits.get b =
        match e with
        | .bank c r =>
          if b = c ∧ ¬ (r.openLimit = (s.bankPlan b).openLimit ∧ r.shortLimit = (s.bankPlan b).shortLimit) then
            { s.bankCircuits.get b with run := none }
          else s.bankCircuits.get b
        | _ => s.bankCircuits.get b) ∧
      (s.waitList = [] →
        t.inventoryPart = s.inventoryPart ∧ t.driverPart = s.driverPart ∧ t.hallsPart = s.hallsPart) ∧
      ∃ u, s.editedTo u e ∧ e.endsIn s u t

/-- The refusals of WRITE_PLAN in the order of R177: LOCKED by the mode, STORE_BUSY, INVALID for the content, BUSY for
the owner; and when the mode locks and the owner refuses (R178, R181, R182). Each leaves everything but the response. -/
def Obligations.WritePlanRefusals : Prop :=
  (∀ (seq code number : Byte) (kind : RecordKind) (body : List Byte) (s : State),
    s.portReady .station → recordKindOf code = some kind → planBodyFits kind body = true →
    (s.planLocked = true →
      exec (.writePlan .station seq (code :: number :: body)) s =
        .next (s.send .station (refusedFrame 0x20 seq .locked))) ∧
    (s.planLocked = false → (s.write.isSome = true ∨ ¬ s.markQueue = []) →
      exec (.writePlan .station seq (code :: number :: body)) s =
        .next (s.send .station (refusedFrame 0x20 seq .storeBusy))) ∧
    (s.planLocked = false → s.write = none → s.markQueue = [] → planEditOf kind number body = none →
      exec (.writePlan .station seq (code :: number :: body)) s =
        .next (s.send .station (refusedFrame 0x20 seq .invalid))) ∧
    ∀ e, s.planLocked = false → s.write = none → s.markQueue = [] → planEditOf kind number body = some e →
      s.ownerAllows e = false →
      exec (.writePlan .station seq (code :: number :: body)) s =
        .next (s.send .station (refusedFrame 0x20 seq .busy))) ∧
  (∀ s : State,
    s.planLocked = true ↔
      s.work.lock = .permanent ∨ s.overlay = true ∨ (s.work.lock = .keyed ∧ s.commissionKey = false)) ∧
  ∀ s : State,
    (∀ h r, s.ownerAllows (.hall h r) = true ↔ s.hallState h = .quiet) ∧
    (∀ b r, s.ownerAllows (.bank b r) = true ↔
      s.bank b = .ready ∨
      (s.bank b = .spent ∧ ∀ h, s.holder (s.manifoldOf b) = some h → ¬ b ∈ (s.inc h).allocBanks)) ∧
    (∀ m r, s.ownerAllows (.man m r) = true ↔
      (∀ h, s.hallState h = .quiet ∨ s.hallState h = .alert) ∧ ∀ n, (s.man n).state = .free) ∧
    ∀ r, s.ownerAllows (.site r) = true ↔
      (∀ h, s.hallState h = .quiet ∨ s.hallState h = .alert) ∧ ∀ n, (s.man n).state = .free

/-- The plan records read back: the fields that READ_PLAN reports for a valid record, sent in a WRITE_PLAN, are read as
that record; and a body that WRITE_PLAN reads as a record is the one that READ_PLAN would report for it (R174, R176). The
valid records are those whose fields lie in the ranges of R176: the site record with the cross-check of R28, the specific
volume at -10 at least 900; limits with S from 1 to L - 1; a maximum not below the design concentration, a design high not
below the design low; a preference list that names no bank twice. The fields whose every value is valid (masks of six
bits, roles, rules, switches) are such by their types. -/
def Obligations.PlanRecordsReadBack : Prop :=
  (∀ r : SitePlan, r.valid = true ↔
    (1000 ≤ r.k1 ∧ r.k1 ≤ 9999) ∧ r.k2 ≤ 9999 ∧ 900 ≤ (r.k1 : Int) + Int.fdiv ((r.k2 : Int) * (-10)) 100 ∧
    5 ≤ r.silence ∧ r.silence ≤ 50) ∧
  (∀ r : ManPlan, r.valid = true ↔
    (16 ≤ r.openLimit ∧ r.openLimit ≤ 4095) ∧ (1 ≤ r.shortLimit ∧ r.shortLimit < r.openLimit) ∧
    (1 ≤ r.selectorTimeout ∧ r.selectorTimeout ≤ 30) ∧ (1 ≤ r.flowTimeout ∧ r.flowTimeout ≤ 60) ∧
    5 ≤ r.ventTime ∧ r.ventTime ≤ 300) ∧
  (∀ r : BankPlan, r.valid = true ↔
    (1 ≤ r.cylinders ∧ r.cylinders ≤ 16) ∧ (100 ≤ r.fill ∧ r.fill ≤ 2000) ∧
    (16 ≤ r.openLimit ∧ r.openLimit ≤ 4095) ∧ 1 ≤ r.shortLimit ∧ r.shortLimit < r.openLimit) ∧
  (∀ r : HallPlan, r.valid = true ↔
    (100 ≤ r.volume ∧ r.volume ≤ 65535) ∧ (40 ≤ r.design ∧ r.design ≤ 150) ∧
    (r.design ≤ r.maximum ∧ r.maximum ≤ 300) ∧ (-10 ≤ r.designLow ∧ r.designLow ≤ r.designHigh ∧ r.designHigh ≤ 50) ∧
    r.autoDelay ≤ 120 ∧ r.manualDelay ≤ 60 ∧ r.holdLimit ≤ 600 ∧ r.restartFloor ≤ 30 ∧
    (10 ≤ r.waitLimit ∧ r.waitLimit ≤ 600) ∧ (10 ≤ r.discharge ∧ r.discharge ≤ 120) ∧
    (1 ≤ r.preference.length ∧ r.preference.length ≤ 8) ∧ r.preference.Nodup) ∧
  (∀ r : SitePlan, r.valid = true →
    planBodyFits .site r.bytes = true ∧ planEditOf .site 1 r.bytes = some (.site r)) ∧
  (∀ (m : ManId) (r : ManPlan), r.valid = true →
    planBodyFits .man r.bytes = true ∧ planEditOf .man (byteOf m.num) r.bytes = some (.man m r)) ∧
  (∀ (b : BankId) (r : BankPlan), r.valid = true →
    planBodyFits .bank r.bytes = true ∧ planEditOf .bank (byteOf b.num) r.bytes = some (.bank b r)) ∧
  (∀ (h : HallId) (r : HallPlan), r.valid = true →
    planBodyFits .hall r.bytes = true ∧ planEditOf .hall (byteOf h.num) r.bytes = some (.hall h r)) ∧
  ∀ (kind : RecordKind) (number : Byte) (body : List Byte) (e : PlanEdit),
    planBodyFits kind body = true → planEditOf kind number body = some e →
    match e with
    | .site r => kind = .site ∧ number = 1 ∧ r.valid = true ∧ body = r.bytes
    | .man m r => kind = .man ∧ number = byteOf m.num ∧ r.valid = true ∧ body = r.bytes
    | .bank b r => kind = .bank ∧ number = byteOf b.num ∧ r.valid = true ∧ body = r.bytes
    | .hall h r => kind = .hall ∧ number = byteOf h.num ∧ r.valid = true ∧ body = r.bytes

/-- SET_LOCK at the store: the checks of R183 in their order, and its table. A refused setting and one that changes
nothing leave everything but the response. -/
def Obligations.SetLockFollowsItsTable : Prop :=
  (∀ (seq b : Byte) (s : State), s.portReady .station → 3 < b.toNat →
    exec (.setLock .station seq [b]) s = .next (s.send .station (refusedFrame 0x21 seq .invalid))) ∧
  ∀ (seq : Byte) (s : State), s.portReady .station →
    (s.write.isSome = true ∨ ¬ s.markQueue = [] → ∀ b : Byte, b.toNat ≤ 3 →
      exec (.setLock .station seq [b]) s = .next (s.send .station (refusedFrame 0x21 seq .storeBusy))) ∧
    (s.write = none → s.markQueue = [] →
      (s.work.lock = .permanent →
        exec (.setLock .station seq [0]) s = .next (s.send .station (refusedFrame 0x21 seq .locked)) ∧
        exec (.setLock .station seq [1]) s = .next (s.send .station (refusedFrame 0x21 seq .locked))) ∧
      (s.commissionKey = false →
        exec (.setLock .station seq [2]) s = .next (s.send .station (refusedFrame 0x21 seq .keyRequired)) ∧
        (s.work.lock = .keyed →
          exec (.setLock .station seq [0]) s = .next (s.send .station (refusedFrame 0x21 seq .keyRequired)))) ∧
      (s.work.lock = .openMode →
        exec (.setLock .station seq [0]) s = .next (s.send .station (acceptedFrame 0x21 seq [])) ∧
        exec (.setLock .station seq [1]) s = .next
          ({ s with work := { s.work with lock := .keyed }, write := some (.lockMode .keyed) }.send .station
            (acceptedFrame 0x21 seq []))) ∧
      (s.work.lock = .keyed →
        (s.commissionKey = true →
          exec (.setLock .station seq [0]) s = .next
            ({ s with work := { s.work with lock := .openMode }, write := some (.lockMode .openMode) }.send .station
              (acceptedFrame 0x21 seq []))) ∧
        exec (.setLock .station seq [1]) s = .next (s.send .station (acceptedFrame 0x21 seq []))) ∧
      (s.commissionKey = true →
        (¬ s.work.lock = .permanent →
          exec (.setLock .station seq [2]) s = .next
            ({ s with work := { s.work with lock := .permanent }, write := some (.lockMode .permanent) }.send .station
              (acceptedFrame 0x21 seq []))) ∧
        (s.work.lock = .permanent →
          exec (.setLock .station seq [2]) s = .next (s.send .station (acceptedFrame 0x21 seq [])))) ∧
      exec (.setLock .station seq [3]) s = .next
        ({ s with overlay := true }.send .station (acceptedFrame 0x21 seq [])))

/-- PERMANENT cannot be left by any request: once the store holds it, every step keeps it, in the working copy and in
the non-volatile content (R183). -/
def Obligations.PermanentLockIsNeverLeft : Prop :=
  ∀ s t : State, s.storeLaw → s.work.lock = .permanent → s.nvPlan.lock = .permanent → step s = .next t →
    t.storeLaw ∧ t.work.lock = .permanent ∧ t.nvPlan.lock = .permanent

/-! ## Isolation and recharge -/

/-- ISOLATE of a bank: STORE_BUSY, IN_USE for a RESERVED or FIRING bank, no change where the flag is set, else the
working flag is set and its write begins. Every hall, bank and manifold stays as it was (R21). -/
def Obligations.IsolateBankSetsFlag : Prop :=
  ∀ (seq : Byte) (b : BankId) (s : State), s.portReady .station →
    (s.write.isSome = true ∨ ¬ s.markQueue = [] →
      exec (.isolate .station seq [2, byteOf b.num]) s =
        .next (s.send .station (refusedFrame 0x22 seq .storeBusy))) ∧
    (s.write = none → s.markQueue = [] →
      (∀ h, s.bank b = .reserved h ∨ s.bank b = .firing h →
        exec (.isolate .station seq [2, byteOf b.num]) s =
          .next (s.send .station (refusedFrame 0x22 seq .inUse))) ∧
      (s.bank b = .ready ∨ s.bank b = .spent →
        exec (.isolate .station seq [2, byteOf b.num]) s =
          .next
            ((if s.work.bankIsolated.get b = true then s
              else
                { s with
                  work := { s.work with bankIsolated := s.work.bankIsolated.set b true }
                  write := some (.bankIsolated b true) }).send .station
              (acceptedFrame 0x22 seq []))))

/-- ISOLATE of a hall: STORE_BUSY, TOO_LATE in SELECTING, DISCHARGING and SOAK, no change where the flag is set; else the
working flag is set, its write begins, and a hall in WAITING, COUNTDOWN or HELD goes to INHIBITED with its reservations
returned, the rest of the halls' records staying but for those that the re-examination that follows serves (R21, R51, R79,
R80, R87). -/
def Obligations.IsolateHallInhibits : Prop :=
  ∀ (seq : Byte) (h : HallId) (s : State), s.portReady .station →
    (s.write.isSome = true ∨ ¬ s.markQueue = [] →
      exec (.isolate .station seq [1, byteOf h.num]) s =
        .next (s.send .station (refusedFrame 0x22 seq .storeBusy))) ∧
    (s.write = none → s.markQueue = [] →
      (s.hallState h = .selecting ∨ s.hallState h = .discharging ∨ s.hallState h = .soak →
        exec (.isolate .station seq [1, byteOf h.num]) s =
          .next (s.send .station (refusedFrame 0x22 seq .tooLate))) ∧
      (s.work.hallIsolated.get h = true → (s.hallState h).releasing = false →
        exec (.isolate .station seq [1, byteOf h.num]) s = .next (s.send .station (acceptedFrame 0x22 seq []))) ∧
      (s.work.hallIsolated.get h = false →
        (s.hallState h = .quiet ∨ s.hallState h = .alert ∨ s.hallState h = .inhibited ∨ s.hallState h = .discharged ∨
            s.hallState h = .stalled →
          exec (.isolate .station seq [1, byteOf h.num]) s =
            .next
              ({ s with
                  work := { s.work with hallIsolated := s.work.hallIsolated.set h true }
                  write := some (.hallIsolated h true) }.send .station
                (acceptedFrame 0x22 seq []))) ∧
        (s.hallState h = .waiting ∨ ((s.hallState h = .countdown ∨ s.hallState h = .held) ∧ ¬ h ∈ s.waitList) →
          ∃ t, exec (.isolate .station seq [1, byteOf h.num]) s = .next t ∧
            t.work = { s.work with hallIsolated := s.work.hallIsolated.set h true } ∧
            t.write = some (.hallIsolated h true) ∧ t.markQueue = [] ∧ s.inhibitedFrom t h ∧ s.outsideKept t ∧
            t.stationPort = ⟨.hunting, some (acceptedFrame 0x22 seq [])⟩)))

/-- DEISOLATE: STORE_BUSY; no change where the flag is clear; else the working flag is cleared and its write begins. Of a
bank, one re-examination follows on the state with the flag clear, in which only waiting halls act. Of a hall, an INHIBITED hall without LOCKOUT is
attempted with its own confirmation number, and any other hall is left as it was (R22, R52, R72, R80). -/
def Obligations.DeisolateReturnsToService : Prop :=
  ∀ (seq : Byte) (s : State), s.portReady .station →
    (s.write.isSome = true ∨ ¬ s.markQueue = [] →
      (∀ b : BankId, exec (.deisolate .station seq [2, byteOf b.num]) s =
        .next (s.send .station (refusedFrame 0x23 seq .storeBusy))) ∧
      ∀ h : HallId, exec (.deisolate .station seq [1, byteOf h.num]) s =
        .next (s.send .station (refusedFrame 0x23 seq .storeBusy))) ∧
    (s.write = none → s.markQueue = [] →
      (∀ b : BankId,
        (s.work.bankIsolated.get b = false →
          exec (.deisolate .station seq [2, byteOf b.num]) s = .next (s.send .station (acceptedFrame 0x23 seq []))) ∧
        (s.work.bankIsolated.get b = true →
          (∃ t, exec (.deisolate .station seq [2, byteOf b.num]) s = .next t ∧
            t.work = { s.work with bankIsolated := s.work.bankIsolated.set b false } ∧
            t.write = some (.bankIsolated b false) ∧ s.outsideKept t ∧ t.stationPort = ⟨.hunting, some (acceptedFrame 0x23 seq [])⟩ ∧
            (∀ g, ¬ g ∈ s.waitList → t.hall g = s.hall g) ∧
            s.thenReexamined
              { s with
                work := { s.work with bankIsolated := s.work.bankIsolated.set b false }
                write := some (.bankIsolated b false) } t) ∧
          (s.waitList = [] →
            exec (.deisolate .station seq [2, byteOf b.num]) s =
              .next
                ({ s with
                    work := { s.work with bankIsolated := s.work.bankIsolated.set b false }
                    write := some (.bankIsolated b false) }.send .station
                  (acceptedFrame 0x23 seq []))))) ∧
      ∀ h : HallId,
        (s.work.hallIsolated.get h = false →
          exec (.deisolate .station seq [1, byteOf h.num]) s = .next (s.send .station (acceptedFrame 0x23 seq []))) ∧
        (s.work.hallIsolated.get h = true → (¬ s.hallState h = .inhibited ∨ s.lockout h = true) →
          exec (.deisolate .station seq [1, byteOf h.num]) s =
            .next
              ({ s with
                  work := { s.work with hallIsolated := s.work.hallIsolated.set h false }
                  write := some (.hallIsolated h false) }.send .station
                (acceptedFrame 0x23 seq []))) ∧
        (s.work.hallIsolated.get h = true → s.hallState h = .inhibited → s.lockout h = false →
          ∃ t, exec (.deisolate .station seq [1, byteOf h.num]) s = .next t ∧
            t.work = { s.work with hallIsolated := s.work.hallIsolated.set h false } ∧
            t.write = some (.hallIsolated h false) ∧ t.stationPort = ⟨.hunting, some (acceptedFrame 0x23 seq [])⟩ ∧
            s.attemptedFrom t h ∧ s.outsideKept t ∧ ∀ g, ¬ g = h → t.hall g = s.hall g))

/-- RECHARGED: STORE_BUSY, KEY_REQUIRED, STATE, BUSY, in that order; else the bank becomes READY, the write that clears
its mark begins, and one re-examination follows, in which only waiting halls act (R23). Whatever the wait list holds, it is
a walk on the state with the bank READY: the first hall is attempted with nothing protected, each next one on the state
that those before it left; a failed hall's preference banks are protected from those behind it, a successful one leaves
the list (R72, R80). -/
def Obligations.RechargedReturnsBank : Prop :=
  ∀ (seq : Byte) (b : BankId) (s : State), s.portReady .station →
    (s.write.isSome = true ∨ ¬ s.markQueue = [] →
      exec (.recharged .station seq [byteOf b.num]) s =
        .next (s.send .station (refusedFrame 0x26 seq .storeBusy))) ∧
    (s.write = none → s.markQueue = [] →
      (s.commissionKey = false →
        exec (.recharged .station seq [byteOf b.num]) s =
          .next (s.send .station (refusedFrame 0x26 seq .keyRequired))) ∧
      (s.commissionKey = true → ¬ s.bank b = .spent →
        exec (.recharged .station seq [byteOf b.num]) s =
          .next (s.send .station (refusedFrame 0x26 seq .state))) ∧
      (s.commissionKey = true → s.bank b = .spent →
        (s.lowPressure b = true ∨ (∃ h, s.holder (s.manifoldOf b) = some h ∧ b ∈ (s.inc h).allocBanks) →
          exec (.recharged .station seq [byteOf b.num]) s =
            .next (s.send .station (refusedFrame 0x26 seq .busy))) ∧
        (s.lowPressure b = false → (∀ h, s.holder (s.manifoldOf b) = some h → ¬ b ∈ (s.inc h).allocBanks) →
          (∃ t, exec (.recharged .station seq [byteOf b.num]) s = .next t ∧
            t.work = s.work ∧ s.outsideKept t ∧ t.write = some (.clearMark b) ∧
            (t.bank b = .ready ∨ ∃ g, g ∈ s.waitList ∧ t.bank b = .reserved g) ∧
            (∀ g, ¬ g ∈ s.waitList → t.hall g = s.hall g) ∧ t.bankCircuits = s.bankCircuits ∧
            t.stationPort = ⟨.hunting, some (acceptedFrame 0x26 seq [])⟩ ∧
            s.thenReexamined { s with banks := s.banks.set b .ready, write := some (.clearMark b) } t) ∧
          (s.waitList = [] →
            exec (.recharged .station seq [byteOf b.num]) s =
              .next
                ({ s with banks := s.banks.set b .ready, write := some (.clearMark b) }.send .station
                  (acceptedFrame 0x26 seq []))))))

/-! ## The station's requests on incidents -/

/-- STAND_DOWN: a QUIET hall is left as it is; SELECTING, DISCHARGING and SOAK are refused TOO_LATE; any other hall's
reservations are returned, its record is closed with its outcome, the hall is QUIET and out of the wait list, and its
wait clock is cleared; one re-examination of the halls that wait follows. The closed record keeps the flags, manual seen,
the required quantity and the temperatures; hold used keeps its value, with a stay in HELD that ends here added, its part
tenth as a whole one (R96, R101). The answer carries the hall, its state and its change number (R58, R70, R72, R79, R80,
R87). That a stand-down of ALERT, INHIBITED, DISCHARGED or STALLED, which returns nothing and is no event of R79, is
followed by a re-examination is the model's reading (log entry 10). -/
def Obligations.StandDownClosesIncident : Prop :=
  ∀ (seq : Byte) (h : HallId) (s : State), s.portReady .station →
    (s.hallState h = .selecting ∨ s.hallState h = .discharging ∨ s.hallState h = .soak →
      exec (.standDown .station seq [byteOf h.num]) s =
        .next (s.send .station (refusedFrame 0x24 seq .tooLate))) ∧
    (s.hallState h = .quiet →
      exec (.standDown .station seq [byteOf h.num]) s =
        .next (s.send .station (acceptedFrame 0x24 seq ([byteOf h.num, 0] ++ bytes2 (s.inc h).change.toNat)))) ∧
    ((s.hallState h).releasing = false → ¬ s.hallState h = .quiet →
      ∃ t, exec (.standDown .station seq [byteOf h.num]) s = .next t ∧
        t.hallState h = .quiet ∧ (t.inc h).isOpen = false ∧ (t.inc h).countdown = none ∧
        (t.inc h).closing =
          some
            (if s.hallState h = .discharged then .discharged
              else if s.hallState h = .stalled then .stalled else .stoodDown) ∧
        s.sameIncident t h ∧ (t.inc h).flags = (s.inc h).flags ∧ (t.inc h).required = (s.inc h).required ∧
        (t.inc h).tLow = (s.inc h).tLow ∧ (t.inc h).tHigh = (s.inc h).tHigh ∧
        (t.inc h).manualSeen = (s.inc h).manualSeen ∧
        (t.inc h).holdUsed =
          (s.inc h).holdUsed +
            (if s.hallState h = .held ∧ (0 < (s.hall h).stay.ms ∨ (s.hall h).stay.counted = false) then 1 else 0) ∧
        (t.inc h).change = (s.inc h).change + 1 ∧ (t.hall h).wait = none ∧ ¬ h ∈ t.waitList ∧
        s.returnedTo t h ∧ s.othersKept t h ∧ s.outsideKept t ∧ t.work = s.work ∧ t.storePart = s.storePart ∧
        (∃ u, s.leadsThrough u t h ∧ s.handedBack u h) ∧
        t.stationPort =
          ⟨.hunting, some (acceptedFrame 0x24 seq ([byteOf h.num, 0] ++ bytes2 (t.inc h).change.toNat))⟩)

/-- RETRY: a hall that is not STALLED is refused STATE; a STALLED one with isolation or LOCKOUT in force goes to
INHIBITED; without, one attempt is made for it with its own confirmation number (R60, R66, R68). -/
def Obligations.RetryAttemptsStalledHall : Prop :=
  ∀ (seq : Byte) (h : HallId) (s : State), s.portReady .station →
    (¬ s.hallState h = .stalled →
      exec (.retry .station seq [byteOf h.num]) s = .next (s.send .station (refusedFrame 0x25 seq .state))) ∧
    (s.hallState h = .stalled →
      ∃ t, exec (.retry .station seq [byteOf h.num]) s = .next t ∧
        (s.withheld h = true →
          t.hallState h = .inhibited ∧ (t.inc h).countdown = none ∧ t.inventoryPart = s.inventoryPart ∧
          t.waitList = s.waitList ∧ s.sameIncident t h) ∧
        (s.withheld h = false → s.attemptedFrom t h) ∧
        (∀ g, ¬ g = h → t.hall g = s.hall g) ∧ s.outsideKept t ∧ t.work = s.work ∧ t.storePart = s.storePart ∧
        t.stationPort =
          ⟨.hunting, some (acceptedFrame 0x25 seq
            ([byteOf h.num, (t.hallState h).code] ++ bytes2 (t.inc h).change.toNat))⟩)

/-- The walk of an attempt takes, from the front of the preference list, each bank that is eligible and unprotected, up
to the first that brings the total to the required quantity, and else to the end of the list; the attempt succeeds just
when that total is reached, or in partial mode with at least one bank (R18, R67, R69). Outside a re-examination just the
preference banks of the waiting halls that rank before are protected; a hall with the lower confirmation number ranks
before, and of equal numbers the lower hall number (R71, R73). A re-examination attempts the halls of the wait list in
turn, each committed before the next, with the preference banks of those that failed before it in the walk protected
(R72, R80). The countdown that a success starts has the delay of R91's table: with CONC_HIGH the larger of the two delays;
else after a manual cause or with manual seen set the manual delay, after a zone rule without it the automatic delay. -/
def Obligations.WalkTakesShortestPrefix : Prop :=
  ∀ (h : HallId) (guarded : List BankId) (s : State),
    (∃ n, n ≤ (s.preference h).length ∧
      s.attemptTakes h guarded =
        ((s.preference h).take n).filter (fun b => s.eligible h b && !guarded.contains b) ∧
      (n = (s.preference h).length ∨ s.computeRequired h ≤ s.sumOf (s.attemptTakes h guarded)) ∧
      ∀ k, k < n →
        s.sumOf (((s.preference h).take k).filter fun b => s.eligible h b && !guarded.contains b) <
          s.computeRequired h) ∧
    (∀ b, s.eligible h b = true ↔
      s.bank b = .ready ∧ s.work.bankIsolated.get b = false ∧
      (∃ x, s.circuit (.bank b) = some x ∧ (x.condition = .normal ∨ x.condition = .untested)) ∧
      s.lowPressure b = false ∧ (s.bankPlan b).role = s.selection ∧
      (s.manPlan (s.manifoldOf b)).reach.get h = true ∧
      (∃ x, s.circuit (.selector (s.manifoldOf b) h) = some x ∧
        (x.condition = .normal ∨ x.condition = .untested)) ∧
      ((s.man (s.manifoldOf b)).state = .free ∨ s.holder (s.manifoldOf b) = some h)) ∧
    (∀ taken, s.attemptSucceeds h taken = true ↔
      s.computeRequired h ≤ s.sumOf taken ∨
      ((s.hallPlan h).partialPermitted = true ∧ (∃ w, (s.hall h).wait = some w ∧ w.elapsed = true) ∧ ¬ taken = [])) ∧
    (∀ b, b ∈ s.protectedFrom h ↔
      ∃ g, g ∈ s.waitList ∧ s.ranksBefore g h = true ∧ b ∈ (s.hallPlan g).preference) ∧
    s.preference h = (s.hallPlan h).preference ∧
    (∀ g m n, (s.inc g).confNumber = some m → (s.inc h).confNumber = some n →
      (s.ranksBefore g h = true ↔ m < n ∨ (m = n ∧ g.num < h.num))) ∧
    s.reexaminedTo s.reexamine ∧
    ((s.inc h).flags.concHigh = true →
      s.startDelay h =
        if (s.hallPlan h).autoDelay ≤ (s.hallPlan h).manualDelay then (s.hallPlan h).manualDelay
        else (s.hallPlan h).autoDelay) ∧
    ((s.inc h).flags.concHigh = false →
      ((s.inc h).cause = some .localManual ∨ (s.inc h).cause = some .panelManual ∨ (s.inc h).manualSeen = true →
        s.startDelay h = (s.hallPlan h).manualDelay) ∧
      ((s.inc h).cause = some .cross ∨ (s.inc h).cause = some .double ∨ (s.inc h).cause = some .fallback →
        (s.inc h).manualSeen = false → s.startDelay h = (s.hallPlan h).autoDelay))

/-! ## Countdown and the wait limit -/

/-- Time. A step on an empty queue is one millisecond (log entry 2): incident clocks, wait clocks, countdown and hold
measures, silence, selector, flow, vent and discharge timers, pulses and the gaps of the receivers run, and nothing else
moves (R41, R70, R90, R107, R119, R158, R166). Then the rows of the timers that have run their time are taken, each once,
in some order (log entry 3), each where no earlier one stopped or restarted its timer.
COUNTDOWN_EXPIRY: the allocation is tested against the recorded required quantity. Met, the hall enters SELECTING; short
with banks where partial release is permitted or PARTIAL is set, it enters SELECTING with PARTIAL set; else
COUNTDOWN_SPENT is set, the reservations are returned, and the hall waits at its rank, where the re-examination that
follows attempts it: a walk over the wait list with the hall in it, on the state that the return left; left in WAITING it
holds no bank and no manifold, and its list and estimate are those the return left (R76, R80, R87, R102, R103). In any
other state the command changes nothing (log entry 6). -/
def Obligations.TimeRunsAndCountdownExpires : Prop :=
  (∀ s : State, s.pending = [] → ∃ (u : State) (rows : List Instr),
    s.ranTo u ∧ rows.Nodup ∧ (∀ c, c ∈ rows ↔ u.rowDue c = true) ∧
    step s =
      .next
        (rows.foldl State.takeDueRow
          { u with freeCount := u.freeCount + if rows.length ≤ 1 then 0 else rows.length })) ∧
  (∀ (h : HallId) (s : State), ¬ s.hallState h = .countdown → exec (.countdownExpiry h) s = .next s) ∧
  ∀ (h : HallId) (s : State), s.hallState h = .countdown → ¬ h ∈ s.waitList →
    ∃ t, exec (.countdownExpiry h) s = .next t ∧ s.expiredFrom t h ∧ (t.inc h).change = (s.inc h).change + 1 ∧
      s.othersKept t h ∧ s.outsideKept t ∧ t.work = s.work ∧
      t.storePart = s.storePart ∧ t.queue = s.queue ∧ t.slots = s.slots ∧ t.initiators = s.initiators ∧
      t.bankCircuits = s.bankCircuits

/-- WAIT_LIMIT_ELAPSING: once in an incident, the wait clock stands at the limit or above and the elapsing is noted (that
the row raises a clock that stands below the limit is the model's reading, log entry 4);
attempts from then on are in partial mode where the plan permits it. One re-examination follows, in which only waiting
halls act (R69, R70, R72, R80). A second elapsing in an incident changes nothing (log entry 6). -/
def Obligations.WaitLimitBringsPartialMode : Prop :=
  (∀ (h : HallId) (s : State), (∀ w, (s.hall h).wait = some w → w.elapsed = true) →
    exec (.waitLimitElapsing h) s = .next s) ∧
  ∀ (h : HallId) (w : WaitClock) (s : State), (s.hall h).wait = some w → w.elapsed = false →
    ∃ t, exec (.waitLimitElapsing h) s = .next t ∧
      (t.hall h).wait =
        some { w with tenths := max w.tenths (10 * (s.hallPlan h).waitLimit), elapsed := true } ∧
      t.partialMode h = (s.hallPlan h).partialPermitted ∧
      (¬ h ∈ s.waitList → t.inc h = s.inc h ∧ (t.hall h).stay = (s.hall h).stay) ∧
      s.othersKept t h ∧ s.outsideKept t ∧ t.work = s.work ∧ t.storePart = s.storePart ∧
      t.stationPort = s.stationPort ∧
      s.thenReexamined
        { s with
          halls := s.halls.set h
            { s.hall h with
              wait := some { w with tenths := max w.tenths (10 * (s.hallPlan h).waitLimit), elapsed := true } } } t ∧
      (s.waitList = [] →
        exec (.waitLimitElapsing h) s = .next
          { s with
            halls := s.halls.set h
              { s.hall h with
                wait :=
                  some { w with tenths := max w.tenths (10 * (s.hallPlan h).waitLimit), elapsed := true } } })

/-! ## Release -/

/-- SELECTOR_TIMEOUT of a SELECTING manifold: its hall is STALLED, its reservations returned, its selectors on every
manifold it held in CLAIMED or SELECTING de-energised; one re-examination follows, in which only waiting halls act (R72,
R80, R87, R110, R113). Without a running selector timer nothing happens (log entry 6). -/
def Obligations.SelectorTimeoutStallsHall : Prop :=
  (∀ (m : ManId) (s : State), (∀ x, ¬ (s.man m).timer = .selector x) → exec (.selectorTimeout m) s = .next s) ∧
  ∀ (m : ManId) (h : HallId) (x : Timer) (s : State),
    (s.man m).state = .selecting h → (s.man m).timer = .selector x → s.hallState h = .selecting →
    ¬ h ∈ s.waitList →
    ∃ t, exec (.selectorTimeout m) s = .next t ∧
      t.hallState h = .stalled ∧ s.sameIncident t h ∧ (t.inc h).flags = (s.inc h).flags ∧
      (t.inc h).required = (s.inc h).required ∧ (t.inc h).change = (s.inc h).change + 1 ∧
      (t.hall h).wait = (s.hall h).wait ∧ s.returnedTo t h ∧
      (∀ n, (s.man n).state = .claimed h ∨ (s.man n).state = .selecting h →
        t.selector n h = ⟨false, false⟩ ∧ ∀ c, (t.selCircuits.get n).get h = some c → c.driven = false) ∧
      s.othersKept t h ∧ s.outsideKept t ∧ t.work = s.work ∧ t.storePart = s.storePart ∧ t.queue = s.queue ∧
      t.slots = s.slots ∧ t.initiators = s.initiators ∧ ∃ u, s.leadsThrough u t h ∧ s.handedBack u h

/-- The flow contact and the flow timer: a closing seen while a CHARGED manifold's flow timer runs confirms flow and
stops the timer, at any other time it does nothing; the timer's expiry sets NO_FLOW in the holding hall's record and
changes nothing else (R122). Without a running flow timer FLOW_TIMEOUT changes nothing (log entry 6). -/
def Obligations.FlowIsConfirmedOrMissed : Prop :=
  (∀ (m : ManId) (sample : BitVec 8) (s : State),
    s.sees .l7 (match m with | .m1 => .l0 | .m2 => .l1) true sample →
    ∃ t, exec (.driveDwellEnd sample) s = .next t ∧
      t.man m =
        (match (s.man m).state, (s.man m).timer with
          | .charged _, .flow _ => { s.man m with flowConfirmed := true, timer := .stopped }
          | _, _ => s.man m) ∧
      (∀ n, ¬ n = m → t.man n = s.man n) ∧ t.banks = s.banks ∧ t.hallsPart = s.hallsPart ∧ t.work = s.work ∧
      t.storePart = s.storePart ∧ t.driverPart = s.driverPart ∧ t.linesPart = s.linesPart ∧
      t.portsPart = s.portsPart) ∧
  (∀ (m : ManId) (s : State), (∀ x, ¬ (s.man m).timer = .flow x) → exec (.flowTimeout m) s = .next s) ∧
  ∀ (m : ManId) (h : HallId) (x : Timer) (s : State),
    (s.man m).state = .charged h → (s.man m).timer = .flow x →
    exec (.flowTimeout m) s = .next
      { s with
        mans := s.mans.set m { s.man m with timer := .stopped }
        halls := s.halls.set h
          { s.hall h with
            inc :=
              { s.inc h with
                flags := { (s.inc h).flags with noFlow := true }
                change := (s.inc h).change + if (s.inc h).flags.noFlow = true then 0 else 1 } } }

/-- DISCHARGE_PERIOD_EXPIRY: the hall goes to SOAK; every manifold it holds becomes VENTING with its vent timer started,
and NO_FLOW is set where one of them has no confirmed flow; everything else stays (R15, R56, R124). Without a running
discharge timer nothing happens (log entry 6). -/
def Obligations.DischargeExpiryVentsManifolds : Prop :=
  (∀ (h : HallId) (s : State), (s.hall h).discharge = none → exec (.dischargePeriodExpiry h) s = .next s) ∧
  ∀ (h : HallId) (x : Timer) (s : State), s.hallState h = .discharging → (s.hall h).discharge = some x →
    ∃ t, exec (.dischargePeriodExpiry h) s = .next t ∧
      (t.hall h).discharge = none ∧
      t.inc h =
        { s.inc h with
          state := .soak
          flags := { (s.inc h).flags with noFlow := (t.inc h).flags.noFlow }
          change := (s.inc h).change + 1 } ∧
      ((t.inc h).flags.noFlow = true ↔
        (s.inc h).flags.noFlow = true ∨ ∃ m, s.holder m = some h ∧ (s.man m).flowConfirmed = false) ∧
      (∀ m, t.man m =
        if s.holder m = some h then
          { state := .venting h, flowConfirmed := (s.man m).flowConfirmed,
            timer := .vent (Timer.startSeconds (s.manPlan m).ventTime) }
        else s.man m) ∧
      (∀ g, ¬ g = h → t.hall g = s.hall g) ∧ t.confCounter = s.confCounter ∧ t.waitList = s.waitList ∧
      t.banks = s.banks ∧ t.work = s.work ∧ t.storePart = s.storePart ∧ t.driverPart = s.driverPart ∧
      t.linesPart = s.linesPart ∧ t.scannerPart = s.scannerPart ∧ t.portsPart = s.portsPart

/-- VENT_TIMER_EXPIRY: the holding hall's selector is de-energised and its circuit no longer driven, the manifold becomes
FREE with flow confirmed cleared, and the hall goes to DISCHARGED where it holds no other manifold. The re-examination
that follows may let a waiting hall claim it at once (R15, R72, R80, R125). Without a running vent timer nothing happens (log entry
6). -/
def Obligations.VentExpiryFreesManifold : Prop :=
  (∀ (m : ManId) (s : State), (∀ x, ¬ (s.man m).timer = .vent x) → exec (.ventTimerExpiry m) s = .next s) ∧
  ∀ (m : ManId) (h : HallId) (x : Timer) (s : State),
    (s.man m).state = .venting h → (s.man m).timer = .vent x → ¬ h ∈ s.waitList →
    ∃ t, exec (.ventTimerExpiry m) s = .next t ∧
      t.selector m h = ⟨false, false⟩ ∧ (∀ c, (t.selCircuits.get m).get h = some c → c.driven = false) ∧
      ((t.man m).state = .free ∨ ∃ g, g ∈ s.waitList ∧ t.holder m = some g) ∧
      (s.waitList = [] →
        t.man m = { state := .free, flowConfirmed := false, timer := .stopped } ∧ t.banks = s.banks ∧
        ∀ n, ¬ n = m → t.man n = s.man n ∧ t.selectors.get n = s.selectors.get n) ∧
      (s.hallState h = .soak → (∀ n, s.holder n = some h → n = m) →
        t.inc h = { s.inc h with state := .discharged, change := (s.inc h).change + 1 }) ∧
      ((¬ s.hallState h = .soak ∨ ∃ n, ¬ n = m ∧ s.holder n = some h) → t.inc h = s.inc h) ∧
      s.othersKept t h ∧ s.outsideKept t ∧ t.work = s.work ∧ t.storePart = s.storePart ∧ t.queue = s.queue ∧
      t.slots = s.slots ∧ t.initiators = s.initiators ∧
      ∃ u, s.leadsThrough u t h ∧ u.banks = s.banks ∧ s.manifoldsFreed u h fun n => n = m

/-- PULSE_END of a pulsing slot: the initiator is de-energised, its circuit no longer driven, the slot empty and taken at
once by the head of the firing queue, whose mark is written at once or waits behind the write in progress. Where no bank
of the holding hall's list is left to fire or pulsing, its discharge timer starts (R117, R118, R119, R123; log entry 9).
A slot that does not pulse is left alone (log entry 6).
Stated for a slot whose fellow is not idle while banks wait, which R117 rules out. -/
def Obligations.PulseEndEmptiesSlot : Prop :=
  (∀ (i : SlotId) (s : State), (∀ b ms, ¬ s.slots.get i = .pulsing b ms) → exec (.pulseEnd i) s = .next s) ∧
  ∀ (i : SlotId) (b : BankId) (ms : Nat) (s : State), s.slots.get i = .pulsing b ms →
    (s.queue = [] ∨ ∀ j, ¬ j = i → ¬ s.slots.get j = .empty) →
    ∃ t, exec (.pulseEnd i) s = .next t ∧
      t.initiators = s.initiators.set b false ∧
      t.bankCircuits = s.bankCircuits.set b { s.bankCircuits.get b with driven := false } ∧
      (s.queue = [] →
        t.slots = s.slots.set i .empty ∧ t.queue = [] ∧ t.write = s.write ∧ t.markQueue = s.markQueue) ∧
      (∀ c rest, s.queue = c :: rest →
        t.slots = s.slots.set i (.marking c) ∧ t.queue = rest ∧
        (s.write = none → t.write = some (.setMark c) ∧ t.markQueue = s.markQueue) ∧
        (s.write.isSome = true → t.write = s.write ∧ t.markQueue = s.markQueue ++ [c])) ∧
      (∀ h, s.holder (s.manifoldOf b) = some h → s.hallState h = .discharging → b ∈ (s.inc h).allocBanks →
        (∀ c, c ∈ (s.inc h).allocBanks →
          ¬ s.bank c = .firing h ∧ ∀ j k, ¬ j = i → ¬ s.slots.get j = .pulsing c k) →
        t.hall h = { s.hall h with discharge := some (Timer.startSeconds (s.hallPlan h).discharge) }) ∧
      (∀ h,
        (¬ s.holder (s.manifoldOf b) = some h ∨ ¬ s.hallState h = .discharging ∨ ¬ b ∈ (s.inc h).allocBanks ∨
          ∃ c, c ∈ (s.inc h).allocBanks ∧
            (s.bank c = .firing h ∨ ∃ j k, ¬ j = i ∧ s.slots.get j = .pulsing c k)) →
        t.hall h = s.hall h) ∧
      t.inventoryPart = s.inventoryPart ∧ t.selectors = s.selectors ∧ t.selCircuits = s.selCircuits ∧
      t.position = s.position ∧ t.measuring = s.measuring ∧ t.waitList = s.waitList ∧ s.outsideKept t ∧
      t.work = s.work ∧ t.stationPort = s.stationPort

/-- SPENT_MARK_COMPLETION: the mark stands in the non-volatile store, the bank is SPENT, its slot pulses for 500 ms, its
initiator is energised with its circuit driven, its run empty and a measurement of it abandoned; a SELECTING manifold
under it becomes CHARGED with its flow timer started; the next waiting mark's write begins (R9, R118, R119, R121, R133,
R179). Without a mark being written nothing happens (log entry 6). -/
def Obligations.SpentMarkCompletionFiresBank : Prop :=
  (∀ s : State, (∀ b, ¬ s.write = some (.setMark b)) → exec .spentMarkCompletion s = .next s) ∧
  ∀ (i : SlotId) (b : BankId) (s : State),
    s.write = some (.setMark b) → s.slots.get i = .marking b → (∀ j, s.slots.get j = .marking b → j = i) →
    ∃ t, exec .spentMarkCompletion s = .next t ∧
      t.nvSpent = s.nvSpent.set b true ∧ t.nvPlan = s.nvPlan ∧ t.work = s.work ∧ t.overlay = s.overlay ∧
      t.write = (match s.markQueue with | [] => none | c :: _ => some (.setMark c)) ∧
      t.markQueue = s.markQueue.tail ∧
      t.banks = s.banks.set b .spent ∧ t.slots = s.slots.set i (.pulsing b 500) ∧
      t.initiators = s.initiators.set b true ∧
      t.bankCircuits = s.bankCircuits.set b { s.bankCircuits.get b with driven := true, run := none } ∧
      t.measuring =
        (match s.measuring with
          | some x => if x.circuit = .bank b then none else some x
          | none => none) ∧
      (∀ m, t.man m =
        match (s.man m).state with
        | .selecting h =>
          if m = s.manifoldOf b then
            { s.man m with
              state := .charged h
              timer := .flow (Timer.startSeconds (s.manPlan m).flowTimeout) }
          else s.man m
        | _ => s.man m) ∧
      t.hallsPart = s.hallsPart ∧ t.selectors = s.selectors ∧ t.selCircuits = s.selCircuits ∧
      t.position = s.position ∧ t.queue = s.queue ∧ t.scannerPart = s.scannerPart ∧ t.portsPart = s.portsPart

/-- An initiator is energised only after its bank's spent mark has been recorded: in every state, a step that turns an
initiator on leaves the mark in the non-volatile store and the bank SPENT (R118). -/
def Obligations.SpentMarkBeforePulse : Prop :=
  ∀ (b : BankId) (s t : State), step s = .next t → s.initiators.get b = false → t.initiators.get b = true →
    t.nvSpent.get b = true ∧ t.bank b = .spent ∧ s.write = some (.setMark b) ∧ ∃ i, t.slots.get i = .pulsing b 500

/-- STORE_WRITE_COMPLETION: the store holds the content of the write, the mark at the head of the queue is written next,
and no other block sees the completion (R179). Without such a write nothing happens (log entry 6). -/
def Obligations.StoreWriteCompletionCommits : Prop :=
  (∀ s : State, (s.write = none ∨ ∃ b, s.write = some (.setMark b)) → exec .storeWriteCompletion s = .next s) ∧
  ∀ (w : StoreWrite) (s : State), s.write = some w → (∀ b, ¬ w = .setMark b) →
    exec .storeWriteCompletion s = .next
      { s with
        nvPlan :=
          (match w with
            | .plan e => e.apply s.nvPlan
            | .bankIsolated b v => { s.nvPlan with bankIsolated := s.nvPlan.bankIsolated.set b v }
            | .hallIsolated h v => { s.nvPlan with hallIsolated := s.nvPlan.hallIsolated.set h v }
            | .lockMode m => { s.nvPlan with lock := m }
            | .clearMark _ => s.nvPlan
            | .setMark _ => s.nvPlan)
        nvSpent :=
          (match w with
            | .clearMark b => s.nvSpent.set b false
            | _ => s.nvSpent)
        write := (match s.markQueue with | [] => none | c :: _ => some (.setMark c))
        markQueue := s.markQueue.tail }

/-! ## Supervision -/

/-- MEASUREMENT_INTERVAL: the next circuit of the rotation that is present, not driven and not a SPENT bank's is
measured, with its limits and the preset taken now; without one nothing changes. The rotation runs B1 to B8, the
selectors of M1, then of M2, from the circuit after the position, wrapping (R132, R135). Two points are the model's choice:
a circuit that was discarded and added again at the position comes last like any circuit there (log entry 30), and an
interval that finds a measurement in progress abandons it for the next one (log entry 15). The ends of a measurement
that is not in progress change nothing (log entry 6). -/
def Obligations.IntervalMeasuresNextCircuit : Prop :=
  (∀ s : State,
    ((∀ c, s.measurable c = false) → exec .measurementInterval s = .next s) ∧
    ∀ (passed rest : List CircuitId) (c : CircuitId), rotationFrom s.position = passed ++ c :: rest →
      (∀ d, d ∈ passed → s.measurable d = false) → s.measurable c = true →
      exec .measurementInterval s = .next
        { s with
          position := some c
          measuring :=
            some
              { circuit := c
                openLimit := (match c with | .bank b => (s.bankPlan b).openLimit | .selector m _ => (s.manPlan m).openLimit)
                shortLimit :=
                  (match c with | .bank b => (s.bankPlan b).shortLimit | .selector m _ => (s.manPlan m).shortLimit)
                preset :=
                  4095 -
                    (match c with
                      | .bank b => (s.bankPlan b).openLimit
                      | .selector m _ => (s.manPlan m).openLimit) } }) ∧
  (∀ (n : Nat) (s : State), s.measuring = none →
    exec (.comparatorTrip n) s = .next s ∧ exec .counterPasses4095 s = .next s) ∧
  (∀ (s : State) (b : BankId), s.measurable (.bank b) = true ↔
    (s.bankCircuits.get b).driven = false ∧ ¬ s.bank b = .spent) ∧
  (∀ (s : State) (m : ManId) (h : HallId), s.measurable (.selector m h) = true ↔
    ∃ x, (s.selCircuits.get m).get h = some x ∧ x.driven = false) ∧
  rotationFrom none =
    [.bank .b1, .bank .b2, .bank .b3, .bank .b4, .bank .b5, .bank .b6, .bank .b7, .bank .b8,
     .selector .m1 .h1, .selector .m1 .h2, .selector .m1 .h3, .selector .m1 .h4, .selector .m1 .h5, .selector .m1 .h6,
     .selector .m2 .h1, .selector .m2 .h2, .selector .m2 .h3, .selector .m2 .h4, .selector .m2 .h5,
     .selector .m2 .h6] ∧
  ∀ c : CircuitId, ∃ before after, rotationFrom none = before ++ c :: after ∧
    rotationFrom (some c) = after ++ (before ++ [c])

/-- The end of a measurement in progress: the last count and the reading by the limits taken at its start (R136), and the
reading's effect on condition and run (R137). Where usability does not change nothing else does. A trip comes with a count of at most the open limit, since the counter passes 4095 after it (R135). -/
def Obligations.MeasurementEndsInReading : Prop :=
  (∀ (c : Instr) (n : Nat) (last : LastCount) (kind : Reading) (x : Measurement) (old : Circuit) (s : State),
    s.measuring = some x → s.circuit x.circuit = some old →
    ((c = .counterPasses4095 ∧ last = .over ∧ kind = .openCircuit) ∨
      (c = .comparatorTrip n ∧ n < x.shortLimit ∧ n ≤ x.openLimit ∧ last = .count n ∧ kind = .shortCircuit) ∨
      (c = .comparatorTrip n ∧ x.shortLimit ≤ n ∧ n ≤ x.openLimit ∧ last = .count n ∧ kind = .normal)) →
    (old.applyReading kind).last = old.last ∧ (old.applyReading kind).driven = old.driven ∧
    ∃ t, exec c s = .next t ∧ t.measuring = none ∧
      (old.condition.usable = (old.applyReading kind).condition.usable →
        t =
          { s.modCircuit x.circuit fun _ => { old.applyReading kind with last := last } with measuring := none }) ∧
      (∀ b, x.circuit = .bank b →
        t.bankCircuits = s.bankCircuits.set b { old.applyReading kind with last := last }) ∧
      (∃ y, t.circuit x.circuit = some y ∧ y.last = last ∧ y.condition = (old.applyReading kind).condition) ∧
      t.position = s.position ∧ s.outsideKept t ∧ t.work = s.work ∧ t.portsPart = s.portsPart) ∧
  ∀ (kind : Reading) (x : Circuit),
    ¬ (x.applyReading kind).condition = .untested ∧
    (x.condition = .untested →
      (x.applyReading kind).condition = kind.condition ∧ (x.applyReading kind).run = none) ∧
    (¬ x.condition = .untested →
      (x.condition = kind.condition →
        (x.applyReading kind).condition = x.condition ∧ (x.applyReading kind).run = none) ∧
      (¬ x.condition = kind.condition →
        (∀ n, x.run = some ⟨kind, n⟩ →
          (n + 1 < 3 →
            (x.applyReading kind).condition = x.condition ∧ (x.applyReading kind).run = some ⟨kind, n + 1⟩) ∧
          (3 ≤ n + 1 →
            (x.applyReading kind).condition = kind.condition ∧ (x.applyReading kind).run = none)) ∧
        ((∀ n, ¬ x.run = some ⟨kind, n⟩) →
          (x.applyReading kind).condition = x.condition ∧ (x.applyReading kind).run = some ⟨kind, 1⟩)))

/-- What makes a RESERVED bank unfit withdraws it: its low pressure, the RESERVE key turned from its role, its circuit's
fault, its hall's selector's fault (R5, R10, R11, R139, R140). In COUNTDOWN and HELD the bank is READY and out of the list,
the countdown and the hold budget run on, and SHORTFALL is set where the total is left below the required quantity (R82,
R84). From states that meet the table laws the whole outcome is stated: the other entries stay, the replacement takes from
the preference list what R83 names, an emptied manifold is released, the estimate is recomputed (R35); in SELECTING the
release goes on, or the hall is sent back to wait (R85). Where one event makes banks of more halls unfit, each hall loses
its own in rank order, on the state that the one before it left, and then one re-examination follows (R82); that a later
hall may take what an earlier one lost is the model's reading (log entry 11). What makes a bank usable again is followed
by one re-examination of the wait list, whatever it holds: low pressure that clears, the key, a circuit NORMAL after a
fault (R79, R80). Where nothing is unfit and no hall waits only the contact or the circuit changes. -/
def Obligations.LowPressureWithdrawsBank : Prop :=
  (∀ (b : BankId) (h : HallId) (sample : BitVec 8) (s : State),
    s.sees .l6 (bankLine b) true sample → s.bank b = .reserved h →
    (s.hallState h = .countdown ∨ s.hallState h = .held) → ¬ h ∈ s.waitList →
    ∃ t, exec (.driveDwellEnd sample) s = .next t ∧
      t.lowPressure b = true ∧ t.bank b = .ready ∧ ¬ b ∈ (t.inc h).allocBanks ∧
      t.hallState h = s.hallState h ∧ (t.inc h).countdown = (s.inc h).countdown ∧
      (t.inc h).holdUsed = (s.inc h).holdUsed ∧ (t.hall h).stay = (s.hall h).stay ∧ s.sameIncident t h ∧
      (t.inc h).required = (s.inc h).required ∧
      ((t.inc h).flags.shortfall = true ↔
        (s.inc h).flags.shortfall = true ∨ (t.inc h).total < s.recordedRequired h) ∧
      (∀ c, c ∈ (t.inc h).allocBanks → c ∈ (s.inc h).allocBanks ∨ (t.bank c = .reserved h ∧ c ∈ s.preference h)) ∧
      s.othersKept t h ∧ t.confCounter = s.confCounter ∧ t.work = s.work ∧ t.storePart = s.storePart ∧
      t.portsPart = s.portsPart ∧ t.queue = s.queue ∧ t.slots = s.slots ∧ t.initiators = s.initiators) ∧
  (∀ (b : BankId) (closed : Bool) (sample : BitVec 8) (s : State), s.sees .l6 (bankLine b) closed sample →
    ((closed = true ∧ ∀ h, ¬ s.bank b = .reserved h) ∨ (closed = false ∧ s.waitList = [])) →
    ∃ t, exec (.driveDwellEnd sample) s = .next t ∧ t.lowPressure b = closed ∧
      t.inventoryPart = s.inventoryPart ∧ t.hallsPart = s.hallsPart ∧ t.driverPart = s.driverPart ∧
      t.linesPart = s.linesPart ∧ t.work = s.work ∧ t.storePart = s.storePart ∧ t.portsPart = s.portsPart) ∧
  (∀ (b : BankId) (h : HallId) (sample : BitVec 8) (s : State),
    s.tableLaw → s.sees .l6 (bankLine b) true sample → s.bank b = .reserved h →
    ∃ t, exec (.driveDwellEnd sample) s = .next t ∧
      { s with contacts := t.contacts, scan := t.scan }.withdrawnFrom t h [b] ∧
      { s with contacts := t.contacts, scan := t.scan }.withdrawnInto t [b] ∧ s.othersKept t h) ∧
  (∀ (b : BankId) (sample : BitVec 8) (s : State), s.sees .l6 (bankLine b) false sample →
    ∃ t, exec (.driveDwellEnd sample) s = .next t ∧
      { s with contacts := t.contacts, scan := t.scan }.thenReexamined
        { s with contacts := t.contacts, scan := t.scan } t) ∧
  (∀ (b : BankId) (h : HallId) (sample : BitVec 8) (s : State),
    s.sees .l6 (bankLine b) false sample → s.waitList = [h] → s.hallState h = .waiting →
    ∃ t, exec (.driveDwellEnd sample) s = .next t ∧ { s with contacts := t.contacts }.attemptedFrom t h ∧
      s.othersKept t h) ∧
  (∀ (closed : Bool) (sample : BitVec 8) (s : State), s.sees .l7 .l2 closed sample →
    ∃ t, exec (.driveDwellEnd sample) s = .next t ∧ t.selection = (if closed = true then .reserve else .main) ∧
      (∀ b h, t.bank b = .reserved h → (s.bankPlan b).role = t.selection) ∧
      t.work = s.work ∧ t.portsPart = s.portsPart ∧ t.confCounter = s.confCounter ∧ t.initiators = s.initiators ∧
      (∀ g, ¬ g ∈ s.waitList →
        ((∀ b, s.bank b = .reserved g → (s.bankPlan b).role = t.selection) → t.hall g = s.hall g) ∧
        (s.hallState g = .countdown ∨ s.hallState g = .held →
          t.hallState g = s.hallState g ∧ (t.inc g).countdown = (s.inc g).countdown ∧
          (t.inc g).holdUsed = (s.inc g).holdUsed)) ∧
      ((∀ b g, s.bank b = .reserved g → (s.bankPlan b).role = t.selection) →
        (s.waitList = [] → t.inventoryPart = s.inventoryPart ∧ t.hallsPart = s.hallsPart) ∧
        ∀ h, s.waitList = [h] → s.hallState h = .waiting →
          { s with contacts := t.contacts }.attemptedFrom t h) ∧
      (s.tableLaw →
        { s with contacts := t.contacts, scan := t.scan }.withdrawnInto t
          (BankId.all.filter fun b => (s.bank b).isReserved && !((s.bankPlan b).role == t.selection))) ∧
      ∀ h, s.tableLaw → (∃ b, s.bank b = .reserved h ∧ ¬ (s.bankPlan b).role = t.selection) →
        (∀ b g, s.bank b = .reserved g → ¬ (s.bankPlan b).role = t.selection → g = h) →
        { s with contacts := t.contacts, scan := t.scan }.withdrawnFrom t h
          (BankId.all.filter fun b => s.bank b == BankState.reserved h && !((s.bankPlan b).role == t.selection))) ∧
  ∀ (c : Instr) (n : Nat) (last : LastCount) (kind : Reading) (x : Measurement) (old : Circuit) (s u : State),
    s.measuring = some x → s.circuit x.circuit = some old →
    ((c = .counterPasses4095 ∧ last = .over ∧ kind = .openCircuit) ∨
      (c = .comparatorTrip n ∧ n < x.shortLimit ∧ n ≤ x.openLimit ∧ last = .count n ∧ kind = .shortCircuit) ∨
      (c = .comparatorTrip n ∧ x.shortLimit ≤ n ∧ n ≤ x.openLimit ∧ last = .count n ∧ kind = .normal)) →
    u = { s.modCircuit x.circuit fun _ => { old.applyReading kind with last := last } with measuring := none } →
    ∃ t, exec c s = .next t ∧
      (old.condition = .untested ∨ old.condition = .normal →
        (old.applyReading kind).condition = .openCircuit ∨ (old.applyReading kind).condition = .shortCircuit →
        (∀ b, x.circuit = .bank b →
          ((∀ h, ¬ s.bank b = .reserved h) → t = u) ∧
          ∀ h, s.bank b = .reserved h → s.tableLaw →
            u.withdrawnFrom t h [b] ∧ u.withdrawnInto t [b] ∧ s.othersKept t h) ∧
        ∀ m h, x.circuit = .selector m h →
          ((∀ b, s.bank b = .reserved h → ¬ s.manifoldOf b = m) → t = u) ∧
          ((∃ b, s.bank b = .reserved h ∧ s.manifoldOf b = m) → s.tableLaw →
            u.withdrawnFrom t h (BankId.all.filter fun b => s.bank b == BankState.reserved h && s.manifoldOf b == m) ∧
            u.withdrawnInto t (BankId.all.filter fun b => s.bank b == BankState.reserved h && s.manifoldOf b == m) ∧
            s.othersKept t h)) ∧
      (old.condition = .openCircuit ∨ old.condition = .shortCircuit → (old.applyReading kind).condition = .normal →
        s.thenReexamined u t ∧ (s.waitList = [] → t = u) ∧
        ∀ h, s.waitList = [h] → s.hallState h = .waiting → u.attemptedFrom t h ∧ s.othersKept t h)

/-! ## The contact matrix -/

/-- DRIVE_DWELL_END: the eight raw readings of the drive line in progress are written; a position in use on a line that
is not faulted counts the readings that differ from its debounced state and changes it at the third, any other keeps
its debounced state and count; the other drive lines and the return lines keep theirs and the next dwell begins. Where
no debounced state changes nothing else does (R145, R146, R149, R150). In the dark dwell the command changes nothing
(log entry 6). -/
def Obligations.DriveDwellDebouncesLine : Prop :=
  (∀ (sample : BitVec 8) (s : State), s.scan = .dark → exec (.driveDwellEnd sample) s = .next s) ∧
  ∀ (d : Line) (sample : BitVec 8) (s : State), s.scan = .drive d →
    ∃ t, exec (.driveDwellEnd sample) s = .next t ∧
      (∀ r,
        (t.contact d r).raw = sample.getLsbD r.num ∧
        (assigned d r = .unused ∨ (s.returns.get r).faulted = true →
          (t.contact d r).debounced = (s.contact d r).debounced ∧ (t.contact d r).count = (s.contact d r).count) ∧
        (¬ assigned d r = .unused → (s.returns.get r).faulted = false →
          (sample.getLsbD r.num = (s.contact d r).debounced →
            (t.contact d r).debounced = (s.contact d r).debounced ∧ (t.contact d r).count = 0) ∧
          (¬ sample.getLsbD r.num = (s.contact d r).debounced → (s.contact d r).count + 1 < 3 →
            (t.contact d r).debounced = (s.contact d r).debounced ∧
            (t.contact d r).count = (s.contact d r).count + 1) ∧
          (¬ sample.getLsbD r.num = (s.contact d r).debounced → 3 ≤ (s.contact d r).count + 1 →
            (t.contact d r).debounced = sample.getLsbD r.num ∧ (t.contact d r).count = 0))) ∧
      (∀ e r, ¬ e = d → t.contact e r = s.contact e r) ∧ t.returns = s.returns ∧
      t.scan =
        (match d with
          | .l0 => .drive .l1 | .l1 => .drive .l2 | .l2 => .drive .l3 | .l3 => .drive .l4 | .l4 => .drive .l5
          | .l5 => .drive .l6 | .l6 => .drive .l7 | .l7 => .dark) ∧
      t.work = s.work ∧ t.nvPlan = s.nvPlan ∧ t.nvSpent = s.nvSpent ∧ t.overlay = s.overlay ∧ t.links = s.links ∧
      t.hallPorts = s.hallPorts ∧ t.stationPort = s.stationPort ∧
      ((∀ r, (t.contact d r).debounced = (s.contact d r).debounced) →
        t.inventoryPart = s.inventoryPart ∧ t.hallsPart = s.hallsPart ∧ t.driverPart = s.driverPart ∧
        t.linesPart = s.linesPart ∧ t.storePart = s.storePart)

/-- DARK_DWELL_END: a return line that reads closed is faulted with clean count 0; a faulted one that reads open counts
it and clears at the third; a line that becomes faulted has the counts of its positions in use cleared; no debounced
state changes, no consumer hears anything, and the next frame begins (R150, R151). In a drive dwell the command changes
nothing (log entry 6). -/
def Obligations.DarkDwellJudgesReturnLines : Prop :=
  (∀ (d : Line) (sample : BitVec 8) (s : State), s.scan = .drive d → exec (.darkDwellEnd sample) s = .next s) ∧
  ∀ (sample : BitVec 8) (s : State), s.scan = .dark →
    ∃ t, exec (.darkDwellEnd sample) s = .next t ∧
      (∀ r,
        (sample.getLsbD r.num = true → t.returns.get r = ⟨true, 0⟩) ∧
        (sample.getLsbD r.num = false → (s.returns.get r).faulted = false → t.returns.get r = s.returns.get r) ∧
        (sample.getLsbD r.num = false → (s.returns.get r).faulted = true →
          t.returns.get r =
            if 3 ≤ (s.returns.get r).clean + 1 then ⟨false, 0⟩ else ⟨true, (s.returns.get r).clean + 1⟩)) ∧
      (∀ d r, t.contact d r =
        if ¬ assigned d r = .unused ∧ sample.getLsbD r.num = true ∧ (s.returns.get r).faulted = false then
          { s.contact d r with count := 0 }
        else s.contact d r) ∧
      t.scan = .drive .l0 ∧ t.work = s.work ∧ t.storePart = s.storePart ∧ t.inventoryPart = s.inventoryPart ∧
      t.hallsPart = s.hallsPart ∧ t.driverPart = s.driverPart ∧ t.linesPart = s.linesPart ∧ t.portsPart = s.portsPart

/-! ## Contacts and their consumers -/

/-- A manual event by the MANUAL contact. A QUIET hall opens an incident and it, like an ALERT one, is confirmed with cause
LOCAL_MANUAL and the counter's number, its computation recorded, the hall INHIBITED where isolation or LOCKOUT is in
force and else COUNTDOWN, HELD, SELECTING or WAITING by the attempt; in COUNTDOWN or HELD the countdown is cut to the
manual delay at most; in any other state manual seen is set and nothing more (R44, R45, R49, R50, R99). A stay in HELD is
added to hold used, its part tenth as a whole one (R90); where its last tenth has run and the budget override is not yet
taken, the manual event comes first and that tenth is not added (R98; log entry 29). The other halls' records stay. -/
def Obligations.ManualContactConfirmsOrReleases : Prop :=
  ∀ (h : HallId) (sample : BitVec 8) (s : State), s.sees (hallLine h) .l0 true sample →
    ∃ t, exec (.driveDwellEnd sample) s = .next t ∧ (t.inc h).manualSeen = true ∧ s.othersKept t h ∧
      t.work = s.work ∧ t.storePart = s.storePart ∧ t.portsPart = s.portsPart ∧
      (s.hallState h = .quiet ∨ s.hallState h = .alert →
        (t.inc h).isOpen = (if s.hallState h = .quiet then true else (s.inc h).isOpen) ∧
        (t.inc h).number = (if s.hallState h = .quiet then (s.inc h).number + 1 else (s.inc h).number) ∧
        (t.inc h).latched = (if s.hallState h = .quiet then [] else (s.inc h).latched) ∧
        (t.inc h).change = (s.inc h).change + 1 ∧
        (t.inc h).cause = some .localManual ∧ (t.inc h).confNumber = some s.confCounter ∧
        t.confCounter = (if s.confCounter < 4294967295 then s.confCounter + 1 else s.confCounter) ∧
        (t.hall h).wait = some ⟨0, 0, false⟩ ∧ (s.hallState h = .quiet → (t.hall h).clock = ⟨0, 0⟩) ∧
        (t.inc h).required = some (s.computeRequired h) ∧ (t.inc h).tLow = some (s.chooseLow h) ∧
        (t.inc h).tHigh = some (s.chooseHigh h) ∧
        (s.withheld h = true → t.hallState h = .inhibited ∧ t.inventoryPart = s.inventoryPart) ∧
        (s.withheld h = false →
          t.hallState h = .waiting ∨ t.hallState h = .countdown ∨ t.hallState h = .held ∨
          t.hallState h = .selecting)) ∧
      (s.hallState h = .countdown ∨ s.hallState h = .held → ∀ n, (s.inc h).countdown = some n →
        (t.inc h).flags.manualOverride = true ∧ t.confCounter = s.confCounter ∧
        (0 < min n (10 * s.manualReleaseDelay h) →
          t.hallState h = .countdown ∧ (t.inc h).countdown = some (min n (10 * s.manualReleaseDelay h)) ∧
          (t.hall h).stay = ⟨0, false⟩ ∧
          (t.inc h).holdUsed =
            (s.inc h).holdUsed +
              (if s.hallState h = .held ∧ (s.hall h).stay.ms < 100 ∧
                  (0 < (s.hall h).stay.ms ∨ (s.hall h).stay.counted = false) then 1 else 0) ∧
          t.inventoryPart = s.inventoryPart ∧ t.waitList = s.waitList)) ∧
      (¬ s.hallState h = .quiet ∧ ¬ s.hallState h = .alert ∧ ¬ s.hallState h = .countdown ∧ ¬ s.hallState h = .held →
        t.hall h =
          { s.hall h with
            inc :=
              { s.inc h with
                manualSeen := true
                change := (s.inc h).change + if (s.inc h).manualSeen = true then 0 else 1 } } ∧
        t.inventoryPart = s.inventoryPart ∧ t.waitList = s.waitList ∧ t.confCounter = s.confCounter ∧
        t.driverPart = s.driverPart)

/-- The HOLD contact and the hold budget. Closing takes a hall in COUNTDOWN to HELD with its countdown frozen, where no
override is set and budget is left, and is else ignored; opening, without the panel's request, returns a HELD hall to
COUNTDOWN with at least the restart floor and its stay added to hold used; BUDGET_OVERRIDE returns it with the frozen
value and HOLD_OVERRIDDEN set (R93 to R98). In any other state BUDGET_OVERRIDE changes nothing (log entry 6). -/
def Obligations.HoldIsTakenEndedAndOverridden : Prop :=
  (∀ (h : HallId) (sample : BitVec 8) (s : State), s.sees (hallLine h) .l1 true sample →
    ∃ t, exec (.driveDwellEnd sample) s = .next t ∧
      t.halls =
        (if s.hallState h = .countdown ∧ s.holdDemand h = false ∧ (s.inc h).flags.manualOverride = false ∧
            (s.inc h).flags.holdOverridden = false ∧ (s.inc h).holdUsed < 10 * (s.hallPlan h).holdLimit then
          s.halls.set h
            { s.hall h with
              inc := { s.inc h with state := .held, change := (s.inc h).change + 1 }
              stay := ⟨0, false⟩ }
        else s.halls) ∧
      t.waitList = s.waitList ∧ t.confCounter = s.confCounter ∧ t.work = s.work ∧ t.storePart = s.storePart ∧
      t.inventoryPart = s.inventoryPart ∧ t.driverPart = s.driverPart ∧ t.linesPart = s.linesPart ∧
      t.portsPart = s.portsPart) ∧
  (∀ (h : HallId) (n : Nat) (sample : BitVec 8) (s : State), s.sees (hallLine h) .l1 false sample →
    s.hallState h = .held → (s.inc h).countdown = some n → ¬ ((s.link h).state = .running ∧ (s.link h).hold = true) →
    ∃ t, exec (.driveDwellEnd sample) s = .next t ∧
      t.halls =
        s.halls.set h
          { s.hall h with
            inc :=
              { s.inc h with
                state := .countdown
                countdown := some (max n (10 * (s.hallPlan h).restartFloor))
                holdUsed :=
                  (s.inc h).holdUsed +
                    (if 0 < (s.hall h).stay.ms ∨ (s.hall h).stay.counted = false then 1 else 0)
                change := (s.inc h).change + 1 }
            stay := ⟨0, false⟩ } ∧
      t.waitList = s.waitList ∧ t.work = s.work ∧ t.storePart = s.storePart ∧ t.inventoryPart = s.inventoryPart ∧
      t.driverPart = s.driverPart ∧ t.linesPart = s.linesPart ∧ t.portsPart = s.portsPart) ∧
  (∀ (h : HallId) (s : State), ¬ s.hallState h = .held → exec (.budgetOverride h) s = .next s) ∧
  ∀ (h : HallId) (n : Nat) (s : State), s.hallState h = .held → (s.inc h).countdown = some n →
    exec (.budgetOverride h) s = .next
      { s with
        halls :=
          s.halls.set h
            { s.hall h with
              inc :=
                { s.inc h with
                  state := .countdown
                  holdUsed := 10 * (s.hallPlan h).holdLimit
                  flags := { (s.inc h).flags with holdOverridden := true }
                  change := (s.inc h).change + 1 }
              stay := ⟨0, false⟩ } }

/-- The LOCKOUT contact. Closing takes a hall in WAITING, COUNTDOWN or HELD to INHIBITED with its reservations returned,
after which one re-examination is made (R79, R80), sets LATE_LOCKOUT and nothing more once release has begun, and leaves any other state; opening lets an INHIBITED hall
that is not isolated be attempted with its own confirmation number, and leaves any other (R51, R52). -/
def Obligations.LockoutInhibitsAndReleases : Prop :=
  (∀ (h : HallId) (sample : BitVec 8) (s : State), s.sees (hallLine h) .l2 true sample →
    ∃ t, exec (.driveDwellEnd sample) s = .next t ∧ t.lockout h = true ∧ t.work = s.work ∧
      t.storePart = s.storePart ∧ t.portsPart = s.portsPart ∧ t.confCounter = s.confCounter ∧
      (s.hallState h = .waiting ∨ ((s.hallState h = .countdown ∨ s.hallState h = .held) ∧ ¬ h ∈ s.waitList) →
        s.inhibitedFrom t h) ∧
      (s.hallState h = .selecting ∨ s.hallState h = .discharging ∨ s.hallState h = .soak →
        t.halls =
          s.halls.set h
            { s.hall h with
              inc :=
                { s.inc h with
                  flags := { (s.inc h).flags with lateLockout := true }
                  change := (s.inc h).change + if (s.inc h).flags.lateLockout = true then 0 else 1 } } ∧
        t.waitList = s.waitList ∧ t.inventoryPart = s.inventoryPart ∧ t.driverPart = s.driverPart ∧
        t.linesPart = s.linesPart) ∧
      (s.hallState h = .quiet ∨ s.hallState h = .alert ∨ s.hallState h = .inhibited ∨ s.hallState h = .discharged ∨
          s.hallState h = .stalled →
        t.hallsPart = s.hallsPart ∧ t.inventoryPart = s.inventoryPart ∧ t.driverPart = s.driverPart ∧
        t.linesPart = s.linesPart)) ∧
  ∀ (h : HallId) (sample : BitVec 8) (s : State), s.sees (hallLine h) .l2 false sample →
    ∃ t, exec (.driveDwellEnd sample) s = .next t ∧ t.lockout h = false ∧ t.work = s.work ∧
      t.storePart = s.storePart ∧ t.portsPart = s.portsPart ∧
      (s.hallState h = .inhibited → s.isolated h = false →
        s.attemptedFrom t h ∧ t.confCounter = s.confCounter ∧ ∀ g, ¬ g = h → t.hall g = s.hall g) ∧
      (¬ s.hallState h = .inhibited ∨ s.isolated h = true →
        t.hallsPart = s.hallsPart ∧ t.inventoryPart = s.inventoryPart ∧ t.driverPart = s.driverPart ∧
        t.linesPart = s.linesPart)

/-- The proven contact of a selector. Closing proves an energised selector and stops its timer; the last unproven one of
a hall in SELECTING takes it to DISCHARGING, its RESERVED banks FIRING, at the tail of the queue in allocation order; the
slots that are free, none, one or both, take the head of the queue, slot 1 first, each in MARKING with its bank's mark
requested; a closing of any other selector does nothing. Opening after proving sets SELECTOR_LOST in the holding hall's
record and nothing else (R8, R56, R109, R111, R112, R116, R117, R118, R180). -/
def Obligations.ProvenContactProvesSelector : Prop :=
  (∀ (m : ManId) (h : HallId) (sample : BitVec 8) (s : State),
    s.sees (hallLine h) (match m with | .m1 => .l3 | .m2 => .l4) true sample →
    ∃ t, exec (.driveDwellEnd sample) s = .next t ∧ t.work = s.work ∧ s.othersKept t h ∧ t.waitList = s.waitList ∧
      t.portsPart = s.portsPart ∧ t.linesPart = s.linesPart ∧ t.initiators = s.initiators ∧
      (∀ n g, ¬ (n = m ∧ g = h) → t.selector n g = s.selector n g) ∧ (∀ n, ¬ n = m → t.man n = s.man n) ∧
      (¬ s.selector m h = ⟨true, false⟩ →
        t.inventoryPart = s.inventoryPart ∧ t.driverPart = s.driverPart ∧ t.hallsPart = s.hallsPart ∧
        t.storePart = s.storePart) ∧
      (s.selector m h = ⟨true, false⟩ →
        t.selector m h = ⟨true, true⟩ ∧
        t.man m =
          (match (s.man m).timer with
            | .selector _ => { s.man m with timer := .stopped }
            | _ => s.man m) ∧
        (¬ s.hallState h = .selecting ∨
            (∃ n, ¬ n = m ∧ s.holder n = some h ∧ (s.selector n h).proven = false) →
          t.hallsPart = s.hallsPart ∧ t.banks = s.banks ∧ t.queue = s.queue ∧ t.slots = s.slots ∧
          t.storePart = s.storePart) ∧
        (s.hallState h = .selecting →
          (∀ n, ¬ n = m → s.holder n = some h → (s.selector n h).proven = true) →
          t.inc h = { s.inc h with state := .discharging, change := (s.inc h).change + 1 } ∧
          (∀ b, t.bank b =
            if b ∈ (s.inc h).allocBanks ∧ s.bank b = .reserved h then .firing h else s.bank b) ∧
          s.queuedFrom t ((s.inc h).allocBanks.filter fun b => s.bank b == .reserved h) ∧
          t.nvPlan = s.nvPlan ∧ t.nvSpent = s.nvSpent ∧ t.overlay = s.overlay ∧
          ((∀ i, ¬ s.slots.get i = .empty) →
            t.queue = s.queue ++ (s.inc h).allocBanks.filter (fun b => s.bank b == .reserved h) ∧
            t.slots = s.slots ∧ t.storePart = s.storePart) ∧
          ((∀ i, s.slots.get i = .empty) → s.queue = [] →
            (t.slots.get .s1).bank = ((s.inc h).allocBanks.filter fun b => s.bank b == .reserved h)[0]? ∧
            (t.slots.get .s2).bank = ((s.inc h).allocBanks.filter fun b => s.bank b == .reserved h)[1]? ∧
            t.queue = ((s.inc h).allocBanks.filter fun b => s.bank b == .reserved h).drop 2)))) ∧
  ∀ (m : ManId) (h : HallId) (sample : BitVec 8) (s : State),
    s.sees (hallLine h) (match m with | .m1 => .l3 | .m2 => .l4) false sample →
    ∃ t, exec (.driveDwellEnd sample) s = .next t ∧ t.work = s.work ∧ t.storePart = s.storePart ∧
      t.inventoryPart = s.inventoryPart ∧ t.driverPart = s.driverPart ∧ t.linesPart = s.linesPart ∧
      t.waitList = s.waitList ∧ t.confCounter = s.confCounter ∧ t.portsPart = s.portsPart ∧
      ∀ g,
        (s.selector m h = ⟨true, true⟩ → (s.man m).state.releasing = some g →
          t.hall g =
            { s.hall g with
              inc :=
                { s.inc g with
                  flags := { (s.inc g).flags with selectorLost := true }
                  change := (s.inc g).change + if (s.inc g).flags.selectorLost = true then 0 else 1 } }) ∧
        (¬ s.selector m h = ⟨true, true⟩ ∨ ¬ (s.man m).state.releasing = some g → t.hall g = s.hall g)

/-! ## Zone alarms -/

/-- A CYCLE at a QUIET hall. A MANUAL zone in ALARM opens and confirms an incident with cause PANEL_MANUAL. Without one, a
zone of group A or B in ALARM opens an incident: its number advances, the zones in ALARM are latched in declaration order with
their groups at time 0. Under CROSS one of each group confirms, with the fallback an alarm of one group while the other
is unavailable, under DOUBLE two of A or B; a confirmed incident takes the counter's number and its computation. Without
confirmation the hall is in ALERT. Without an alarm of A, B or MANUAL the hall stays QUIET and latches nothing (R43 to
R50). -/
def Obligations.CycleOpensAndConfirms : Prop :=
  ∀ (h : HallId) (seq : Byte) (zones reported : List Zone) (states : List ZoneState) (s : State),
    s.portReady (.hall h) → ((s.link h).state = .running ∨ (s.link h).state = .silent) →
    (s.link h).zones = some zones → states.length = zones.length → zones.length ≤ 16 →
    (zones.map Zone.id).Nodup → s.hallState h = .quiet →
    reported = List.zipWith (fun (z : Zone) x => { z with held := x }) zones states →
    ∃ t, exec (.cycle (.hall h) seq (states.map ZoneState.code ++ [0, 0x80, 0x80])) s = .next t ∧
      ((∀ z, z ∈ reported → z.held = .alarm → z.group = .advisory) → t.hall h = s.hall h ∧
        t.confCounter = s.confCounter) ∧
      ((∃ z, z ∈ reported ∧ z.held = .alarm ∧ z.group = .manual) →
        (t.inc h).isOpen = true ∧ (t.inc h).number = (s.inc h).number + 1 ∧ (t.inc h).manualSeen = true ∧
        (t.inc h).cause = some .panelManual ∧ (t.inc h).confNumber = some s.confCounter) ∧
      ((∃ z, z ∈ reported ∧ z.held = .alarm ∧ (z.group = .a ∨ z.group = .b)) →
        (∀ z, z ∈ reported → z.held = .alarm → ¬ z.group = .manual) →
        (t.inc h).isOpen = true ∧ (t.inc h).number = (s.inc h).number + 1 ∧
        (t.inc h).change = (s.inc h).change + 1 ∧ (t.hall h).clock = ⟨0, 0⟩ ∧
        (t.inc h).latched =
          ((reported.filter fun z => z.held == .alarm).map fun z => { zone := z.id, group := z.group, time := 0 }) ∧
        ∃ cause : Option Cause,
          (cause =
            match (s.hallPlan h).rule with
            | .double =>
              if 2 ≤ (reported.filter fun z => z.held == .alarm && (z.group == .a || z.group == .b)).length then
                some .double
              else none
            | .cross =>
              if (reported.any fun z => z.held == .alarm && z.group == .a) = true ∧
                  (reported.any fun z => z.held == .alarm && z.group == .b) = true then some .cross
              else if (s.hallPlan h).fallback = true ∧
                  (((reported.any fun z => z.held == .alarm && z.group == .a) = true ∧
                      (reported.all fun z => !(z.group == .b) || z.held == .fault) = true) ∨
                    ((reported.any fun z => z.held == .alarm && z.group == .b) = true ∧
                      (reported.all fun z => !(z.group == .a) || z.held == .fault) = true)) then some .fallback
              else none) ∧
          (t.inc h).cause = cause ∧
          (cause = none → t.hallState h = .alert ∧ (t.inc h).confNumber = none ∧ t.confCounter = s.confCounter ∧
            (t.inc h).required = none ∧ (t.hall h).wait = none) ∧
          (¬ cause = none →
            (t.inc h).confNumber = some s.confCounter ∧
            t.confCounter = (if s.confCounter < 4294967295 then s.confCounter + 1 else s.confCounter) ∧
            (t.hall h).wait = some ⟨0, 0, false⟩ ∧ (t.inc h).required = some (t.computeRequired h) ∧
            (s.withheld h = true → t.hallState h = .inhibited) ∧
            (s.withheld h = false →
              t.hallState h = .waiting ∨ t.hallState h = .countdown ∨ t.hallState h = .held ∨
              t.hallState h = .selecting)))

/-! ## The calculator -/

/-- The laws of the calculator. The required quantity is the least whole number not below V 100000 C / (s (1000 - C)),
the estimate the least not below 1000 A s / (V 100000 + A s), capped at 999; the specific volume is k1 + floor(k2 T /
100), T_low and T_high are those of R30's table; with plan records that the store accepts
T_low lies from -10 to T_high, T_high to 50, the specific volume between 900 and 14998 and does not fall as T rises, and
the required quantity between 28 and 1285000 (R28, R30 to R32, R34). -/
def Obligations.CalculatorLaws : Prop :=
  (∀ volume design sv : Nat, 0 < sv → design < 1000 →
    volume * 100000 * design ≤ requiredQuantity volume design sv * (sv * (1000 - design)) ∧
    ∀ w, volume * 100000 * design ≤ w * (sv * (1000 - design)) → requiredQuantity volume design sv ≤ w) ∧
  (∀ volume allocated sv : Nat, 0 < volume →
    estimatedConcentration volume allocated sv ≤ 999 ∧
    (estimatedConcentration volume allocated sv < 999 →
      1000 * (allocated * sv) ≤
        estimatedConcentration volume allocated sv * (volume * 100000 + allocated * sv)) ∧
    ∀ c, 1000 * (allocated * sv) ≤ c * (volume * 100000 + allocated * sv) →
      estimatedConcentration volume allocated sv ≤ c) ∧
  (∀ (k1 k2 : Nat) (t u : Int), t ≤ u → specificVolume k1 k2 t ≤ specificVolume k1 k2 u) ∧
  ∀ (h : HallId) (s : State), s.work.site.valid = true → (s.hallPlan h).valid = true →
    -10 ≤ s.chooseLow h ∧ s.chooseLow h ≤ s.chooseHigh h ∧ s.chooseHigh h ≤ 50 ∧
    (∀ x, (s.link h).state = .running → (s.link h).low = some x →
      s.chooseLow h =
        if min x (s.hallPlan h).designLow < -10 then -10
        else if 50 < min x (s.hallPlan h).designLow then 50 else min x (s.hallPlan h).designLow) ∧
    (¬ (s.link h).state = .running ∨ (s.link h).low = none → s.chooseLow h = (s.hallPlan h).designLow) ∧
    (∀ x, (s.link h).state = .running → (s.link h).high = some x →
      s.chooseHigh h =
        if max x (s.hallPlan h).designHigh < -10 then -10
        else if 50 < max x (s.hallPlan h).designHigh then 50 else max x (s.hallPlan h).designHigh) ∧
    (¬ (s.link h).state = .running ∨ (s.link h).high = none → s.chooseHigh h = (s.hallPlan h).designHigh) ∧
    (∀ t : Int, -10 ≤ t → t ≤ 50 → 900 ≤ s.volumeAt t ∧ s.volumeAt t ≤ 14998 ∧
      100 * ((s.volumeAt t : Int) - s.work.site.k1) ≤ s.work.site.k2 * t ∧
      s.work.site.k2 * t < 100 * ((s.volumeAt t : Int) - s.work.site.k1) + 100) ∧
    s.computeRequired h =
      requiredQuantity (s.hallPlan h).volume (s.hallPlan h).design (s.volumeAt (s.chooseLow h)) ∧
    28 ≤ s.computeRequired h ∧ s.computeRequired h ≤ 1285000

/-! ## What a hall port can reach -/

/-- Whatever arrives on a hall port, frames of any kind or single bytes, leaves the plan, the store, the scanner, the
other links and ports, and the records of every other hall that does not wait; no bank fires and no initiator is
energised by it (R160, R172; the waiting halls may be served by what a manual release gives back, R103). -/
def Obligations.HallPortReachesItsHallOnly : Prop :=
  ∀ (h : HallId) (c : Instr) (s t : State), exec c s = .next t →
    ((∃ k seq payload, c = Kind.row k (.hall h) seq payload) ∨
      (∃ kind seq payload, c = .unknownKind (.hall h) kind seq payload) ∨ (∃ b, c = .byteReceived (.hall h) b) ∨
      c = .frameBadCrc (.hall h) ∨ c = .frameOverlength (.hall h) ∨ c = .frameGap (.hall h) ∨
      c = .responseEnd (.hall h)) →
    t.work = s.work ∧ t.storePart = s.storePart ∧ t.scannerPart = s.scannerPart ∧
    (∀ g, ¬ g = h → t.link g = s.link g) ∧ (∀ p, ¬ p = .hall h → t.port p = s.port p) ∧ s.othersKept t h ∧
    t.queue = s.queue ∧ t.slots = s.slots ∧ t.initiators = s.initiators ∧ t.bankCircuits = s.bankCircuits ∧
    (∀ b g, ¬ s.bank b = .firing g → ¬ t.bank b = .firing g)

/-! ## Laws that every step keeps, from every state -/

/-- The law of the wait list (R75). -/
def Obligations.StepKeepsWaitListLaw : Prop :=
  ∀ s t : State, s.waitListLaw → step s = .next t → t.waitListLaw

/-- The law of the inhibited hall (R51), of the hold budget (R96), of release entry (R55) and of the record's open flag and
countdown (R61, R90): each is kept with the law of the wait list. The part of R51's law about WAITING is the model's
reading (log entry 16). -/
def Obligations.StepKeepsHallLaws : Prop :=
  ∀ s t : State, s.waitListLaw → step s = .next t →
    (s.inhibitedLaw → t.inhibitedLaw) ∧ (s.holdLaw → t.holdLaw) ∧ (s.entryLaw → t.entryLaw) ∧
    (s.recordLaw → t.recordLaw)

/-- The working copy is the non-volatile content with the write in progress applied, and marks wait only behind a write
(R175, R179, R180). -/
def Obligations.StepKeepsStoreLaw : Prop :=
  ∀ s t : State, s.storeLaw → step s = .next t → t.storeLaw

/-- Only a pulsing slot's bank has its initiator energised (R119); a selector is energised only for the hall whose
release its manifold carries, and proven only while energised (R107, R113); circuits are marked driven just while they
are energised (R133). -/
def Obligations.StepKeepsOutputLaws : Prop :=
  ∀ s t : State, step s = .next t →
    (s.initiatorLaw → t.initiatorLaw) ∧ (s.selectorLaw → t.selectorLaw) ∧
    (s.selectorLaw → s.drivenLaw → t.drivenLaw)

/-- A manifold runs only the timer of its state and shows flow only once CHARGED (R107, R122); unused positions of the
matrix stay open with count 0, counts stay below 3, and a faulted line's positions do not count (R144, R149, R150). -/
def Obligations.StepKeepsManifoldAndMatrixLaws : Prop :=
  ∀ s t : State, step s = .next t → (s.manifoldLaw → t.manifoldLaw) ∧ (s.matrixLaw → t.matrixLaw)

/-- The law of the bank table (R6), of the manifold table (R13), of the allocation lists (R61, R87), of the firing queue
(R115) and of the discharge timers (R123), with the law of the wait list (R75); a pulsing bank is SPENT, on a CHARGED
manifold of the hall that lists it (R118); no bank stands twice in an allocation list or a preference list (R61, R68,
R176); and the law of the store (R175): together. -/
def Obligations.StepKeepsTableLaws : Prop :=
  ∀ s t : State, s.tableLaw → (∀ b, s.pulsedLaw b) → s.listLaw → s.storeLaw → step s = .next t →
    t.tableLaw ∧ (∀ b, t.pulsedLaw b) ∧ t.listLaw ∧ t.storeLaw

/-- The laws of the tables with write-before-fire: a pulsing bank is SPENT with its mark recorded, on a CHARGED manifold of
its hall; marks under way are those of the slots in MARKING; SPENT agrees with the store's marks (R9, R118, R180). They are
kept with the law that no allocation list or preference list names a bank twice (R61, R68, R176) and that of the store
(R175). -/
def Obligations.StepKeepsFireLaws : Prop :=
  ∀ s t : State, s.fireLaw → s.listLaw → s.storeLaw → step s = .next t → t.fireLaw ∧ t.listLaw ∧ t.storeLaw

/-- Every law holds after the restart of a store as delivered, and after any RESTART of a state (R25, R65, R88, R129); that of
the lists where the store's preference lists name no bank twice, as every accepted hall record has it (R176). -/
def Obligations.RestartSatisfiesLaws : Prop :=
  (State.reset.waitListLaw ∧ State.reset.inhibitedLaw ∧ State.reset.holdLaw ∧ State.reset.entryLaw ∧
    State.reset.recordLaw ∧ State.reset.storeLaw ∧ State.reset.selectorLaw ∧ State.reset.drivenLaw ∧
    State.reset.manifoldLaw ∧ State.reset.matrixLaw ∧ State.reset.fireLaw ∧ State.reset.listLaw ∧
    ∀ b, State.reset.pulsedLaw b) ∧
  ∀ s t : State, exec .restart s = .next t →
    t.waitListLaw ∧ t.inhibitedLaw ∧ t.holdLaw ∧ t.entryLaw ∧ t.recordLaw ∧ t.storeLaw ∧ t.selectorLaw ∧ t.drivenLaw ∧
    t.manifoldLaw ∧ t.matrixLaw ∧ t.fireLaw ∧ (∀ b, t.pulsedLaw b) ∧
    ((∀ h, (s.nvPlan.halls.get h).preference.Nodup) → t.listLaw)
end

