-- ==== Sys2Proof/Laws/Tables.lean ====
section
/-! SUPPORT. Lemmas of the tables: what `get` reads after `set`, `mapId` and `fill`, and that a table is its entries. -/

namespace Sys2Proof.Machine

/-! ## One entry for each hall -/

@[simp] theorem PerHall.get_set_same {α : Type} (t : PerHall α) (i : HallId) (v : α) : (t.set i v).get i = v := by
  cases i <;> rfl

theorem PerHall.get_set {α : Type} (t : PerHall α) (i j : HallId) (v : α) :
    (t.set i v).get j = if i = j then v else t.get j := by
  cases i <;> cases j <;> rfl

theorem PerHall.get_set_other {α : Type} (t : PerHall α) {i j : HallId} (v : α) (h : ¬ i = j) : (t.set i v).get j = t.get j := by
  rw [PerHall.get_set, if_neg h]

@[simp] theorem PerHall.get_mapId {α β : Type} (f : HallId → α → β) (t : PerHall α) (i : HallId) :
    (t.mapId f).get i = f i (t.get i) := by
  cases i <;> rfl

@[simp] theorem PerHall.get_fill {α : Type} (v : α) (i : HallId) : (PerHall.fill v).get i = v := by
  cases i <;> rfl

@[simp] theorem PerHall.set_get {α : Type} (t : PerHall α) (i : HallId) : t.set i (t.get i) = t := by
  cases i <;> rfl

theorem PerHall.eq_of_get {α : Type} {t u : PerHall α} (h : ∀ i, t.get i = u.get i) : t = u := by
  cases t
  cases u
  simp only [PerHall.mk.injEq]
  exact ⟨h .h1, h .h2, h .h3, h .h4, h .h5, h .h6⟩

theorem PerHall.mapId_id {α : Type} {f : HallId → α → α} {t : PerHall α} (h : ∀ i, f i (t.get i) = t.get i) :
    t.mapId f = t := by
  apply PerHall.eq_of_get
  intro i
  rw [PerHall.get_mapId, h]

/-! ## One entry for each bank -/

@[simp] theorem PerBank.get_set_same {α : Type} (t : PerBank α) (i : BankId) (v : α) : (t.set i v).get i = v := by
  cases i <;> rfl

theorem PerBank.get_set {α : Type} (t : PerBank α) (i j : BankId) (v : α) :
    (t.set i v).get j = if i = j then v else t.get j := by
  cases i <;> cases j <;> rfl

theorem PerBank.get_set_other {α : Type} (t : PerBank α) {i j : BankId} (v : α) (h : ¬ i = j) : (t.set i v).get j = t.get j := by
  rw [PerBank.get_set, if_neg h]

@[simp] theorem PerBank.get_mapId {α β : Type} (f : BankId → α → β) (t : PerBank α) (i : BankId) :
    (t.mapId f).get i = f i (t.get i) := by
  cases i <;> rfl

@[simp] theorem PerBank.get_fill {α : Type} (v : α) (i : BankId) : (PerBank.fill v).get i = v := by
  cases i <;> rfl

@[simp] theorem PerBank.set_get {α : Type} (t : PerBank α) (i : BankId) : t.set i (t.get i) = t := by
  cases i <;> rfl

theorem PerBank.eq_of_get {α : Type} {t u : PerBank α} (h : ∀ i, t.get i = u.get i) : t = u := by
  cases t
  cases u
  simp only [PerBank.mk.injEq]
  exact ⟨h .b1, h .b2, h .b3, h .b4, h .b5, h .b6, h .b7, h .b8⟩

theorem PerBank.mapId_id {α : Type} {f : BankId → α → α} {t : PerBank α} (h : ∀ i, f i (t.get i) = t.get i) :
    t.mapId f = t := by
  apply PerBank.eq_of_get
  intro i
  rw [PerBank.get_mapId, h]

/-! ## One entry for each manifold -/

@[simp] theorem PerMan.get_set_same {α : Type} (t : PerMan α) (i : ManId) (v : α) : (t.set i v).get i = v := by
  cases i <;> rfl

theorem PerMan.get_set {α : Type} (t : PerMan α) (i j : ManId) (v : α) :
    (t.set i v).get j = if i = j then v else t.get j := by
  cases i <;> cases j <;> rfl

theorem PerMan.get_set_other {α : Type} (t : PerMan α) {i j : ManId} (v : α) (h : ¬ i = j) : (t.set i v).get j = t.get j := by
  rw [PerMan.get_set, if_neg h]

@[simp] theorem PerMan.get_mapId {α β : Type} (f : ManId → α → β) (t : PerMan α) (i : ManId) :
    (t.mapId f).get i = f i (t.get i) := by
  cases i <;> rfl

@[simp] theorem PerMan.get_fill {α : Type} (v : α) (i : ManId) : (PerMan.fill v).get i = v := by
  cases i <;> rfl

@[simp] theorem PerMan.set_get {α : Type} (t : PerMan α) (i : ManId) : t.set i (t.get i) = t := by
  cases i <;> rfl

theorem PerMan.eq_of_get {α : Type} {t u : PerMan α} (h : ∀ i, t.get i = u.get i) : t = u := by
  cases t
  cases u
  simp only [PerMan.mk.injEq]
  exact ⟨h .m1, h .m2⟩

theorem PerMan.mapId_id {α : Type} {f : ManId → α → α} {t : PerMan α} (h : ∀ i, f i (t.get i) = t.get i) :
    t.mapId f = t := by
  apply PerMan.eq_of_get
  intro i
  rw [PerMan.get_mapId, h]

/-! ## One entry for each slot -/

@[simp] theorem PerSlot.get_set_same {α : Type} (t : PerSlot α) (i : SlotId) (v : α) : (t.set i v).get i = v := by
  cases i <;> rfl

theorem PerSlot.get_set {α : Type} (t : PerSlot α) (i j : SlotId) (v : α) :
    (t.set i v).get j = if i = j then v else t.get j := by
  cases i <;> cases j <;> rfl

theorem PerSlot.get_set_other {α : Type} (t : PerSlot α) {i j : SlotId} (v : α) (h : ¬ i = j) : (t.set i v).get j = t.get j := by
  rw [PerSlot.get_set, if_neg h]

@[simp] theorem PerSlot.get_mapId {α β : Type} (f : SlotId → α → β) (t : PerSlot α) (i : SlotId) :
    (t.mapId f).get i = f i (t.get i) := by
  cases i <;> rfl

@[simp] theorem PerSlot.get_fill {α : Type} (v : α) (i : SlotId) : (PerSlot.fill v).get i = v := by
  cases i <;> rfl

@[simp] theorem PerSlot.set_get {α : Type} (t : PerSlot α) (i : SlotId) : t.set i (t.get i) = t := by
  cases i <;> rfl

theorem PerSlot.eq_of_get {α : Type} {t u : PerSlot α} (h : ∀ i, t.get i = u.get i) : t = u := by
  cases t
  cases u
  simp only [PerSlot.mk.injEq]
  exact ⟨h .s1, h .s2⟩

theorem PerSlot.mapId_id {α : Type} {f : SlotId → α → α} {t : PerSlot α} (h : ∀ i, f i (t.get i) = t.get i) :
    t.mapId f = t := by
  apply PerSlot.eq_of_get
  intro i
  rw [PerSlot.get_mapId, h]

/-! ## One entry for each line -/

@[simp] theorem PerLine.get_set_same {α : Type} (t : PerLine α) (i : Line) (v : α) : (t.set i v).get i = v := by
  cases i <;> rfl

theorem PerLine.get_set {α : Type} (t : PerLine α) (i j : Line) (v : α) :
    (t.set i v).get j = if i = j then v else t.get j := by
  cases i <;> cases j <;> rfl

theorem PerLine.get_set_other {α : Type} (t : PerLine α) {i j : Line} (v : α) (h : ¬ i = j) : (t.set i v).get j = t.get j := by
  rw [PerLine.get_set, if_neg h]

@[simp] theorem PerLine.get_mapId {α β : Type} (f : Line → α → β) (t : PerLine α) (i : Line) :
    (t.mapId f).get i = f i (t.get i) := by
  cases i <;> rfl

@[simp] theorem PerLine.get_fill {α : Type} (v : α) (i : Line) : (PerLine.fill v).get i = v := by
  cases i <;> rfl

@[simp] theorem PerLine.set_get {α : Type} (t : PerLine α) (i : Line) : t.set i (t.get i) = t := by
  cases i <;> rfl

theorem PerLine.eq_of_get {α : Type} {t u : PerLine α} (h : ∀ i, t.get i = u.get i) : t = u := by
  cases t
  cases u
  simp only [PerLine.mk.injEq]
  exact ⟨h .l0, h .l1, h .l2, h .l3, h .l4, h .l5, h .l6, h .l7⟩

theorem PerLine.mapId_id {α : Type} {f : Line → α → α} {t : PerLine α} (h : ∀ i, f i (t.get i) = t.get i) :
    t.mapId f = t := by
  apply PerLine.eq_of_get
  intro i
  rw [PerLine.get_mapId, h]

/-! ## The lists of all names -/

theorem hallId_mem_all (h : HallId) : h ∈ HallId.all := by cases h <;> decide

theorem bankId_mem_all (b : BankId) : b ∈ BankId.all := by cases b <;> decide

theorem manId_mem_all (m : ManId) : m ∈ ManId.all := by cases m <;> decide

theorem line_mem_all (l : Line) : l ∈ Line.all := by cases l <;> decide

theorem port_mem_all (p : Port) : p ∈ Port.all := by
  cases p with
  | hall h => cases h <;> decide
  | station => decide

end Sys2Proof.Machine
end

