-- ==== Sys2Proof/Laws/State.lean ====
section
/-! SUPPORT. The updates of the state: for each, what every field of the state is after it. -/

namespace Sys2Proof.Machine

/-! ## `modHall` -/

@[simp] theorem State.pending_modHall (s : State) (h : HallId) (f : Hall → Hall) :
    (s.modHall h f).pending = s.pending := rfl

@[simp] theorem State.work_modHall (s : State) (h : HallId) (f : Hall → Hall) : (s.modHall h f).work = s.work := rfl

@[simp] theorem State.nvPlan_modHall (s : State) (h : HallId) (f : Hall → Hall) :
    (s.modHall h f).nvPlan = s.nvPlan := rfl

@[simp] theorem State.nvSpent_modHall (s : State) (h : HallId) (f : Hall → Hall) :
    (s.modHall h f).nvSpent = s.nvSpent := rfl

@[simp] theorem State.overlay_modHall (s : State) (h : HallId) (f : Hall → Hall) :
    (s.modHall h f).overlay = s.overlay := rfl

@[simp] theorem State.write_modHall (s : State) (h : HallId) (f : Hall → Hall) : (s.modHall h f).write = s.write := rfl

@[simp] theorem State.markQueue_modHall (s : State) (h : HallId) (f : Hall → Hall) :
    (s.modHall h f).markQueue = s.markQueue := rfl

@[simp] theorem State.banks_modHall (s : State) (h : HallId) (f : Hall → Hall) : (s.modHall h f).banks = s.banks := rfl

@[simp] theorem State.initiators_modHall (s : State) (h : HallId) (f : Hall → Hall) :
    (s.modHall h f).initiators = s.initiators := rfl

@[simp] theorem State.mans_modHall (s : State) (h : HallId) (f : Hall → Hall) : (s.modHall h f).mans = s.mans := rfl

@[simp] theorem State.selectors_modHall (s : State) (h : HallId) (f : Hall → Hall) :
    (s.modHall h f).selectors = s.selectors := rfl

@[simp] theorem State.confCounter_modHall (s : State) (h : HallId) (f : Hall → Hall) :
    (s.modHall h f).confCounter = s.confCounter := rfl

@[simp] theorem State.waitList_modHall (s : State) (h : HallId) (f : Hall → Hall) :
    (s.modHall h f).waitList = s.waitList := rfl

@[simp] theorem State.queue_modHall (s : State) (h : HallId) (f : Hall → Hall) : (s.modHall h f).queue = s.queue := rfl

@[simp] theorem State.slots_modHall (s : State) (h : HallId) (f : Hall → Hall) : (s.modHall h f).slots = s.slots := rfl

@[simp] theorem State.bankCircuits_modHall (s : State) (h : HallId) (f : Hall → Hall) :
    (s.modHall h f).bankCircuits = s.bankCircuits := rfl

@[simp] theorem State.selCircuits_modHall (s : State) (h : HallId) (f : Hall → Hall) :
    (s.modHall h f).selCircuits = s.selCircuits := rfl

@[simp] theorem State.position_modHall (s : State) (h : HallId) (f : Hall → Hall) :
    (s.modHall h f).position = s.position := rfl

@[simp] theorem State.measuring_modHall (s : State) (h : HallId) (f : Hall → Hall) :
    (s.modHall h f).measuring = s.measuring := rfl

@[simp] theorem State.contacts_modHall (s : State) (h : HallId) (f : Hall → Hall) :
    (s.modHall h f).contacts = s.contacts := rfl

@[simp] theorem State.returns_modHall (s : State) (h : HallId) (f : Hall → Hall) :
    (s.modHall h f).returns = s.returns := rfl

@[simp] theorem State.scan_modHall (s : State) (h : HallId) (f : Hall → Hall) : (s.modHall h f).scan = s.scan := rfl

@[simp] theorem State.links_modHall (s : State) (h : HallId) (f : Hall → Hall) : (s.modHall h f).links = s.links := rfl

@[simp] theorem State.hallPorts_modHall (s : State) (h : HallId) (f : Hall → Hall) :
    (s.modHall h f).hallPorts = s.hallPorts := rfl

@[simp] theorem State.stationPort_modHall (s : State) (h : HallId) (f : Hall → Hall) :
    (s.modHall h f).stationPort = s.stationPort := rfl

@[simp] theorem State.freeCount_modHall (s : State) (h : HallId) (f : Hall → Hall) :
    (s.modHall h f).freeCount = s.freeCount := rfl

theorem State.hall_modHall (s : State) (h g : HallId) (f : Hall → Hall) :
    (s.modHall h f).hall g = if h = g then f (s.hall h) else s.hall g := by
  unfold State.hall State.modHall
  exact PerHall.get_set _ _ _ _

@[simp] theorem State.hall_modHall_same (s : State) (h : HallId) (f : Hall → Hall) :
    (s.modHall h f).hall h = f (s.hall h) := by
  rw [State.hall_modHall, if_pos rfl]

theorem State.hall_modHall_other (s : State) {h g : HallId} (f : Hall → Hall) (n : ¬ h = g) :
    (s.modHall h f).hall g = s.hall g := by
  rw [State.hall_modHall, if_neg n]

theorem State.inc_modHall (s : State) (h g : HallId) (f : Hall → Hall) :
    (s.modHall h f).inc g = if h = g then (f (s.hall h)).inc else s.inc g := by
  show ((s.modHall h f).hall g).inc = _
  rw [State.hall_modHall]
  split <;> rfl

@[simp] theorem State.inc_modHall_same (s : State) (h : HallId) (f : Hall → Hall) :
    (s.modHall h f).inc h = (f (s.hall h)).inc := by
  rw [State.inc_modHall, if_pos rfl]

/-! ## `modInc` -/

@[simp] theorem State.pending_modInc (s : State) (h : HallId) (f : Incident → Incident) :
    (s.modInc h f).pending = s.pending := rfl

@[simp] theorem State.work_modInc (s : State) (h : HallId) (f : Incident → Incident) :
    (s.modInc h f).work = s.work := rfl

@[simp] theorem State.nvPlan_modInc (s : State) (h : HallId) (f : Incident → Incident) :
    (s.modInc h f).nvPlan = s.nvPlan := rfl

@[simp] theorem State.nvSpent_modInc (s : State) (h : HallId) (f : Incident → Incident) :
    (s.modInc h f).nvSpent = s.nvSpent := rfl

@[simp] theorem State.overlay_modInc (s : State) (h : HallId) (f : Incident → Incident) :
    (s.modInc h f).overlay = s.overlay := rfl

@[simp] theorem State.write_modInc (s : State) (h : HallId) (f : Incident → Incident) :
    (s.modInc h f).write = s.write := rfl

@[simp] theorem State.markQueue_modInc (s : State) (h : HallId) (f : Incident → Incident) :
    (s.modInc h f).markQueue = s.markQueue := rfl

@[simp] theorem State.banks_modInc (s : State) (h : HallId) (f : Incident → Incident) :
    (s.modInc h f).banks = s.banks := rfl

@[simp] theorem State.initiators_modInc (s : State) (h : HallId) (f : Incident → Incident) :
    (s.modInc h f).initiators = s.initiators := rfl

@[simp] theorem State.mans_modInc (s : State) (h : HallId) (f : Incident → Incident) :
    (s.modInc h f).mans = s.mans := rfl

@[simp] theorem State.selectors_modInc (s : State) (h : HallId) (f : Incident → Incident) :
    (s.modInc h f).selectors = s.selectors := rfl

@[simp] theorem State.confCounter_modInc (s : State) (h : HallId) (f : Incident → Incident) :
    (s.modInc h f).confCounter = s.confCounter := rfl

@[simp] theorem State.waitList_modInc (s : State) (h : HallId) (f : Incident → Incident) :
    (s.modInc h f).waitList = s.waitList := rfl

@[simp] theorem State.queue_modInc (s : State) (h : HallId) (f : Incident → Incident) :
    (s.modInc h f).queue = s.queue := rfl

@[simp] theorem State.slots_modInc (s : State) (h : HallId) (f : Incident → Incident) :
    (s.modInc h f).slots = s.slots := rfl

@[simp] theorem State.bankCircuits_modInc (s : State) (h : HallId) (f : Incident → Incident) :
    (s.modInc h f).bankCircuits = s.bankCircuits := rfl

@[simp] theorem State.selCircuits_modInc (s : State) (h : HallId) (f : Incident → Incident) :
    (s.modInc h f).selCircuits = s.selCircuits := rfl

@[simp] theorem State.position_modInc (s : State) (h : HallId) (f : Incident → Incident) :
    (s.modInc h f).position = s.position := rfl

@[simp] theorem State.measuring_modInc (s : State) (h : HallId) (f : Incident → Incident) :
    (s.modInc h f).measuring = s.measuring := rfl

@[simp] theorem State.contacts_modInc (s : State) (h : HallId) (f : Incident → Incident) :
    (s.modInc h f).contacts = s.contacts := rfl

@[simp] theorem State.returns_modInc (s : State) (h : HallId) (f : Incident → Incident) :
    (s.modInc h f).returns = s.returns := rfl

@[simp] theorem State.scan_modInc (s : State) (h : HallId) (f : Incident → Incident) :
    (s.modInc h f).scan = s.scan := rfl

@[simp] theorem State.links_modInc (s : State) (h : HallId) (f : Incident → Incident) :
    (s.modInc h f).links = s.links := rfl

@[simp] theorem State.hallPorts_modInc (s : State) (h : HallId) (f : Incident → Incident) :
    (s.modInc h f).hallPorts = s.hallPorts := rfl

@[simp] theorem State.stationPort_modInc (s : State) (h : HallId) (f : Incident → Incident) :
    (s.modInc h f).stationPort = s.stationPort := rfl

@[simp] theorem State.freeCount_modInc (s : State) (h : HallId) (f : Incident → Incident) :
    (s.modInc h f).freeCount = s.freeCount := rfl

theorem State.inc_modInc (s : State) (h g : HallId) (f : Incident → Incident) :
    (s.modInc h f).inc g = if h = g then f (s.inc h) else s.inc g := by
  unfold State.modInc
  rw [State.inc_modHall]
  rfl

@[simp] theorem State.inc_modInc_same (s : State) (h : HallId) (f : Incident → Incident) :
    (s.modInc h f).inc h = f (s.inc h) := by
  rw [State.inc_modInc, if_pos rfl]

theorem State.inc_modInc_other (s : State) {h g : HallId} (f : Incident → Incident) (n : ¬ h = g) :
    (s.modInc h f).inc g = s.inc g := by
  rw [State.inc_modInc, if_neg n]

/-! ## `modFlags` -/

@[simp] theorem State.pending_modFlags (s : State) (h : HallId) (f : Flags → Flags) :
    (s.modFlags h f).pending = s.pending := rfl

@[simp] theorem State.work_modFlags (s : State) (h : HallId) (f : Flags → Flags) : (s.modFlags h f).work = s.work := rfl

@[simp] theorem State.nvPlan_modFlags (s : State) (h : HallId) (f : Flags → Flags) :
    (s.modFlags h f).nvPlan = s.nvPlan := rfl

@[simp] theorem State.nvSpent_modFlags (s : State) (h : HallId) (f : Flags → Flags) :
    (s.modFlags h f).nvSpent = s.nvSpent := rfl

@[simp] theorem State.overlay_modFlags (s : State) (h : HallId) (f : Flags → Flags) :
    (s.modFlags h f).overlay = s.overlay := rfl

@[simp] theorem State.write_modFlags (s : State) (h : HallId) (f : Flags → Flags) :
    (s.modFlags h f).write = s.write := rfl

@[simp] theorem State.markQueue_modFlags (s : State) (h : HallId) (f : Flags → Flags) :
    (s.modFlags h f).markQueue = s.markQueue := rfl

@[simp] theorem State.banks_modFlags (s : State) (h : HallId) (f : Flags → Flags) :
    (s.modFlags h f).banks = s.banks := rfl

@[simp] theorem State.initiators_modFlags (s : State) (h : HallId) (f : Flags → Flags) :
    (s.modFlags h f).initiators = s.initiators := rfl

@[simp] theorem State.mans_modFlags (s : State) (h : HallId) (f : Flags → Flags) : (s.modFlags h f).mans = s.mans := rfl

@[simp] theorem State.selectors_modFlags (s : State) (h : HallId) (f : Flags → Flags) :
    (s.modFlags h f).selectors = s.selectors := rfl

@[simp] theorem State.confCounter_modFlags (s : State) (h : HallId) (f : Flags → Flags) :
    (s.modFlags h f).confCounter = s.confCounter := rfl

@[simp] theorem State.waitList_modFlags (s : State) (h : HallId) (f : Flags → Flags) :
    (s.modFlags h f).waitList = s.waitList := rfl

@[simp] theorem State.queue_modFlags (s : State) (h : HallId) (f : Flags → Flags) :
    (s.modFlags h f).queue = s.queue := rfl

@[simp] theorem State.slots_modFlags (s : State) (h : HallId) (f : Flags → Flags) :
    (s.modFlags h f).slots = s.slots := rfl

@[simp] theorem State.bankCircuits_modFlags (s : State) (h : HallId) (f : Flags → Flags) :
    (s.modFlags h f).bankCircuits = s.bankCircuits := rfl

@[simp] theorem State.selCircuits_modFlags (s : State) (h : HallId) (f : Flags → Flags) :
    (s.modFlags h f).selCircuits = s.selCircuits := rfl

@[simp] theorem State.position_modFlags (s : State) (h : HallId) (f : Flags → Flags) :
    (s.modFlags h f).position = s.position := rfl

@[simp] theorem State.measuring_modFlags (s : State) (h : HallId) (f : Flags → Flags) :
    (s.modFlags h f).measuring = s.measuring := rfl

@[simp] theorem State.contacts_modFlags (s : State) (h : HallId) (f : Flags → Flags) :
    (s.modFlags h f).contacts = s.contacts := rfl

@[simp] theorem State.returns_modFlags (s : State) (h : HallId) (f : Flags → Flags) :
    (s.modFlags h f).returns = s.returns := rfl

@[simp] theorem State.scan_modFlags (s : State) (h : HallId) (f : Flags → Flags) : (s.modFlags h f).scan = s.scan := rfl

@[simp] theorem State.links_modFlags (s : State) (h : HallId) (f : Flags → Flags) :
    (s.modFlags h f).links = s.links := rfl

@[simp] theorem State.hallPorts_modFlags (s : State) (h : HallId) (f : Flags → Flags) :
    (s.modFlags h f).hallPorts = s.hallPorts := rfl

@[simp] theorem State.stationPort_modFlags (s : State) (h : HallId) (f : Flags → Flags) :
    (s.modFlags h f).stationPort = s.stationPort := rfl

@[simp] theorem State.freeCount_modFlags (s : State) (h : HallId) (f : Flags → Flags) :
    (s.modFlags h f).freeCount = s.freeCount := rfl

theorem State.inc_modFlags (s : State) (h g : HallId) (f : Flags → Flags) :
    (s.modFlags h f).inc g = if h = g then { s.inc h with flags := f (s.inc h).flags } else s.inc g := by
  unfold State.modFlags
  exact State.inc_modInc _ _ _ _

/-! ## `setBank` -/

@[simp] theorem State.pending_setBank (s : State) (b : BankId) (x : BankState) :
    (s.setBank b x).pending = s.pending := rfl

@[simp] theorem State.work_setBank (s : State) (b : BankId) (x : BankState) : (s.setBank b x).work = s.work := rfl

@[simp] theorem State.nvPlan_setBank (s : State) (b : BankId) (x : BankState) : (s.setBank b x).nvPlan = s.nvPlan := rfl

@[simp] theorem State.nvSpent_setBank (s : State) (b : BankId) (x : BankState) :
    (s.setBank b x).nvSpent = s.nvSpent := rfl

@[simp] theorem State.overlay_setBank (s : State) (b : BankId) (x : BankState) :
    (s.setBank b x).overlay = s.overlay := rfl

@[simp] theorem State.write_setBank (s : State) (b : BankId) (x : BankState) : (s.setBank b x).write = s.write := rfl

@[simp] theorem State.markQueue_setBank (s : State) (b : BankId) (x : BankState) :
    (s.setBank b x).markQueue = s.markQueue := rfl

@[simp] theorem State.initiators_setBank (s : State) (b : BankId) (x : BankState) :
    (s.setBank b x).initiators = s.initiators := rfl

@[simp] theorem State.mans_setBank (s : State) (b : BankId) (x : BankState) : (s.setBank b x).mans = s.mans := rfl

@[simp] theorem State.selectors_setBank (s : State) (b : BankId) (x : BankState) :
    (s.setBank b x).selectors = s.selectors := rfl

@[simp] theorem State.halls_setBank (s : State) (b : BankId) (x : BankState) : (s.setBank b x).halls = s.halls := rfl

@[simp] theorem State.confCounter_setBank (s : State) (b : BankId) (x : BankState) :
    (s.setBank b x).confCounter = s.confCounter := rfl

@[simp] theorem State.waitList_setBank (s : State) (b : BankId) (x : BankState) :
    (s.setBank b x).waitList = s.waitList := rfl

@[simp] theorem State.queue_setBank (s : State) (b : BankId) (x : BankState) : (s.setBank b x).queue = s.queue := rfl

@[simp] theorem State.slots_setBank (s : State) (b : BankId) (x : BankState) : (s.setBank b x).slots = s.slots := rfl

@[simp] theorem State.bankCircuits_setBank (s : State) (b : BankId) (x : BankState) :
    (s.setBank b x).bankCircuits = s.bankCircuits := rfl

@[simp] theorem State.selCircuits_setBank (s : State) (b : BankId) (x : BankState) :
    (s.setBank b x).selCircuits = s.selCircuits := rfl

@[simp] theorem State.position_setBank (s : State) (b : BankId) (x : BankState) :
    (s.setBank b x).position = s.position := rfl

@[simp] theorem State.measuring_setBank (s : State) (b : BankId) (x : BankState) :
    (s.setBank b x).measuring = s.measuring := rfl

@[simp] theorem State.contacts_setBank (s : State) (b : BankId) (x : BankState) :
    (s.setBank b x).contacts = s.contacts := rfl

@[simp] theorem State.returns_setBank (s : State) (b : BankId) (x : BankState) :
    (s.setBank b x).returns = s.returns := rfl

@[simp] theorem State.scan_setBank (s : State) (b : BankId) (x : BankState) : (s.setBank b x).scan = s.scan := rfl

@[simp] theorem State.links_setBank (s : State) (b : BankId) (x : BankState) : (s.setBank b x).links = s.links := rfl

@[simp] theorem State.hallPorts_setBank (s : State) (b : BankId) (x : BankState) :
    (s.setBank b x).hallPorts = s.hallPorts := rfl

@[simp] theorem State.stationPort_setBank (s : State) (b : BankId) (x : BankState) :
    (s.setBank b x).stationPort = s.stationPort := rfl

@[simp] theorem State.freeCount_setBank (s : State) (b : BankId) (x : BankState) :
    (s.setBank b x).freeCount = s.freeCount := rfl

theorem State.bank_setBank (s : State) (b c : BankId) (x : BankState) :
    (s.setBank b x).bank c = if b = c then x else s.bank c := by
  unfold State.bank State.setBank
  exact PerBank.get_set _ _ _ _

/-! ## `modMan` -/

@[simp] theorem State.pending_modMan (s : State) (m : ManId) (f : Manifold → Manifold) :
    (s.modMan m f).pending = s.pending := rfl

@[simp] theorem State.work_modMan (s : State) (m : ManId) (f : Manifold → Manifold) :
    (s.modMan m f).work = s.work := rfl

@[simp] theorem State.nvPlan_modMan (s : State) (m : ManId) (f : Manifold → Manifold) :
    (s.modMan m f).nvPlan = s.nvPlan := rfl

@[simp] theorem State.nvSpent_modMan (s : State) (m : ManId) (f : Manifold → Manifold) :
    (s.modMan m f).nvSpent = s.nvSpent := rfl

@[simp] theorem State.overlay_modMan (s : State) (m : ManId) (f : Manifold → Manifold) :
    (s.modMan m f).overlay = s.overlay := rfl

@[simp] theorem State.write_modMan (s : State) (m : ManId) (f : Manifold → Manifold) :
    (s.modMan m f).write = s.write := rfl

@[simp] theorem State.markQueue_modMan (s : State) (m : ManId) (f : Manifold → Manifold) :
    (s.modMan m f).markQueue = s.markQueue := rfl

@[simp] theorem State.banks_modMan (s : State) (m : ManId) (f : Manifold → Manifold) :
    (s.modMan m f).banks = s.banks := rfl

@[simp] theorem State.initiators_modMan (s : State) (m : ManId) (f : Manifold → Manifold) :
    (s.modMan m f).initiators = s.initiators := rfl

@[simp] theorem State.selectors_modMan (s : State) (m : ManId) (f : Manifold → Manifold) :
    (s.modMan m f).selectors = s.selectors := rfl

@[simp] theorem State.halls_modMan (s : State) (m : ManId) (f : Manifold → Manifold) :
    (s.modMan m f).halls = s.halls := rfl

@[simp] theorem State.confCounter_modMan (s : State) (m : ManId) (f : Manifold → Manifold) :
    (s.modMan m f).confCounter = s.confCounter := rfl

@[simp] theorem State.waitList_modMan (s : State) (m : ManId) (f : Manifold → Manifold) :
    (s.modMan m f).waitList = s.waitList := rfl

@[simp] theorem State.queue_modMan (s : State) (m : ManId) (f : Manifold → Manifold) :
    (s.modMan m f).queue = s.queue := rfl

@[simp] theorem State.slots_modMan (s : State) (m : ManId) (f : Manifold → Manifold) :
    (s.modMan m f).slots = s.slots := rfl

@[simp] theorem State.bankCircuits_modMan (s : State) (m : ManId) (f : Manifold → Manifold) :
    (s.modMan m f).bankCircuits = s.bankCircuits := rfl

@[simp] theorem State.selCircuits_modMan (s : State) (m : ManId) (f : Manifold → Manifold) :
    (s.modMan m f).selCircuits = s.selCircuits := rfl

@[simp] theorem State.position_modMan (s : State) (m : ManId) (f : Manifold → Manifold) :
    (s.modMan m f).position = s.position := rfl

@[simp] theorem State.measuring_modMan (s : State) (m : ManId) (f : Manifold → Manifold) :
    (s.modMan m f).measuring = s.measuring := rfl

@[simp] theorem State.contacts_modMan (s : State) (m : ManId) (f : Manifold → Manifold) :
    (s.modMan m f).contacts = s.contacts := rfl

@[simp] theorem State.returns_modMan (s : State) (m : ManId) (f : Manifold → Manifold) :
    (s.modMan m f).returns = s.returns := rfl

@[simp] theorem State.scan_modMan (s : State) (m : ManId) (f : Manifold → Manifold) :
    (s.modMan m f).scan = s.scan := rfl

@[simp] theorem State.links_modMan (s : State) (m : ManId) (f : Manifold → Manifold) :
    (s.modMan m f).links = s.links := rfl

@[simp] theorem State.hallPorts_modMan (s : State) (m : ManId) (f : Manifold → Manifold) :
    (s.modMan m f).hallPorts = s.hallPorts := rfl

@[simp] theorem State.stationPort_modMan (s : State) (m : ManId) (f : Manifold → Manifold) :
    (s.modMan m f).stationPort = s.stationPort := rfl

@[simp] theorem State.freeCount_modMan (s : State) (m : ManId) (f : Manifold → Manifold) :
    (s.modMan m f).freeCount = s.freeCount := rfl

theorem State.man_modMan (s : State) (m n : ManId) (f : Manifold → Manifold) :
    (s.modMan m f).man n = if m = n then f (s.man m) else s.man n := by
  unfold State.man State.modMan
  exact PerMan.get_set _ _ _ _

/-! ## `modSelector` -/

@[simp] theorem State.pending_modSelector (s : State) (m : ManId) (h : HallId) (f : Selector → Selector) :
    (s.modSelector m h f).pending = s.pending := rfl

@[simp] theorem State.work_modSelector (s : State) (m : ManId) (h : HallId) (f : Selector → Selector) :
    (s.modSelector m h f).work = s.work := rfl

@[simp] theorem State.nvPlan_modSelector (s : State) (m : ManId) (h : HallId) (f : Selector → Selector) :
    (s.modSelector m h f).nvPlan = s.nvPlan := rfl

@[simp] theorem State.nvSpent_modSelector (s : State) (m : ManId) (h : HallId) (f : Selector → Selector) :
    (s.modSelector m h f).nvSpent = s.nvSpent := rfl

@[simp] theorem State.overlay_modSelector (s : State) (m : ManId) (h : HallId) (f : Selector → Selector) :
    (s.modSelector m h f).overlay = s.overlay := rfl

@[simp] theorem State.write_modSelector (s : State) (m : ManId) (h : HallId) (f : Selector → Selector) :
    (s.modSelector m h f).write = s.write := rfl

@[simp] theorem State.markQueue_modSelector (s : State) (m : ManId) (h : HallId) (f : Selector → Selector) :
    (s.modSelector m h f).markQueue = s.markQueue := rfl

@[simp] theorem State.banks_modSelector (s : State) (m : ManId) (h : HallId) (f : Selector → Selector) :
    (s.modSelector m h f).banks = s.banks := rfl

@[simp] theorem State.initiators_modSelector (s : State) (m : ManId) (h : HallId) (f : Selector → Selector) :
    (s.modSelector m h f).initiators = s.initiators := rfl

@[simp] theorem State.mans_modSelector (s : State) (m : ManId) (h : HallId) (f : Selector → Selector) :
    (s.modSelector m h f).mans = s.mans := rfl

@[simp] theorem State.halls_modSelector (s : State) (m : ManId) (h : HallId) (f : Selector → Selector) :
    (s.modSelector m h f).halls = s.halls := rfl

@[simp] theorem State.confCounter_modSelector (s : State) (m : ManId) (h : HallId) (f : Selector → Selector) :
    (s.modSelector m h f).confCounter = s.confCounter := rfl

@[simp] theorem State.waitList_modSelector (s : State) (m : ManId) (h : HallId) (f : Selector → Selector) :
    (s.modSelector m h f).waitList = s.waitList := rfl

@[simp] theorem State.queue_modSelector (s : State) (m : ManId) (h : HallId) (f : Selector → Selector) :
    (s.modSelector m h f).queue = s.queue := rfl

@[simp] theorem State.slots_modSelector (s : State) (m : ManId) (h : HallId) (f : Selector → Selector) :
    (s.modSelector m h f).slots = s.slots := rfl

@[simp] theorem State.bankCircuits_modSelector (s : State) (m : ManId) (h : HallId) (f : Selector → Selector) :
    (s.modSelector m h f).bankCircuits = s.bankCircuits := rfl

@[simp] theorem State.selCircuits_modSelector (s : State) (m : ManId) (h : HallId) (f : Selector → Selector) :
    (s.modSelector m h f).selCircuits = s.selCircuits := rfl

@[simp] theorem State.position_modSelector (s : State) (m : ManId) (h : HallId) (f : Selector → Selector) :
    (s.modSelector m h f).position = s.position := rfl

@[simp] theorem State.measuring_modSelector (s : State) (m : ManId) (h : HallId) (f : Selector → Selector) :
    (s.modSelector m h f).measuring = s.measuring := rfl

@[simp] theorem State.contacts_modSelector (s : State) (m : ManId) (h : HallId) (f : Selector → Selector) :
    (s.modSelector m h f).contacts = s.contacts := rfl

@[simp] theorem State.returns_modSelector (s : State) (m : ManId) (h : HallId) (f : Selector → Selector) :
    (s.modSelector m h f).returns = s.returns := rfl

@[simp] theorem State.scan_modSelector (s : State) (m : ManId) (h : HallId) (f : Selector → Selector) :
    (s.modSelector m h f).scan = s.scan := rfl

@[simp] theorem State.links_modSelector (s : State) (m : ManId) (h : HallId) (f : Selector → Selector) :
    (s.modSelector m h f).links = s.links := rfl

@[simp] theorem State.hallPorts_modSelector (s : State) (m : ManId) (h : HallId) (f : Selector → Selector) :
    (s.modSelector m h f).hallPorts = s.hallPorts := rfl

@[simp] theorem State.stationPort_modSelector (s : State) (m : ManId) (h : HallId) (f : Selector → Selector) :
    (s.modSelector m h f).stationPort = s.stationPort := rfl

@[simp] theorem State.freeCount_modSelector (s : State) (m : ManId) (h : HallId) (f : Selector → Selector) :
    (s.modSelector m h f).freeCount = s.freeCount := rfl

theorem State.selector_modSelector (s : State) (m n : ManId) (h g : HallId) (f : Selector → Selector) :
    (s.modSelector m h f).selector n g = if m = n ∧ h = g then f (s.selector m h) else s.selector n g := by
  unfold State.selector State.modSelector
  simp only [PerMan.get_set]
  by_cases e : m = n
  · subst e
    simp [PerHall.get_set]
  · simp [e]

/-! ## `modLink` -/

@[simp] theorem State.pending_modLink (s : State) (h : HallId) (f : Link → Link) :
    (s.modLink h f).pending = s.pending := rfl

@[simp] theorem State.work_modLink (s : State) (h : HallId) (f : Link → Link) : (s.modLink h f).work = s.work := rfl

@[simp] theorem State.nvPlan_modLink (s : State) (h : HallId) (f : Link → Link) :
    (s.modLink h f).nvPlan = s.nvPlan := rfl

@[simp] theorem State.nvSpent_modLink (s : State) (h : HallId) (f : Link → Link) :
    (s.modLink h f).nvSpent = s.nvSpent := rfl

@[simp] theorem State.overlay_modLink (s : State) (h : HallId) (f : Link → Link) :
    (s.modLink h f).overlay = s.overlay := rfl

@[simp] theorem State.write_modLink (s : State) (h : HallId) (f : Link → Link) : (s.modLink h f).write = s.write := rfl

@[simp] theorem State.markQueue_modLink (s : State) (h : HallId) (f : Link → Link) :
    (s.modLink h f).markQueue = s.markQueue := rfl

@[simp] theorem State.banks_modLink (s : State) (h : HallId) (f : Link → Link) : (s.modLink h f).banks = s.banks := rfl

@[simp] theorem State.initiators_modLink (s : State) (h : HallId) (f : Link → Link) :
    (s.modLink h f).initiators = s.initiators := rfl

@[simp] theorem State.mans_modLink (s : State) (h : HallId) (f : Link → Link) : (s.modLink h f).mans = s.mans := rfl

@[simp] theorem State.selectors_modLink (s : State) (h : HallId) (f : Link → Link) :
    (s.modLink h f).selectors = s.selectors := rfl

@[simp] theorem State.halls_modLink (s : State) (h : HallId) (f : Link → Link) : (s.modLink h f).halls = s.halls := rfl

@[simp] theorem State.confCounter_modLink (s : State) (h : HallId) (f : Link → Link) :
    (s.modLink h f).confCounter = s.confCounter := rfl

@[simp] theorem State.waitList_modLink (s : State) (h : HallId) (f : Link → Link) :
    (s.modLink h f).waitList = s.waitList := rfl

@[simp] theorem State.queue_modLink (s : State) (h : HallId) (f : Link → Link) : (s.modLink h f).queue = s.queue := rfl

@[simp] theorem State.slots_modLink (s : State) (h : HallId) (f : Link → Link) : (s.modLink h f).slots = s.slots := rfl

@[simp] theorem State.bankCircuits_modLink (s : State) (h : HallId) (f : Link → Link) :
    (s.modLink h f).bankCircuits = s.bankCircuits := rfl

@[simp] theorem State.selCircuits_modLink (s : State) (h : HallId) (f : Link → Link) :
    (s.modLink h f).selCircuits = s.selCircuits := rfl

@[simp] theorem State.position_modLink (s : State) (h : HallId) (f : Link → Link) :
    (s.modLink h f).position = s.position := rfl

@[simp] theorem State.measuring_modLink (s : State) (h : HallId) (f : Link → Link) :
    (s.modLink h f).measuring = s.measuring := rfl

@[simp] theorem State.contacts_modLink (s : State) (h : HallId) (f : Link → Link) :
    (s.modLink h f).contacts = s.contacts := rfl

@[simp] theorem State.returns_modLink (s : State) (h : HallId) (f : Link → Link) :
    (s.modLink h f).returns = s.returns := rfl

@[simp] theorem State.scan_modLink (s : State) (h : HallId) (f : Link → Link) : (s.modLink h f).scan = s.scan := rfl

@[simp] theorem State.hallPorts_modLink (s : State) (h : HallId) (f : Link → Link) :
    (s.modLink h f).hallPorts = s.hallPorts := rfl

@[simp] theorem State.stationPort_modLink (s : State) (h : HallId) (f : Link → Link) :
    (s.modLink h f).stationPort = s.stationPort := rfl

@[simp] theorem State.freeCount_modLink (s : State) (h : HallId) (f : Link → Link) :
    (s.modLink h f).freeCount = s.freeCount := rfl

theorem State.link_modLink (s : State) (h g : HallId) (f : Link → Link) :
    (s.modLink h f).link g = if h = g then f (s.link h) else s.link g := by
  unfold State.link State.modLink
  exact PerHall.get_set _ _ _ _

/-! ## `modPort` -/

@[simp] theorem State.pending_modPort (s : State) (p : Port) (f : PortIo → PortIo) :
    (s.modPort p f).pending = s.pending := by cases p <;> rfl

@[simp] theorem State.work_modPort (s : State) (p : Port) (f : PortIo → PortIo) :
    (s.modPort p f).work = s.work := by cases p <;> rfl

@[simp] theorem State.nvPlan_modPort (s : State) (p : Port) (f : PortIo → PortIo) :
    (s.modPort p f).nvPlan = s.nvPlan := by cases p <;> rfl

@[simp] theorem State.nvSpent_modPort (s : State) (p : Port) (f : PortIo → PortIo) :
    (s.modPort p f).nvSpent = s.nvSpent := by cases p <;> rfl

@[simp] theorem State.overlay_modPort (s : State) (p : Port) (f : PortIo → PortIo) :
    (s.modPort p f).overlay = s.overlay := by cases p <;> rfl

@[simp] theorem State.write_modPort (s : State) (p : Port) (f : PortIo → PortIo) :
    (s.modPort p f).write = s.write := by cases p <;> rfl

@[simp] theorem State.markQueue_modPort (s : State) (p : Port) (f : PortIo → PortIo) :
    (s.modPort p f).markQueue = s.markQueue := by cases p <;> rfl

@[simp] theorem State.banks_modPort (s : State) (p : Port) (f : PortIo → PortIo) :
    (s.modPort p f).banks = s.banks := by cases p <;> rfl

@[simp] theorem State.initiators_modPort (s : State) (p : Port) (f : PortIo → PortIo) :
    (s.modPort p f).initiators = s.initiators := by cases p <;> rfl

@[simp] theorem State.mans_modPort (s : State) (p : Port) (f : PortIo → PortIo) :
    (s.modPort p f).mans = s.mans := by cases p <;> rfl

@[simp] theorem State.selectors_modPort (s : State) (p : Port) (f : PortIo → PortIo) :
    (s.modPort p f).selectors = s.selectors := by cases p <;> rfl

@[simp] theorem State.halls_modPort (s : State) (p : Port) (f : PortIo → PortIo) :
    (s.modPort p f).halls = s.halls := by cases p <;> rfl

@[simp] theorem State.confCounter_modPort (s : State) (p : Port) (f : PortIo → PortIo) :
    (s.modPort p f).confCounter = s.confCounter := by cases p <;> rfl

@[simp] theorem State.waitList_modPort (s : State) (p : Port) (f : PortIo → PortIo) :
    (s.modPort p f).waitList = s.waitList := by cases p <;> rfl

@[simp] theorem State.queue_modPort (s : State) (p : Port) (f : PortIo → PortIo) :
    (s.modPort p f).queue = s.queue := by cases p <;> rfl

@[simp] theorem State.slots_modPort (s : State) (p : Port) (f : PortIo → PortIo) :
    (s.modPort p f).slots = s.slots := by cases p <;> rfl

@[simp] theorem State.bankCircuits_modPort (s : State) (p : Port) (f : PortIo → PortIo) :
    (s.modPort p f).bankCircuits = s.bankCircuits := by cases p <;> rfl

@[simp] theorem State.selCircuits_modPort (s : State) (p : Port) (f : PortIo → PortIo) :
    (s.modPort p f).selCircuits = s.selCircuits := by cases p <;> rfl

@[simp] theorem State.position_modPort (s : State) (p : Port) (f : PortIo → PortIo) :
    (s.modPort p f).position = s.position := by cases p <;> rfl

@[simp] theorem State.measuring_modPort (s : State) (p : Port) (f : PortIo → PortIo) :
    (s.modPort p f).measuring = s.measuring := by cases p <;> rfl

@[simp] theorem State.contacts_modPort (s : State) (p : Port) (f : PortIo → PortIo) :
    (s.modPort p f).contacts = s.contacts := by cases p <;> rfl

@[simp] theorem State.returns_modPort (s : State) (p : Port) (f : PortIo → PortIo) :
    (s.modPort p f).returns = s.returns := by cases p <;> rfl

@[simp] theorem State.scan_modPort (s : State) (p : Port) (f : PortIo → PortIo) :
    (s.modPort p f).scan = s.scan := by cases p <;> rfl

@[simp] theorem State.links_modPort (s : State) (p : Port) (f : PortIo → PortIo) :
    (s.modPort p f).links = s.links := by cases p <;> rfl

@[simp] theorem State.freeCount_modPort (s : State) (p : Port) (f : PortIo → PortIo) :
    (s.modPort p f).freeCount = s.freeCount := by cases p <;> rfl

theorem State.port_modPort (s : State) (p q : Port) (f : PortIo → PortIo) :
    (s.modPort p f).port q = if p = q then f (s.port p) else s.port q := by
  cases p <;> cases q <;> simp [State.port, State.modPort, PerHall.get_set]

@[simp] theorem State.port_modPort_same (s : State) (p : Port) (f : PortIo → PortIo) :
    (s.modPort p f).port p = f (s.port p) := by
  rw [State.port_modPort, if_pos rfl]

/-! ## `modContact` -/

@[simp] theorem State.pending_modContact (s : State) (d r : Line) (f : Contact → Contact) :
    (s.modContact d r f).pending = s.pending := rfl

@[simp] theorem State.work_modContact (s : State) (d r : Line) (f : Contact → Contact) :
    (s.modContact d r f).work = s.work := rfl

@[simp] theorem State.nvPlan_modContact (s : State) (d r : Line) (f : Contact → Contact) :
    (s.modContact d r f).nvPlan = s.nvPlan := rfl

@[simp] theorem State.nvSpent_modContact (s : State) (d r : Line) (f : Contact → Contact) :
    (s.modContact d r f).nvSpent = s.nvSpent := rfl

@[simp] theorem State.overlay_modContact (s : State) (d r : Line) (f : Contact → Contact) :
    (s.modContact d r f).overlay = s.overlay := rfl

@[simp] theorem State.write_modContact (s : State) (d r : Line) (f : Contact → Contact) :
    (s.modContact d r f).write = s.write := rfl

@[simp] theorem State.markQueue_modContact (s : State) (d r : Line) (f : Contact → Contact) :
    (s.modContact d r f).markQueue = s.markQueue := rfl

@[simp] theorem State.banks_modContact (s : State) (d r : Line) (f : Contact → Contact) :
    (s.modContact d r f).banks = s.banks := rfl

@[simp] theorem State.initiators_modContact (s : State) (d r : Line) (f : Contact → Contact) :
    (s.modContact d r f).initiators = s.initiators := rfl

@[simp] theorem State.mans_modContact (s : State) (d r : Line) (f : Contact → Contact) :
    (s.modContact d r f).mans = s.mans := rfl

@[simp] theorem State.selectors_modContact (s : State) (d r : Line) (f : Contact → Contact) :
    (s.modContact d r f).selectors = s.selectors := rfl

@[simp] theorem State.halls_modContact (s : State) (d r : Line) (f : Contact → Contact) :
    (s.modContact d r f).halls = s.halls := rfl

@[simp] theorem State.confCounter_modContact (s : State) (d r : Line) (f : Contact → Contact) :
    (s.modContact d r f).confCounter = s.confCounter := rfl

@[simp] theorem State.waitList_modContact (s : State) (d r : Line) (f : Contact → Contact) :
    (s.modContact d r f).waitList = s.waitList := rfl

@[simp] theorem State.queue_modContact (s : State) (d r : Line) (f : Contact → Contact) :
    (s.modContact d r f).queue = s.queue := rfl

@[simp] theorem State.slots_modContact (s : State) (d r : Line) (f : Contact → Contact) :
    (s.modContact d r f).slots = s.slots := rfl

@[simp] theorem State.bankCircuits_modContact (s : State) (d r : Line) (f : Contact → Contact) :
    (s.modContact d r f).bankCircuits = s.bankCircuits := rfl

@[simp] theorem State.selCircuits_modContact (s : State) (d r : Line) (f : Contact → Contact) :
    (s.modContact d r f).selCircuits = s.selCircuits := rfl

@[simp] theorem State.position_modContact (s : State) (d r : Line) (f : Contact → Contact) :
    (s.modContact d r f).position = s.position := rfl

@[simp] theorem State.measuring_modContact (s : State) (d r : Line) (f : Contact → Contact) :
    (s.modContact d r f).measuring = s.measuring := rfl

@[simp] theorem State.returns_modContact (s : State) (d r : Line) (f : Contact → Contact) :
    (s.modContact d r f).returns = s.returns := rfl

@[simp] theorem State.scan_modContact (s : State) (d r : Line) (f : Contact → Contact) :
    (s.modContact d r f).scan = s.scan := rfl

@[simp] theorem State.links_modContact (s : State) (d r : Line) (f : Contact → Contact) :
    (s.modContact d r f).links = s.links := rfl

@[simp] theorem State.hallPorts_modContact (s : State) (d r : Line) (f : Contact → Contact) :
    (s.modContact d r f).hallPorts = s.hallPorts := rfl

@[simp] theorem State.stationPort_modContact (s : State) (d r : Line) (f : Contact → Contact) :
    (s.modContact d r f).stationPort = s.stationPort := rfl

@[simp] theorem State.freeCount_modContact (s : State) (d r : Line) (f : Contact → Contact) :
    (s.modContact d r f).freeCount = s.freeCount := rfl

theorem State.contact_modContact (s : State) (d e r q : Line) (f : Contact → Contact) :
    (s.modContact d r f).contact e q = if d = e ∧ r = q then f (s.contact d r) else s.contact e q := by
  unfold State.contact State.modContact
  simp only [PerLine.get_set]
  by_cases h : d = e
  · subst h
    simp [PerLine.get_set]
  · simp [h]

/-! ## `modCircuit` -/

@[simp] theorem State.pending_modCircuit (s : State) (c : CircuitId) (f : Circuit → Circuit) :
    (s.modCircuit c f).pending = s.pending := by cases c <;> rfl

@[simp] theorem State.work_modCircuit (s : State) (c : CircuitId) (f : Circuit → Circuit) :
    (s.modCircuit c f).work = s.work := by cases c <;> rfl

@[simp] theorem State.nvPlan_modCircuit (s : State) (c : CircuitId) (f : Circuit → Circuit) :
    (s.modCircuit c f).nvPlan = s.nvPlan := by cases c <;> rfl

@[simp] theorem State.nvSpent_modCircuit (s : State) (c : CircuitId) (f : Circuit → Circuit) :
    (s.modCircuit c f).nvSpent = s.nvSpent := by cases c <;> rfl

@[simp] theorem State.overlay_modCircuit (s : State) (c : CircuitId) (f : Circuit → Circuit) :
    (s.modCircuit c f).overlay = s.overlay := by cases c <;> rfl

@[simp] theorem State.write_modCircuit (s : State) (c : CircuitId) (f : Circuit → Circuit) :
    (s.modCircuit c f).write = s.write := by cases c <;> rfl

@[simp] theorem State.markQueue_modCircuit (s : State) (c : CircuitId) (f : Circuit → Circuit) :
    (s.modCircuit c f).markQueue = s.markQueue := by cases c <;> rfl

@[simp] theorem State.banks_modCircuit (s : State) (c : CircuitId) (f : Circuit → Circuit) :
    (s.modCircuit c f).banks = s.banks := by cases c <;> rfl

@[simp] theorem State.initiators_modCircuit (s : State) (c : CircuitId) (f : Circuit → Circuit) :
    (s.modCircuit c f).initiators = s.initiators := by cases c <;> rfl

@[simp] theorem State.mans_modCircuit (s : State) (c : CircuitId) (f : Circuit → Circuit) :
    (s.modCircuit c f).mans = s.mans := by cases c <;> rfl

@[simp] theorem State.selectors_modCircuit (s : State) (c : CircuitId) (f : Circuit → Circuit) :
    (s.modCircuit c f).selectors = s.selectors := by cases c <;> rfl

@[simp] theorem State.halls_modCircuit (s : State) (c : CircuitId) (f : Circuit → Circuit) :
    (s.modCircuit c f).halls = s.halls := by cases c <;> rfl

@[simp] theorem State.confCounter_modCircuit (s : State) (c : CircuitId) (f : Circuit → Circuit) :
    (s.modCircuit c f).confCounter = s.confCounter := by cases c <;> rfl

@[simp] theorem State.waitList_modCircuit (s : State) (c : CircuitId) (f : Circuit → Circuit) :
    (s.modCircuit c f).waitList = s.waitList := by cases c <;> rfl

@[simp] theorem State.queue_modCircuit (s : State) (c : CircuitId) (f : Circuit → Circuit) :
    (s.modCircuit c f).queue = s.queue := by cases c <;> rfl

@[simp] theorem State.slots_modCircuit (s : State) (c : CircuitId) (f : Circuit → Circuit) :
    (s.modCircuit c f).slots = s.slots := by cases c <;> rfl

@[simp] theorem State.position_modCircuit (s : State) (c : CircuitId) (f : Circuit → Circuit) :
    (s.modCircuit c f).position = s.position := by cases c <;> rfl

@[simp] theorem State.measuring_modCircuit (s : State) (c : CircuitId) (f : Circuit → Circuit) :
    (s.modCircuit c f).measuring = s.measuring := by cases c <;> rfl

@[simp] theorem State.contacts_modCircuit (s : State) (c : CircuitId) (f : Circuit → Circuit) :
    (s.modCircuit c f).contacts = s.contacts := by cases c <;> rfl

@[simp] theorem State.returns_modCircuit (s : State) (c : CircuitId) (f : Circuit → Circuit) :
    (s.modCircuit c f).returns = s.returns := by cases c <;> rfl

@[simp] theorem State.scan_modCircuit (s : State) (c : CircuitId) (f : Circuit → Circuit) :
    (s.modCircuit c f).scan = s.scan := by cases c <;> rfl

@[simp] theorem State.links_modCircuit (s : State) (c : CircuitId) (f : Circuit → Circuit) :
    (s.modCircuit c f).links = s.links := by cases c <;> rfl

@[simp] theorem State.hallPorts_modCircuit (s : State) (c : CircuitId) (f : Circuit → Circuit) :
    (s.modCircuit c f).hallPorts = s.hallPorts := by cases c <;> rfl

@[simp] theorem State.stationPort_modCircuit (s : State) (c : CircuitId) (f : Circuit → Circuit) :
    (s.modCircuit c f).stationPort = s.stationPort := by cases c <;> rfl

@[simp] theorem State.freeCount_modCircuit (s : State) (c : CircuitId) (f : Circuit → Circuit) :
    (s.modCircuit c f).freeCount = s.freeCount := by cases c <;> rfl

theorem State.circuit_modCircuit (s : State) (c d : CircuitId) (f : Circuit → Circuit) :
    (s.modCircuit c f).circuit d = if c = d then (s.circuit c).map f else s.circuit d := by
  cases c with
  | bank b =>
    cases d with
    | bank a =>
      by_cases e : b = a
      · subst e
        simp [State.circuit, State.modCircuit]
      · simp [State.circuit, State.modCircuit, PerBank.get_set, e]
    | selector m h => simp [State.circuit, State.modCircuit]
  | selector m h =>
    cases d with
    | bank a => simp [State.circuit, State.modCircuit]
    | selector n g =>
      by_cases e : m = n
      · subst e
        by_cases e' : h = g
        · subst e'
          simp [State.circuit, State.modCircuit]
        · simp [State.circuit, State.modCircuit, PerHall.get_set, e']
      · simp [State.circuit, State.modCircuit, PerMan.get_set, e]

/-! ## `abandonMeasurement` -/

@[simp] theorem State.pending_abandonMeasurement (s : State) (c : CircuitId) :
    (s.abandonMeasurement c).pending = s.pending := rfl

@[simp] theorem State.work_abandonMeasurement (s : State) (c : CircuitId) :
    (s.abandonMeasurement c).work = s.work := rfl

@[simp] theorem State.nvPlan_abandonMeasurement (s : State) (c : CircuitId) :
    (s.abandonMeasurement c).nvPlan = s.nvPlan := rfl

@[simp] theorem State.nvSpent_abandonMeasurement (s : State) (c : CircuitId) :
    (s.abandonMeasurement c).nvSpent = s.nvSpent := rfl

@[simp] theorem State.overlay_abandonMeasurement (s : State) (c : CircuitId) :
    (s.abandonMeasurement c).overlay = s.overlay := rfl

@[simp] theorem State.write_abandonMeasurement (s : State) (c : CircuitId) :
    (s.abandonMeasurement c).write = s.write := rfl

@[simp] theorem State.markQueue_abandonMeasurement (s : State) (c : CircuitId) :
    (s.abandonMeasurement c).markQueue = s.markQueue := rfl

@[simp] theorem State.banks_abandonMeasurement (s : State) (c : CircuitId) :
    (s.abandonMeasurement c).banks = s.banks := rfl

@[simp] theorem State.initiators_abandonMeasurement (s : State) (c : CircuitId) :
    (s.abandonMeasurement c).initiators = s.initiators := rfl

@[simp] theorem State.mans_abandonMeasurement (s : State) (c : CircuitId) :
    (s.abandonMeasurement c).mans = s.mans := rfl

@[simp] theorem State.selectors_abandonMeasurement (s : State) (c : CircuitId) :
    (s.abandonMeasurement c).selectors = s.selectors := rfl

@[simp] theorem State.halls_abandonMeasurement (s : State) (c : CircuitId) :
    (s.abandonMeasurement c).halls = s.halls := rfl

@[simp] theorem State.confCounter_abandonMeasurement (s : State) (c : CircuitId) :
    (s.abandonMeasurement c).confCounter = s.confCounter := rfl

@[simp] theorem State.waitList_abandonMeasurement (s : State) (c : CircuitId) :
    (s.abandonMeasurement c).waitList = s.waitList := rfl

@[simp] theorem State.queue_abandonMeasurement (s : State) (c : CircuitId) :
    (s.abandonMeasurement c).queue = s.queue := rfl

@[simp] theorem State.slots_abandonMeasurement (s : State) (c : CircuitId) :
    (s.abandonMeasurement c).slots = s.slots := rfl

@[simp] theorem State.bankCircuits_abandonMeasurement (s : State) (c : CircuitId) :
    (s.abandonMeasurement c).bankCircuits = s.bankCircuits := rfl

@[simp] theorem State.selCircuits_abandonMeasurement (s : State) (c : CircuitId) :
    (s.abandonMeasurement c).selCircuits = s.selCircuits := rfl

@[simp] theorem State.position_abandonMeasurement (s : State) (c : CircuitId) :
    (s.abandonMeasurement c).position = s.position := rfl

@[simp] theorem State.contacts_abandonMeasurement (s : State) (c : CircuitId) :
    (s.abandonMeasurement c).contacts = s.contacts := rfl

@[simp] theorem State.returns_abandonMeasurement (s : State) (c : CircuitId) :
    (s.abandonMeasurement c).returns = s.returns := rfl

@[simp] theorem State.scan_abandonMeasurement (s : State) (c : CircuitId) :
    (s.abandonMeasurement c).scan = s.scan := rfl

@[simp] theorem State.links_abandonMeasurement (s : State) (c : CircuitId) :
    (s.abandonMeasurement c).links = s.links := rfl

@[simp] theorem State.hallPorts_abandonMeasurement (s : State) (c : CircuitId) :
    (s.abandonMeasurement c).hallPorts = s.hallPorts := rfl

@[simp] theorem State.stationPort_abandonMeasurement (s : State) (c : CircuitId) :
    (s.abandonMeasurement c).stationPort = s.stationPort := rfl

@[simp] theorem State.freeCount_abandonMeasurement (s : State) (c : CircuitId) :
    (s.abandonMeasurement c).freeCount = s.freeCount := rfl

/-! ## `beginWrite` -/

@[simp] theorem State.pending_beginWrite (s : State) (w : StoreWrite) : (s.beginWrite w).pending = s.pending := rfl

@[simp] theorem State.work_beginWrite (s : State) (w : StoreWrite) : (s.beginWrite w).work = s.work := rfl

@[simp] theorem State.nvPlan_beginWrite (s : State) (w : StoreWrite) : (s.beginWrite w).nvPlan = s.nvPlan := rfl

@[simp] theorem State.nvSpent_beginWrite (s : State) (w : StoreWrite) : (s.beginWrite w).nvSpent = s.nvSpent := rfl

@[simp] theorem State.overlay_beginWrite (s : State) (w : StoreWrite) : (s.beginWrite w).overlay = s.overlay := rfl

@[simp] theorem State.markQueue_beginWrite (s : State) (w : StoreWrite) :
    (s.beginWrite w).markQueue = s.markQueue := rfl

@[simp] theorem State.banks_beginWrite (s : State) (w : StoreWrite) : (s.beginWrite w).banks = s.banks := rfl

@[simp] theorem State.initiators_beginWrite (s : State) (w : StoreWrite) :
    (s.beginWrite w).initiators = s.initiators := rfl

@[simp] theorem State.mans_beginWrite (s : State) (w : StoreWrite) : (s.beginWrite w).mans = s.mans := rfl

@[simp] theorem State.selectors_beginWrite (s : State) (w : StoreWrite) :
    (s.beginWrite w).selectors = s.selectors := rfl

@[simp] theorem State.halls_beginWrite (s : State) (w : StoreWrite) : (s.beginWrite w).halls = s.halls := rfl

@[simp] theorem State.confCounter_beginWrite (s : State) (w : StoreWrite) :
    (s.beginWrite w).confCounter = s.confCounter := rfl

@[simp] theorem State.waitList_beginWrite (s : State) (w : StoreWrite) : (s.beginWrite w).waitList = s.waitList := rfl

@[simp] theorem State.queue_beginWrite (s : State) (w : StoreWrite) : (s.beginWrite w).queue = s.queue := rfl

@[simp] theorem State.slots_beginWrite (s : State) (w : StoreWrite) : (s.beginWrite w).slots = s.slots := rfl

@[simp] theorem State.bankCircuits_beginWrite (s : State) (w : StoreWrite) :
    (s.beginWrite w).bankCircuits = s.bankCircuits := rfl

@[simp] theorem State.selCircuits_beginWrite (s : State) (w : StoreWrite) :
    (s.beginWrite w).selCircuits = s.selCircuits := rfl

@[simp] theorem State.position_beginWrite (s : State) (w : StoreWrite) : (s.beginWrite w).position = s.position := rfl

@[simp] theorem State.measuring_beginWrite (s : State) (w : StoreWrite) :
    (s.beginWrite w).measuring = s.measuring := rfl

@[simp] theorem State.contacts_beginWrite (s : State) (w : StoreWrite) : (s.beginWrite w).contacts = s.contacts := rfl

@[simp] theorem State.returns_beginWrite (s : State) (w : StoreWrite) : (s.beginWrite w).returns = s.returns := rfl

@[simp] theorem State.scan_beginWrite (s : State) (w : StoreWrite) : (s.beginWrite w).scan = s.scan := rfl

@[simp] theorem State.links_beginWrite (s : State) (w : StoreWrite) : (s.beginWrite w).links = s.links := rfl

@[simp] theorem State.hallPorts_beginWrite (s : State) (w : StoreWrite) :
    (s.beginWrite w).hallPorts = s.hallPorts := rfl

@[simp] theorem State.stationPort_beginWrite (s : State) (w : StoreWrite) :
    (s.beginWrite w).stationPort = s.stationPort := rfl

@[simp] theorem State.freeCount_beginWrite (s : State) (w : StoreWrite) :
    (s.beginWrite w).freeCount = s.freeCount := rfl

@[simp] theorem State.write_beginWrite (s : State) (w : StoreWrite) : (s.beginWrite w).write = some w := rfl

/-! ## `setSlot` -/

@[simp] theorem State.pending_setSlot (s : State) (i : SlotId) (x : Slot) : (s.setSlot i x).pending = s.pending := rfl

@[simp] theorem State.work_setSlot (s : State) (i : SlotId) (x : Slot) : (s.setSlot i x).work = s.work := rfl

@[simp] theorem State.nvPlan_setSlot (s : State) (i : SlotId) (x : Slot) : (s.setSlot i x).nvPlan = s.nvPlan := rfl

@[simp] theorem State.nvSpent_setSlot (s : State) (i : SlotId) (x : Slot) : (s.setSlot i x).nvSpent = s.nvSpent := rfl

@[simp] theorem State.overlay_setSlot (s : State) (i : SlotId) (x : Slot) : (s.setSlot i x).overlay = s.overlay := rfl

@[simp] theorem State.write_setSlot (s : State) (i : SlotId) (x : Slot) : (s.setSlot i x).write = s.write := rfl

@[simp] theorem State.markQueue_setSlot (s : State) (i : SlotId) (x : Slot) :
    (s.setSlot i x).markQueue = s.markQueue := rfl

@[simp] theorem State.banks_setSlot (s : State) (i : SlotId) (x : Slot) : (s.setSlot i x).banks = s.banks := rfl

@[simp] theorem State.initiators_setSlot (s : State) (i : SlotId) (x : Slot) :
    (s.setSlot i x).initiators = s.initiators := rfl

@[simp] theorem State.mans_setSlot (s : State) (i : SlotId) (x : Slot) : (s.setSlot i x).mans = s.mans := rfl

@[simp] theorem State.selectors_setSlot (s : State) (i : SlotId) (x : Slot) :
    (s.setSlot i x).selectors = s.selectors := rfl

@[simp] theorem State.halls_setSlot (s : State) (i : SlotId) (x : Slot) : (s.setSlot i x).halls = s.halls := rfl

@[simp] theorem State.confCounter_setSlot (s : State) (i : SlotId) (x : Slot) :
    (s.setSlot i x).confCounter = s.confCounter := rfl

@[simp] theorem State.waitList_setSlot (s : State) (i : SlotId) (x : Slot) :
    (s.setSlot i x).waitList = s.waitList := rfl

@[simp] theorem State.queue_setSlot (s : State) (i : SlotId) (x : Slot) : (s.setSlot i x).queue = s.queue := rfl

@[simp] theorem State.bankCircuits_setSlot (s : State) (i : SlotId) (x : Slot) :
    (s.setSlot i x).bankCircuits = s.bankCircuits := rfl

@[simp] theorem State.selCircuits_setSlot (s : State) (i : SlotId) (x : Slot) :
    (s.setSlot i x).selCircuits = s.selCircuits := rfl

@[simp] theorem State.position_setSlot (s : State) (i : SlotId) (x : Slot) :
    (s.setSlot i x).position = s.position := rfl

@[simp] theorem State.measuring_setSlot (s : State) (i : SlotId) (x : Slot) :
    (s.setSlot i x).measuring = s.measuring := rfl

@[simp] theorem State.contacts_setSlot (s : State) (i : SlotId) (x : Slot) :
    (s.setSlot i x).contacts = s.contacts := rfl

@[simp] theorem State.returns_setSlot (s : State) (i : SlotId) (x : Slot) : (s.setSlot i x).returns = s.returns := rfl

@[simp] theorem State.scan_setSlot (s : State) (i : SlotId) (x : Slot) : (s.setSlot i x).scan = s.scan := rfl

@[simp] theorem State.links_setSlot (s : State) (i : SlotId) (x : Slot) : (s.setSlot i x).links = s.links := rfl

@[simp] theorem State.hallPorts_setSlot (s : State) (i : SlotId) (x : Slot) :
    (s.setSlot i x).hallPorts = s.hallPorts := rfl

@[simp] theorem State.stationPort_setSlot (s : State) (i : SlotId) (x : Slot) :
    (s.setSlot i x).stationPort = s.stationPort := rfl

@[simp] theorem State.freeCount_setSlot (s : State) (i : SlotId) (x : Slot) :
    (s.setSlot i x).freeCount = s.freeCount := rfl

theorem State.slots_setSlot (s : State) (i j : SlotId) (x : Slot) :
    (s.setSlot i x).slots.get j = if i = j then x else s.slots.get j := PerSlot.get_set _ _ _ _

/-! ## `leaveWaitList` -/

@[simp] theorem State.pending_leaveWaitList (s : State) (h : HallId) : (s.leaveWaitList h).pending = s.pending := rfl

@[simp] theorem State.work_leaveWaitList (s : State) (h : HallId) : (s.leaveWaitList h).work = s.work := rfl

@[simp] theorem State.nvPlan_leaveWaitList (s : State) (h : HallId) : (s.leaveWaitList h).nvPlan = s.nvPlan := rfl

@[simp] theorem State.nvSpent_leaveWaitList (s : State) (h : HallId) : (s.leaveWaitList h).nvSpent = s.nvSpent := rfl

@[simp] theorem State.overlay_leaveWaitList (s : State) (h : HallId) : (s.leaveWaitList h).overlay = s.overlay := rfl

@[simp] theorem State.write_leaveWaitList (s : State) (h : HallId) : (s.leaveWaitList h).write = s.write := rfl

@[simp] theorem State.markQueue_leaveWaitList (s : State) (h : HallId) :
    (s.leaveWaitList h).markQueue = s.markQueue := rfl

@[simp] theorem State.banks_leaveWaitList (s : State) (h : HallId) : (s.leaveWaitList h).banks = s.banks := rfl

@[simp] theorem State.initiators_leaveWaitList (s : State) (h : HallId) :
    (s.leaveWaitList h).initiators = s.initiators := rfl

@[simp] theorem State.mans_leaveWaitList (s : State) (h : HallId) : (s.leaveWaitList h).mans = s.mans := rfl

@[simp] theorem State.selectors_leaveWaitList (s : State) (h : HallId) :
    (s.leaveWaitList h).selectors = s.selectors := rfl

@[simp] theorem State.halls_leaveWaitList (s : State) (h : HallId) : (s.leaveWaitList h).halls = s.halls := rfl

@[simp] theorem State.confCounter_leaveWaitList (s : State) (h : HallId) :
    (s.leaveWaitList h).confCounter = s.confCounter := rfl

@[simp] theorem State.queue_leaveWaitList (s : State) (h : HallId) : (s.leaveWaitList h).queue = s.queue := rfl

@[simp] theorem State.slots_leaveWaitList (s : State) (h : HallId) : (s.leaveWaitList h).slots = s.slots := rfl

@[simp] theorem State.bankCircuits_leaveWaitList (s : State) (h : HallId) :
    (s.leaveWaitList h).bankCircuits = s.bankCircuits := rfl

@[simp] theorem State.selCircuits_leaveWaitList (s : State) (h : HallId) :
    (s.leaveWaitList h).selCircuits = s.selCircuits := rfl

@[simp] theorem State.position_leaveWaitList (s : State) (h : HallId) : (s.leaveWaitList h).position = s.position := rfl

@[simp] theorem State.measuring_leaveWaitList (s : State) (h : HallId) :
    (s.leaveWaitList h).measuring = s.measuring := rfl

@[simp] theorem State.contacts_leaveWaitList (s : State) (h : HallId) : (s.leaveWaitList h).contacts = s.contacts := rfl

@[simp] theorem State.returns_leaveWaitList (s : State) (h : HallId) : (s.leaveWaitList h).returns = s.returns := rfl

@[simp] theorem State.scan_leaveWaitList (s : State) (h : HallId) : (s.leaveWaitList h).scan = s.scan := rfl

@[simp] theorem State.links_leaveWaitList (s : State) (h : HallId) : (s.leaveWaitList h).links = s.links := rfl

@[simp] theorem State.hallPorts_leaveWaitList (s : State) (h : HallId) :
    (s.leaveWaitList h).hallPorts = s.hallPorts := rfl

@[simp] theorem State.stationPort_leaveWaitList (s : State) (h : HallId) :
    (s.leaveWaitList h).stationPort = s.stationPort := rfl

@[simp] theorem State.freeCount_leaveWaitList (s : State) (h : HallId) :
    (s.leaveWaitList h).freeCount = s.freeCount := rfl

theorem State.mem_leaveWaitList (s : State) (h g : HallId) :
    g ∈ (s.leaveWaitList h).waitList ↔ g ∈ s.waitList ∧ ¬ g = h := by
  simp [State.leaveWaitList]

/-! ## `reserveAll` -/

@[simp] theorem State.pending_reserveAll (s : State) (h : HallId) (taken : List BankId) :
    (s.reserveAll h taken).pending = s.pending := rfl

@[simp] theorem State.work_reserveAll (s : State) (h : HallId) (taken : List BankId) :
    (s.reserveAll h taken).work = s.work := rfl

@[simp] theorem State.nvPlan_reserveAll (s : State) (h : HallId) (taken : List BankId) :
    (s.reserveAll h taken).nvPlan = s.nvPlan := rfl

@[simp] theorem State.nvSpent_reserveAll (s : State) (h : HallId) (taken : List BankId) :
    (s.reserveAll h taken).nvSpent = s.nvSpent := rfl

@[simp] theorem State.overlay_reserveAll (s : State) (h : HallId) (taken : List BankId) :
    (s.reserveAll h taken).overlay = s.overlay := rfl

@[simp] theorem State.write_reserveAll (s : State) (h : HallId) (taken : List BankId) :
    (s.reserveAll h taken).write = s.write := rfl

@[simp] theorem State.markQueue_reserveAll (s : State) (h : HallId) (taken : List BankId) :
    (s.reserveAll h taken).markQueue = s.markQueue := rfl

@[simp] theorem State.initiators_reserveAll (s : State) (h : HallId) (taken : List BankId) :
    (s.reserveAll h taken).initiators = s.initiators := rfl

@[simp] theorem State.selectors_reserveAll (s : State) (h : HallId) (taken : List BankId) :
    (s.reserveAll h taken).selectors = s.selectors := rfl

@[simp] theorem State.halls_reserveAll (s : State) (h : HallId) (taken : List BankId) :
    (s.reserveAll h taken).halls = s.halls := rfl

@[simp] theorem State.confCounter_reserveAll (s : State) (h : HallId) (taken : List BankId) :
    (s.reserveAll h taken).confCounter = s.confCounter := rfl

@[simp] theorem State.waitList_reserveAll (s : State) (h : HallId) (taken : List BankId) :
    (s.reserveAll h taken).waitList = s.waitList := rfl

@[simp] theorem State.queue_reserveAll (s : State) (h : HallId) (taken : List BankId) :
    (s.reserveAll h taken).queue = s.queue := rfl

@[simp] theorem State.slots_reserveAll (s : State) (h : HallId) (taken : List BankId) :
    (s.reserveAll h taken).slots = s.slots := rfl

@[simp] theorem State.bankCircuits_reserveAll (s : State) (h : HallId) (taken : List BankId) :
    (s.reserveAll h taken).bankCircuits = s.bankCircuits := rfl

@[simp] theorem State.selCircuits_reserveAll (s : State) (h : HallId) (taken : List BankId) :
    (s.reserveAll h taken).selCircuits = s.selCircuits := rfl

@[simp] theorem State.position_reserveAll (s : State) (h : HallId) (taken : List BankId) :
    (s.reserveAll h taken).position = s.position := rfl

@[simp] theorem State.measuring_reserveAll (s : State) (h : HallId) (taken : List BankId) :
    (s.reserveAll h taken).measuring = s.measuring := rfl

@[simp] theorem State.contacts_reserveAll (s : State) (h : HallId) (taken : List BankId) :
    (s.reserveAll h taken).contacts = s.contacts := rfl

@[simp] theorem State.returns_reserveAll (s : State) (h : HallId) (taken : List BankId) :
    (s.reserveAll h taken).returns = s.returns := rfl

@[simp] theorem State.scan_reserveAll (s : State) (h : HallId) (taken : List BankId) :
    (s.reserveAll h taken).scan = s.scan := rfl

@[simp] theorem State.links_reserveAll (s : State) (h : HallId) (taken : List BankId) :
    (s.reserveAll h taken).links = s.links := rfl

@[simp] theorem State.hallPorts_reserveAll (s : State) (h : HallId) (taken : List BankId) :
    (s.reserveAll h taken).hallPorts = s.hallPorts := rfl

@[simp] theorem State.stationPort_reserveAll (s : State) (h : HallId) (taken : List BankId) :
    (s.reserveAll h taken).stationPort = s.stationPort := rfl

@[simp] theorem State.freeCount_reserveAll (s : State) (h : HallId) (taken : List BankId) :
    (s.reserveAll h taken).freeCount = s.freeCount := rfl

theorem State.bank_reserveAll (s : State) (h : HallId) (taken : List BankId) (b : BankId) :
    (s.reserveAll h taken).bank b = if b ∈ taken then .reserved h else s.bank b := by
  simp only [State.bank, State.reserveAll, PerBank.get_mapId, BankState.reserve, List.contains_iff_mem]

theorem State.man_reserveAll (s : State) (h : HallId) (taken : List BankId) (m : ManId) :
    (s.reserveAll h taken).man m = (s.man m).claim h (taken.any fun b => s.manifoldOf b == m) := by
  simp only [State.man, State.reserveAll, PerMan.get_mapId]

/-! ## `setInitiator` -/

@[simp] theorem State.pending_setInitiator (s : State) (b : BankId) (on : Bool) :
    (s.setInitiator b on).pending = s.pending := rfl

@[simp] theorem State.work_setInitiator (s : State) (b : BankId) (on : Bool) :
    (s.setInitiator b on).work = s.work := rfl

@[simp] theorem State.nvPlan_setInitiator (s : State) (b : BankId) (on : Bool) :
    (s.setInitiator b on).nvPlan = s.nvPlan := rfl

@[simp] theorem State.nvSpent_setInitiator (s : State) (b : BankId) (on : Bool) :
    (s.setInitiator b on).nvSpent = s.nvSpent := rfl

@[simp] theorem State.overlay_setInitiator (s : State) (b : BankId) (on : Bool) :
    (s.setInitiator b on).overlay = s.overlay := rfl

@[simp] theorem State.write_setInitiator (s : State) (b : BankId) (on : Bool) :
    (s.setInitiator b on).write = s.write := rfl

@[simp] theorem State.markQueue_setInitiator (s : State) (b : BankId) (on : Bool) :
    (s.setInitiator b on).markQueue = s.markQueue := rfl

@[simp] theorem State.banks_setInitiator (s : State) (b : BankId) (on : Bool) :
    (s.setInitiator b on).banks = s.banks := rfl

@[simp] theorem State.mans_setInitiator (s : State) (b : BankId) (on : Bool) :
    (s.setInitiator b on).mans = s.mans := rfl

@[simp] theorem State.selectors_setInitiator (s : State) (b : BankId) (on : Bool) :
    (s.setInitiator b on).selectors = s.selectors := rfl

@[simp] theorem State.halls_setInitiator (s : State) (b : BankId) (on : Bool) :
    (s.setInitiator b on).halls = s.halls := rfl

@[simp] theorem State.confCounter_setInitiator (s : State) (b : BankId) (on : Bool) :
    (s.setInitiator b on).confCounter = s.confCounter := rfl

@[simp] theorem State.waitList_setInitiator (s : State) (b : BankId) (on : Bool) :
    (s.setInitiator b on).waitList = s.waitList := rfl

@[simp] theorem State.queue_setInitiator (s : State) (b : BankId) (on : Bool) :
    (s.setInitiator b on).queue = s.queue := rfl

@[simp] theorem State.slots_setInitiator (s : State) (b : BankId) (on : Bool) :
    (s.setInitiator b on).slots = s.slots := rfl

@[simp] theorem State.bankCircuits_setInitiator (s : State) (b : BankId) (on : Bool) :
    (s.setInitiator b on).bankCircuits = s.bankCircuits := rfl

@[simp] theorem State.selCircuits_setInitiator (s : State) (b : BankId) (on : Bool) :
    (s.setInitiator b on).selCircuits = s.selCircuits := rfl

@[simp] theorem State.position_setInitiator (s : State) (b : BankId) (on : Bool) :
    (s.setInitiator b on).position = s.position := rfl

@[simp] theorem State.measuring_setInitiator (s : State) (b : BankId) (on : Bool) :
    (s.setInitiator b on).measuring = s.measuring := rfl

@[simp] theorem State.contacts_setInitiator (s : State) (b : BankId) (on : Bool) :
    (s.setInitiator b on).contacts = s.contacts := rfl

@[simp] theorem State.returns_setInitiator (s : State) (b : BankId) (on : Bool) :
    (s.setInitiator b on).returns = s.returns := rfl

@[simp] theorem State.scan_setInitiator (s : State) (b : BankId) (on : Bool) :
    (s.setInitiator b on).scan = s.scan := rfl

@[simp] theorem State.links_setInitiator (s : State) (b : BankId) (on : Bool) :
    (s.setInitiator b on).links = s.links := rfl

@[simp] theorem State.hallPorts_setInitiator (s : State) (b : BankId) (on : Bool) :
    (s.setInitiator b on).hallPorts = s.hallPorts := rfl

@[simp] theorem State.stationPort_setInitiator (s : State) (b : BankId) (on : Bool) :
    (s.setInitiator b on).stationPort = s.stationPort := rfl

@[simp] theorem State.freeCount_setInitiator (s : State) (b : BankId) (on : Bool) :
    (s.setInitiator b on).freeCount = s.freeCount := rfl

/-! ## `spendChoices` -/

@[simp] theorem State.pending_spendChoices (s : State) (k : Nat) : (s.spendChoices k).pending = s.pending := rfl

@[simp] theorem State.work_spendChoices (s : State) (k : Nat) : (s.spendChoices k).work = s.work := rfl

@[simp] theorem State.nvPlan_spendChoices (s : State) (k : Nat) : (s.spendChoices k).nvPlan = s.nvPlan := rfl

@[simp] theorem State.nvSpent_spendChoices (s : State) (k : Nat) : (s.spendChoices k).nvSpent = s.nvSpent := rfl

@[simp] theorem State.overlay_spendChoices (s : State) (k : Nat) : (s.spendChoices k).overlay = s.overlay := rfl

@[simp] theorem State.write_spendChoices (s : State) (k : Nat) : (s.spendChoices k).write = s.write := rfl

@[simp] theorem State.markQueue_spendChoices (s : State) (k : Nat) : (s.spendChoices k).markQueue = s.markQueue := rfl

@[simp] theorem State.banks_spendChoices (s : State) (k : Nat) : (s.spendChoices k).banks = s.banks := rfl

@[simp] theorem State.initiators_spendChoices (s : State) (k : Nat) :
    (s.spendChoices k).initiators = s.initiators := rfl

@[simp] theorem State.mans_spendChoices (s : State) (k : Nat) : (s.spendChoices k).mans = s.mans := rfl

@[simp] theorem State.selectors_spendChoices (s : State) (k : Nat) : (s.spendChoices k).selectors = s.selectors := rfl

@[simp] theorem State.halls_spendChoices (s : State) (k : Nat) : (s.spendChoices k).halls = s.halls := rfl

@[simp] theorem State.confCounter_spendChoices (s : State) (k : Nat) :
    (s.spendChoices k).confCounter = s.confCounter := rfl

@[simp] theorem State.waitList_spendChoices (s : State) (k : Nat) : (s.spendChoices k).waitList = s.waitList := rfl

@[simp] theorem State.queue_spendChoices (s : State) (k : Nat) : (s.spendChoices k).queue = s.queue := rfl

@[simp] theorem State.slots_spendChoices (s : State) (k : Nat) : (s.spendChoices k).slots = s.slots := rfl

@[simp] theorem State.bankCircuits_spendChoices (s : State) (k : Nat) :
    (s.spendChoices k).bankCircuits = s.bankCircuits := rfl

@[simp] theorem State.selCircuits_spendChoices (s : State) (k : Nat) :
    (s.spendChoices k).selCircuits = s.selCircuits := rfl

@[simp] theorem State.position_spendChoices (s : State) (k : Nat) : (s.spendChoices k).position = s.position := rfl

@[simp] theorem State.measuring_spendChoices (s : State) (k : Nat) : (s.spendChoices k).measuring = s.measuring := rfl

@[simp] theorem State.contacts_spendChoices (s : State) (k : Nat) : (s.spendChoices k).contacts = s.contacts := rfl

@[simp] theorem State.returns_spendChoices (s : State) (k : Nat) : (s.spendChoices k).returns = s.returns := rfl

@[simp] theorem State.scan_spendChoices (s : State) (k : Nat) : (s.spendChoices k).scan = s.scan := rfl

@[simp] theorem State.links_spendChoices (s : State) (k : Nat) : (s.spendChoices k).links = s.links := rfl

@[simp] theorem State.hallPorts_spendChoices (s : State) (k : Nat) : (s.spendChoices k).hallPorts = s.hallPorts := rfl

@[simp] theorem State.stationPort_spendChoices (s : State) (k : Nat) :
    (s.spendChoices k).stationPort = s.stationPort := rfl

@[simp] theorem State.freeCount_spendChoices (s : State) (k : Nat) : (s.spendChoices k).freeCount = s.freeCount + k := rfl

/-! ## `countChanges` -/

@[simp] theorem State.pending_countChanges (old new : State) : (State.countChanges old new).pending = new.pending := rfl

@[simp] theorem State.work_countChanges (old new : State) : (State.countChanges old new).work = new.work := rfl

@[simp] theorem State.nvPlan_countChanges (old new : State) : (State.countChanges old new).nvPlan = new.nvPlan := rfl

@[simp] theorem State.nvSpent_countChanges (old new : State) : (State.countChanges old new).nvSpent = new.nvSpent := rfl

@[simp] theorem State.overlay_countChanges (old new : State) : (State.countChanges old new).overlay = new.overlay := rfl

@[simp] theorem State.write_countChanges (old new : State) : (State.countChanges old new).write = new.write := rfl

@[simp] theorem State.markQueue_countChanges (old new : State) : (State.countChanges old new).markQueue = new.markQueue := rfl

@[simp] theorem State.banks_countChanges (old new : State) : (State.countChanges old new).banks = new.banks := rfl

@[simp] theorem State.initiators_countChanges (old new : State) : (State.countChanges old new).initiators = new.initiators := rfl

@[simp] theorem State.mans_countChanges (old new : State) : (State.countChanges old new).mans = new.mans := rfl

@[simp] theorem State.selectors_countChanges (old new : State) : (State.countChanges old new).selectors = new.selectors := rfl

@[simp] theorem State.confCounter_countChanges (old new : State) : (State.countChanges old new).confCounter = new.confCounter := rfl

@[simp] theorem State.waitList_countChanges (old new : State) : (State.countChanges old new).waitList = new.waitList := rfl

@[simp] theorem State.queue_countChanges (old new : State) : (State.countChanges old new).queue = new.queue := rfl

@[simp] theorem State.slots_countChanges (old new : State) : (State.countChanges old new).slots = new.slots := rfl

@[simp] theorem State.bankCircuits_countChanges (old new : State) : (State.countChanges old new).bankCircuits = new.bankCircuits := rfl

@[simp] theorem State.selCircuits_countChanges (old new : State) : (State.countChanges old new).selCircuits = new.selCircuits := rfl

@[simp] theorem State.position_countChanges (old new : State) : (State.countChanges old new).position = new.position := rfl

@[simp] theorem State.measuring_countChanges (old new : State) : (State.countChanges old new).measuring = new.measuring := rfl

@[simp] theorem State.contacts_countChanges (old new : State) : (State.countChanges old new).contacts = new.contacts := rfl

@[simp] theorem State.returns_countChanges (old new : State) : (State.countChanges old new).returns = new.returns := rfl

@[simp] theorem State.scan_countChanges (old new : State) : (State.countChanges old new).scan = new.scan := rfl

@[simp] theorem State.links_countChanges (old new : State) : (State.countChanges old new).links = new.links := rfl

@[simp] theorem State.hallPorts_countChanges (old new : State) : (State.countChanges old new).hallPorts = new.hallPorts := rfl

@[simp] theorem State.stationPort_countChanges (old new : State) : (State.countChanges old new).stationPort = new.stationPort := rfl

@[simp] theorem State.freeCount_countChanges (old new : State) : (State.countChanges old new).freeCount = new.freeCount := rfl

@[simp] theorem State.hall_countChanges (old new : State) (h : HallId) :
    (State.countChanges old new).hall h = Hall.countChange (old.hall h) (new.hall h) := by
  simp [State.countChanges, State.hall]

end Sys2Proof.Machine
end

