-- ==== Sys2Proof/Laws/Frame.lean ====
section
/-! SUPPORT. What no decision about a hall, a bank or a manifold ever touches: one lemma for each operation of chapters 3
to 7 saying that it leaves the outer state as it was. -/

namespace Sys2Proof.Machine

/-- The state outside the decision core: the queue of commands, the plan and the store's content, the overlay, the bank
initiators, the rotation position, the contacts, the links and the ports, and the count of open choices. -/
def State.outer (s : State) :
    List Instr × Plan × Plan × PerBank Bool × Bool × PerBank Bool × Option CircuitId × PerLine (PerLine Contact) ×
      PerLine ReturnLine × ScanPos × PerHall Link × PerHall PortIo × PortIo × Nat :=
  (s.pending, s.work, s.nvPlan, s.nvSpent, s.overlay, s.initiators, s.position, s.contacts, s.returns, s.scan, s.links,
    s.hallPorts, s.stationPort, s.freeCount)

theorem State.outer_iff (s t : State) :
    t.outer = s.outer ↔
      t.pending = s.pending ∧ t.work = s.work ∧ t.nvPlan = s.nvPlan ∧ t.nvSpent = s.nvSpent ∧ t.overlay = s.overlay ∧
      t.initiators = s.initiators ∧ t.position = s.position ∧ t.contacts = s.contacts ∧ t.returns = s.returns ∧
      t.scan = s.scan ∧ t.links = s.links ∧ t.hallPorts = s.hallPorts ∧ t.stationPort = s.stationPort ∧
      t.freeCount = s.freeCount := by
  simp [State.outer]

theorem State.pending_of_outer {s t : State} (e : t.outer = s.outer) : t.pending = s.pending :=
  congrArg (fun x => x.1) e

theorem State.work_of_outer {s t : State} (e : t.outer = s.outer) : t.work = s.work :=
  congrArg (fun x => x.2.1) e

theorem State.nvPlan_of_outer {s t : State} (e : t.outer = s.outer) : t.nvPlan = s.nvPlan :=
  congrArg (fun x => x.2.2.1) e

theorem State.nvSpent_of_outer {s t : State} (e : t.outer = s.outer) : t.nvSpent = s.nvSpent :=
  congrArg (fun x => x.2.2.2.1) e

theorem State.overlay_of_outer {s t : State} (e : t.outer = s.outer) : t.overlay = s.overlay :=
  congrArg (fun x => x.2.2.2.2.1) e

theorem State.initiators_of_outer {s t : State} (e : t.outer = s.outer) : t.initiators = s.initiators :=
  congrArg (fun x => x.2.2.2.2.2.1) e

theorem State.position_of_outer {s t : State} (e : t.outer = s.outer) : t.position = s.position :=
  congrArg (fun x => x.2.2.2.2.2.2.1) e

theorem State.contacts_of_outer {s t : State} (e : t.outer = s.outer) : t.contacts = s.contacts :=
  congrArg (fun x => x.2.2.2.2.2.2.2.1) e

theorem State.returns_of_outer {s t : State} (e : t.outer = s.outer) : t.returns = s.returns :=
  congrArg (fun x => x.2.2.2.2.2.2.2.2.1) e

theorem State.scan_of_outer {s t : State} (e : t.outer = s.outer) : t.scan = s.scan :=
  congrArg (fun x => x.2.2.2.2.2.2.2.2.2.1) e

theorem State.links_of_outer {s t : State} (e : t.outer = s.outer) : t.links = s.links :=
  congrArg (fun x => x.2.2.2.2.2.2.2.2.2.2.1) e

theorem State.hallPorts_of_outer {s t : State} (e : t.outer = s.outer) : t.hallPorts = s.hallPorts :=
  congrArg (fun x => x.2.2.2.2.2.2.2.2.2.2.2.1) e

theorem State.stationPort_of_outer {s t : State} (e : t.outer = s.outer) : t.stationPort = s.stationPort :=
  congrArg (fun x => x.2.2.2.2.2.2.2.2.2.2.2.2.1) e

theorem State.freeCount_of_outer {s t : State} (e : t.outer = s.outer) : t.freeCount = s.freeCount :=
  congrArg (fun x => x.2.2.2.2.2.2.2.2.2.2.2.2.2) e

/-! ## The updates -/

@[simp] theorem State.outer_modHall (s : State) (h : HallId) (f : Hall → Hall) : (s.modHall h f).outer = s.outer := by
  rfl

@[simp] theorem State.outer_modInc (s : State) (h : HallId) (f : Incident → Incident) :
    (s.modInc h f).outer = s.outer := by
  rfl

@[simp] theorem State.outer_modFlags (s : State) (h : HallId) (f : Flags → Flags) :
    (s.modFlags h f).outer = s.outer := by
  rfl

@[simp] theorem State.outer_setBank (s : State) (b : BankId) (x : BankState) : (s.setBank b x).outer = s.outer := by
  rfl

@[simp] theorem State.outer_modMan (s : State) (m : ManId) (f : Manifold → Manifold) :
    (s.modMan m f).outer = s.outer := by
  rfl

@[simp] theorem State.outer_modSelector (s : State) (m : ManId) (h : HallId) (f : Selector → Selector) :
    (s.modSelector m h f).outer = s.outer := by
  rfl

@[simp] theorem State.outer_abandonMeasurement (s : State) (c : CircuitId) :
    (s.abandonMeasurement c).outer = s.outer := by
  rfl

@[simp] theorem State.outer_beginWrite (s : State) (w : StoreWrite) : (s.beginWrite w).outer = s.outer := by
  rfl

@[simp] theorem State.outer_setSlot (s : State) (i : SlotId) (x : Slot) : (s.setSlot i x).outer = s.outer := by
  rfl

@[simp] theorem State.outer_leaveWaitList (s : State) (h : HallId) : (s.leaveWaitList h).outer = s.outer := by
  rfl

@[simp] theorem State.outer_reserveAll (s : State) (h : HallId) (taken : List BankId) :
    (s.reserveAll h taken).outer = s.outer := by
  rfl

@[simp] theorem State.outer_modCircuit (s : State) (c : CircuitId) (f : Circuit → Circuit) :
    (s.modCircuit c f).outer = s.outer := by
  cases c <;> rfl

@[simp] theorem State.outer_countChanges (old new : State) : (State.countChanges old new).outer = new.outer := rfl

@[simp] theorem State.outer_asEvent (s : State) (f : State → State) : (s.asEvent f).outer = (f s).outer := rfl

/-! ## Circuits, selectors, manifolds -/

@[simp] theorem State.outer_markDriven (s : State) (c : CircuitId) : (s.markDriven c).outer = s.outer := by
  simp [State.markDriven]

@[simp] theorem State.outer_clearDriven (s : State) (c : CircuitId) : (s.clearDriven c).outer = s.outer := by
  simp [State.clearDriven]

@[simp] theorem State.outer_energise (s : State) (m : ManId) (h : HallId) : (s.energise m h).outer = s.outer := by
  simp [State.energise]

@[simp] theorem State.outer_deEnergise (s : State) (m : ManId) (h : HallId) : (s.deEnergise m h).outer = s.outer := by
  simp [State.deEnergise]

@[simp] theorem State.outer_freeManifold (s : State) (m : ManId) : (s.freeManifold m).outer = s.outer := by
  unfold State.freeManifold
  cases s.holder m <;> simp

/-! ## Flags and the record -/

@[simp] theorem State.outer_setHoldOverridden (s : State) (h : HallId) : (s.setHoldOverridden h).outer = s.outer := by
  simp [State.setHoldOverridden]

@[simp] theorem State.outer_setManualOverride (s : State) (h : HallId) : (s.setManualOverride h).outer = s.outer := by
  simp [State.setManualOverride]

@[simp] theorem State.outer_setPartial (s : State) (h : HallId) : (s.setPartial h).outer = s.outer := by
  simp [State.setPartial]

@[simp] theorem State.outer_setShortfall (s : State) (h : HallId) : (s.setShortfall h).outer = s.outer := by
  simp [State.setShortfall]

@[simp] theorem State.outer_setConcHigh (s : State) (h : HallId) : (s.setConcHigh h).outer = s.outer := by
  simp [State.setConcHigh]

@[simp] theorem State.outer_setCountdownSpent (s : State) (h : HallId) : (s.setCountdownSpent h).outer = s.outer := by
  simp [State.setCountdownSpent]

@[simp] theorem State.outer_setNoFlow (s : State) (h : HallId) : (s.setNoFlow h).outer = s.outer := by
  simp [State.setNoFlow]

@[simp] theorem State.outer_setSelectorLost (s : State) (h : HallId) : (s.setSelectorLost h).outer = s.outer := by
  simp [State.setSelectorLost]

@[simp] theorem State.outer_setLateLockout (s : State) (h : HallId) : (s.setLateLockout h).outer = s.outer := by
  simp [State.setLateLockout]

@[simp] theorem State.outer_setManualSeen (s : State) (h : HallId) : (s.setManualSeen h).outer = s.outer := by
  simp [State.setManualSeen]

@[simp] theorem State.outer_enterInhibited (s : State) (h : HallId) : (s.enterInhibited h).outer = s.outer := by
  simp [State.enterInhibited]

@[simp] theorem State.outer_enterHeld (s : State) (h : HallId) : (s.enterHeld h).outer = s.outer := by
  simp [State.enterHeld]

@[simp] theorem State.outer_openIncident (s : State) (h : HallId) : (s.openIncident h).outer = s.outer := by
  simp [State.openIncident]

@[simp] theorem State.outer_closeIncident (s : State) (h : HallId) : (s.closeIncident h).outer = s.outer := by
  simp [State.closeIncident]

@[simp] theorem State.outer_recordComputation (s : State) (h : HallId) : (s.recordComputation h).outer = s.outer := by
  simp [State.recordComputation]

@[simp] theorem State.outer_resumeCountdown (s : State) (h : HallId) (n : Nat) :
    (s.resumeCountdown h n).outer = s.outer := by
  simp [State.resumeCountdown]

@[simp] theorem State.outer_leaveHeld (s : State) (h : HallId) : (s.leaveHeld h).outer = s.outer := by
  unfold State.leaveHeld
  split <;> simp

@[simp] theorem State.outer_leaveHeldByManual (s : State) (h : HallId) :
    (s.leaveHeldByManual h).outer = s.outer := by
  unfold State.leaveHeldByManual
  split <;> simp

@[simp] theorem State.outer_recordConfirmation (s : State) (h : HallId) (c : Cause) :
    (s.recordConfirmation h c).outer = s.outer := by
  rfl

@[simp] theorem State.outer_recordEstimate (s : State) (h : HallId) : (s.recordEstimate h).outer = s.outer := by
  unfold State.recordEstimate
  dsimp only
  split
  · simp
  · split <;> simp

@[simp] theorem State.outer_latchZones (s : State) (h : HallId) : (s.latchZones h).outer = s.outer := by
  simp [State.latchZones]

@[simp] theorem State.outer_openOnAlarm (s : State) (h : HallId) : (s.openOnAlarm h).outer = s.outer := by
  unfold State.openOnAlarm
  split <;> simp

/-! ## The firing queue -/

@[simp] theorem State.outer_requestMark (s : State) (b : BankId) : (s.requestMark b).outer = s.outer := by
  unfold State.requestMark
  split <;> rfl

@[simp] theorem State.outer_takeHead (s : State) : (s.takeHead).outer = s.outer := by
  unfold State.takeHead
  split
  · rw [State.outer_requestMark]
    rfl
  · rfl

@[simp] theorem State.outer_fillSlots (s : State) : (s.fillSlots).outer = s.outer := by
  simp [State.fillSlots]

/-! ## The entries of a hall -/

@[simp] theorem State.outer_selectOn (s : State) (h : HallId) (m : ManId) : (s.selectOn h m).outer = s.outer := by
  unfold State.selectOn
  split <;> simp

@[simp] theorem State.outer_enterSelecting (s : State) (h : HallId) : (s.enterSelecting h).outer = s.outer := by
  simp [State.enterSelecting]

@[simp] theorem State.outer_enterDischarging (s : State) (h : HallId) : (s.enterDischarging h).outer = s.outer := by
  unfold State.enterDischarging
  rw [State.outer_fillSlots]
  rfl

@[simp] theorem State.outer_startCountdown (s : State) (h : HallId) : (s.startCountdown h).outer = s.outer := by
  unfold State.startCountdown
  dsimp only
  split
  · simp
  · split <;> simp

@[simp] theorem State.outer_joinWaitList (s : State) (h : HallId) : (s.joinWaitList h).outer = s.outer := by
  unfold State.joinWaitList
  split <;> rfl

@[simp] theorem State.outer_enterWaiting (s : State) (h : HallId) : (s.enterWaiting h).outer = s.outer := by
  simp [State.enterWaiting]

/-! ## Allocation -/

@[simp] theorem State.outer_commitAttempt (s : State) (h : HallId) (taken : List BankId) :
    (s.commitAttempt h taken).outer = s.outer := by
  unfold State.commitAttempt
  dsimp only
  split <;> simp

@[simp] theorem State.outer_afterSuccess (s : State) (h : HallId) : (s.afterSuccess h).outer = s.outer := by
  unfold State.afterSuccess
  split <;> simp

@[simp] theorem State.outer_attempt (s : State) (h : HallId) (guarded : List BankId) :
    (s.attempt h guarded).1.outer = s.outer := by
  unfold State.attempt
  dsimp only
  split <;> simp

@[simp] theorem State.outer_singleAttempt (s : State) (h : HallId) : (s.singleAttempt h).outer = s.outer := by
  unfold State.singleAttempt
  dsimp only
  split <;> simp

@[simp] theorem State.outer_walkHalls (halls : List HallId) (guarded : List BankId) (s : State) :
    (State.walkHalls halls guarded s).outer = s.outer := by
  induction halls generalizing guarded s with
  | nil => rfl
  | cons h rest ih => simp [State.walkHalls, ih]

@[simp] theorem State.outer_reexamine (s : State) : (s.reexamine).outer = s.outer := by
  simp [State.reexamine]

@[simp] theorem State.outer_releaseManifold (s : State) (h : HallId) (m : ManId) :
    (s.releaseManifold h m).outer = s.outer := by
  unfold State.releaseManifold
  split <;> simp

@[simp] theorem State.outer_returnAll (s : State) (h : HallId) : (s.returnAll h).outer = s.outer := by
  unfold State.returnAll
  dsimp only
  simp only [State.outer_releaseManifold]
  rfl

@[simp] theorem State.outer_dropUnfit (s : State) (h : HallId) (unfit : List BankId) :
    (s.dropUnfit h unfit).outer = s.outer := by
  rfl

@[simp] theorem State.outer_replace (s : State) (h : HallId) (unfit : List BankId) :
    (s.replace h unfit).outer = s.outer := by
  rfl

@[simp] theorem State.outer_releaseIfEmpty (s : State) (h : HallId) (m : ManId) :
    (s.releaseIfEmpty h m).outer = s.outer := by
  unfold State.releaseIfEmpty
  split <;> simp

@[simp] theorem State.outer_settleAllocation (s : State) (h : HallId) : (s.settleAllocation h).outer = s.outer := by
  simp [State.settleAllocation]

@[simp] theorem State.outer_goOn (s : State) (h : HallId) : (s.goOn h).outer = s.outer := by
  unfold State.goOn
  dsimp only
  split <;> simp

@[simp] theorem State.outer_shortfallInSelecting (s : State) (h : HallId) :
    (s.shortfallInSelecting h).outer = s.outer := by
  unfold State.shortfallInSelecting
  split
  · simp
  · split <;> simp

@[simp] theorem State.outer_shortfallInCountdown (s : State) (h : HallId) :
    (s.shortfallInCountdown h).outer = s.outer := by
  unfold State.shortfallInCountdown
  dsimp only
  split <;> simp

@[simp] theorem State.outer_withdrawHall (unfit : List BankId) (s : State) (h : HallId) :
    (State.withdrawHall unfit s h).outer = s.outer := by
  unfold State.withdrawHall
  dsimp only
  split <;> simp

theorem State.outer_foldl {α : Type} (f : State → α → State) (hf : ∀ s x, (f s x).outer = s.outer) (l : List α)
    (s : State) : (l.foldl f s).outer = s.outer := by
  induction l generalizing s with
  | nil => rfl
  | cons x rest ih => rw [List.foldl_cons, ih, hf]

@[simp] theorem State.outer_withdraw (s : State) (unfit : List BankId) : (s.withdraw unfit).outer = s.outer := by
  unfold State.withdraw
  rw [State.outer_reexamine]
  exact State.outer_foldl _ (State.outer_withdrawHall unfit) _ _

/-! ## Countdown and hold -/

@[simp] theorem State.outer_expireToWaiting (s : State) (h : HallId) : (s.expireToWaiting h).outer = s.outer := by
  simp [State.expireToWaiting]

@[simp] theorem State.outer_countdownExpires (s : State) (h : HallId) : (s.countdownExpires h).outer = s.outer := by
  unfold State.countdownExpires
  split
  · simp
  · split
    · simp
    · split <;> simp

@[simp] theorem State.outer_takeCountdownExpiry (s : State) (h : HallId) :
    (s.takeCountdownExpiry h).outer = s.outer := by
  unfold State.takeCountdownExpiry
  split <;> simp

@[simp] theorem State.outer_holdBegins (s : State) (h : HallId) : (s.holdBegins h).outer = s.outer := by
  unfold State.holdBegins
  split <;> simp

@[simp] theorem State.outer_holdEnds (s : State) (h : HallId) : (s.holdEnds h).outer = s.outer := by
  unfold State.holdEnds
  split <;> simp

@[simp] theorem State.outer_demandMoved (s : State) (h : HallId) (before : Bool) :
    (s.demandMoved h before).outer = s.outer := by
  unfold State.demandMoved
  split
  · simp
  · split <;> simp

@[simp] theorem State.outer_takeBudgetOverride (s : State) (h : HallId) :
    (s.takeBudgetOverride h).outer = s.outer := by
  unfold State.takeBudgetOverride
  split <;> simp

@[simp] theorem State.outer_manualRelease (s : State) (h : HallId) : (s.manualRelease h).outer = s.outer := by
  unfold State.manualRelease
  dsimp only
  split <;> simp

/-! ## Incidents -/

@[simp] theorem State.outer_confirm (s : State) (h : HallId) (c : Cause) : (s.confirm h c).outer = s.outer := by
  unfold State.confirm
  dsimp only
  split <;> simp

@[simp] theorem State.outer_testConfirmation (s : State) (h : HallId) : (s.testConfirmation h).outer = s.outer := by
  unfold State.testConfirmation
  split
  · split <;> simp
  · rfl

@[simp] theorem State.outer_manualEvent (s : State) (h : HallId) (c : Cause) :
    (s.manualEvent h c).outer = s.outer := by
  unfold State.manualEvent
  split <;> simp

@[simp] theorem State.outer_takeZones (s : State) (h : HallId) : (s.takeZones h).outer = s.outer := by
  unfold State.takeZones
  dsimp only
  split
  · simp
  · split <;> simp

@[simp] theorem State.outer_withholdBegins (s : State) (h : HallId) (late : Bool) :
    (s.withholdBegins h late).outer = s.outer := by
  unfold State.withholdBegins
  split <;> first | simp | (split <;> simp)

@[simp] theorem State.outer_withholdEnds (s : State) (h : HallId) : (s.withholdEnds h).outer = s.outer := by
  unfold State.withholdEnds
  split <;> simp

@[simp] theorem State.outer_standDown (s : State) (h : HallId) : (s.standDown h).outer = s.outer := by
  unfold State.standDown
  split <;> simp

@[simp] theorem State.outer_retry (s : State) (h : HallId) : (s.retry h).outer = s.outer := by
  unfold State.retry
  split <;> simp

@[simp] theorem State.outer_takeWaitLimit (s : State) (h : HallId) : (s.takeWaitLimit h).outer = s.outer := by
  unfold State.takeWaitLimit
  split
  · rfl
  · split <;> simp

/-! ## Release -/

@[simp] theorem State.outer_provenCloses (s : State) (m : ManId) (h : HallId) :
    (s.provenCloses m h).outer = s.outer := by
  unfold State.provenCloses
  dsimp only
  split
  · split <;> simp
  · rfl

@[simp] theorem State.outer_provenOpens (s : State) (m : ManId) (h : HallId) :
    (s.provenOpens m h).outer = s.outer := by
  unfold State.provenOpens
  split
  · split <;> simp
  · rfl

@[simp] theorem State.outer_stall (s : State) (h : HallId) : (s.stall h).outer = s.outer := by
  simp [State.stall]

@[simp] theorem State.outer_takeSelectorTimeout (s : State) (m : ManId) :
    (s.takeSelectorTimeout m).outer = s.outer := by
  unfold State.takeSelectorTimeout
  split
  · split <;> simp
  · rfl

@[simp] theorem State.outer_chargeManifold (s : State) (m : ManId) : (s.chargeManifold m).outer = s.outer := by
  unfold State.chargeManifold
  split <;> simp

@[simp] theorem State.outer_startDischarge (s : State) (b : BankId) : (s.startDischarge b).outer = s.outer := by
  unfold State.startDischarge
  split
  · rfl
  · split <;> simp

@[simp] theorem State.outer_flowCloses (s : State) (m : ManId) : (s.flowCloses m).outer = s.outer := by
  unfold State.flowCloses
  split <;> simp

@[simp] theorem State.outer_takeFlowTimeout (s : State) (m : ManId) : (s.takeFlowTimeout m).outer = s.outer := by
  unfold State.takeFlowTimeout
  split <;> simp

@[simp] theorem State.outer_ventManifold (s : State) (h : HallId) (m : ManId) :
    (s.ventManifold h m).outer = s.outer := by
  unfold State.ventManifold
  dsimp only
  split
  · split <;> simp
  · rfl

@[simp] theorem State.outer_takeDischargeExpiry (s : State) (h : HallId) :
    (s.takeDischargeExpiry h).outer = s.outer := by
  unfold State.takeDischargeExpiry
  split <;> simp

@[simp] theorem State.outer_dischargedIfDone (s : State) (h : HallId) : (s.dischargedIfDone h).outer = s.outer := by
  unfold State.dischargedIfDone
  split <;> simp

@[simp] theorem State.outer_takeVentExpiry (s : State) (m : ManId) : (s.takeVentExpiry m).outer = s.outer := by
  unfold State.takeVentExpiry
  split <;> simp

/-! ## Supervision and contacts -/

@[simp] theorem State.outer_conditionMoved (s : State) (c : CircuitId) (old new : Condition) :
    (s.conditionMoved c old new).outer = s.outer := by
  unfold State.conditionMoved
  split
  · split <;> simp
  · split <;> simp

@[simp] theorem State.outer_lowPressureMoved (s : State) (b : BankId) (closed : Bool) :
    (s.lowPressureMoved b closed).outer = s.outer := by
  unfold State.lowPressureMoved
  split
  · split <;> simp
  · simp

@[simp] theorem State.outer_selectionMoved (s : State) : (s.selectionMoved).outer = s.outer := by
  simp [State.selectionMoved]

@[simp] theorem State.outer_endMeasurement (s : State) (x : Measurement) (last : LastCount) (k : Reading) :
    (s.endMeasurement x last k).outer = s.outer := by
  unfold State.endMeasurement
  dsimp only
  split
  · rfl
  · rw [State.outer_conditionMoved, State.outer_modCircuit]
    rfl

@[simp] theorem State.outer_takeTrip (s : State) (count : Nat) : (s.takeTrip count).outer = s.outer := by
  unfold State.takeTrip
  split <;> simp

@[simp] theorem State.outer_takeCounterPass (s : State) : (s.takeCounterPass).outer = s.outer := by
  unfold State.takeCounterPass
  split <;> simp

end Sys2Proof.Machine
end

