-- ==== Sys2Proof/Laws/Lists.lean ====
section
/-! SUPPORT. What the shared operations over lists answer: the walk of a preference list (R67), the insertion at a rank
(R76), the open choices of order, and the roundings (R32). -/

namespace Sys2Proof.Machine

/-! ## Rounding -/

theorem ceilDiv_bounds (n : Nat) {d : Nat} (h : 0 < d) : n ≤ ceilDiv n d * d ∧ ceilDiv n d * d < n + d := by
  unfold ceilDiv
  have e := Nat.div_add_mod n d
  have l := Nat.mod_lt n h
  rw [Nat.mul_comm d (n / d)] at e
  split
  · omega
  · rw [Nat.add_mul, Nat.one_mul]
    omega

/-! ## The walk (R67) -/

theorem walk_sublist (may : BankId → Bool) (quantity : BankId → Nat) (target cum : Nat) (l : List BankId) :
    (walk may quantity target cum l).Sublist l := by
  induction l generalizing cum with
  | nil => exact List.Sublist.refl _
  | cons b rest ih =>
    simp only [walk]
    split
    · exact List.nil_sublist _
    · split
      · exact (ih _).cons_cons b
      · exact (ih _).cons b

theorem walk_may (may : BankId → Bool) (quantity : BankId → Nat) (target cum : Nat) (l : List BankId) {b : BankId}
    (h : b ∈ walk may quantity target cum l) : may b = true := by
  induction l generalizing cum with
  | nil => cases h
  | cons a rest ih =>
    simp only [walk] at h
    split at h
    · cases h
    · split at h
      · rename_i ok
        cases h with
        | head => exact ok
        | tail _ h => exact ih _ h
      · exact ih _ h

/-- A walk that ends below its target has taken every bank it may. -/
theorem walk_short (may : BankId → Bool) (quantity : BankId → Nat) (target cum : Nat) (l : List BankId)
    (h : cum + ((walk may quantity target cum l).map quantity).sum < target) :
    walk may quantity target cum l = l.filter may := by
  induction l generalizing cum with
  | nil => rfl
  | cons a rest ih =>
    simp only [walk] at h ⊢
    split at h
    · simp at h
      omega
    · rename_i below
      rw [if_neg below]
      split at h
      · rename_i ok
        rw [if_pos ok, List.filter_cons_of_pos ok]
        simp only [List.map_cons, List.sum_cons] at h
        rw [ih _ (by omega)]
      · rename_i no
        rw [if_neg no, List.filter_cons_of_neg no]
        exact ih _ h

/-- A walk never takes a bank once the target is reached. -/
theorem walk_reached (may : BankId → Bool) (quantity : BankId → Nat) {target cum : Nat} (l : List BankId)
    (h : target ≤ cum) : walk may quantity target cum l = [] := by
  cases l with
  | nil => rfl
  | cons a rest => simp [walk, h]

/-! ## Insertion at a rank (R76) -/

theorem mem_insertAt (before : HallId → Bool) (h g : HallId) (l : List HallId) :
    g ∈ insertAt before h l ↔ g = h ∨ g ∈ l := by
  induction l with
  | nil => simp [insertAt]
  | cons a rest ih =>
    simp only [insertAt]
    split
    · simp [ih]
      tauto
    · simp

theorem insertAt_perm (before : HallId → Bool) (h : HallId) (l : List HallId) : (insertAt before h l).Perm (h :: l) := by
  induction l with
  | nil => exact List.Perm.refl _
  | cons a rest ih =>
    simp only [insertAt]
    split
    · exact (ih.cons a).trans (List.Perm.swap h a rest)
    · exact List.Perm.refl _

theorem ranksBefore_trans (s : State) {f g h : HallId} (a : s.ranksBefore f g = true) (b : s.ranksBefore g h = true) :
    s.ranksBefore f h = true := by
  simp only [State.ranksBefore, decide_eq_true_eq] at *
  omega

theorem ranksBefore_total (s : State) {g h : HallId} (n : ¬ g = h) :
    s.ranksBefore g h = true ∨ s.ranksBefore h g = true := by
  have e : ¬ g.num = h.num := fun e => n (by cases g <;> cases h <;> first | rfl | cases e)
  simp only [State.ranksBefore, decide_eq_true_eq]
  omega

theorem ranksBefore_irrefl (s : State) (h : HallId) : s.ranksBefore h h = false := by
  simp [State.ranksBefore]

/-- A hall put into a ranked list at its rank leaves it ranked. -/
theorem insertAt_pairwise (s : State) (h : HallId) (l : List HallId) (n : ¬ h ∈ l)
    (p : l.Pairwise fun a b => s.ranksBefore a b = true) :
    (insertAt (fun g => s.ranksBefore g h) h l).Pairwise fun a b => s.ranksBefore a b = true := by
  induction l with
  | nil => simp [insertAt]
  | cons a rest ih =>
    rw [List.pairwise_cons] at p
    simp only [List.mem_cons, not_or] at n
    simp only [insertAt]
    split
    · rename_i first
      rw [List.pairwise_cons]
      refine ⟨fun x hx => ?_, ih n.2 p.2⟩
      rw [mem_insertAt] at hx
      cases hx with
      | inl e => rw [e]; exact first
      | inr m => exact p.1 x m
    · rename_i later
      have front : s.ranksBefore h a = true := by
        cases ranksBefore_total s n.1 with
        | inl k => exact k
        | inr k => exact absurd k later
      rw [List.pairwise_cons, List.pairwise_cons]
      refine ⟨fun x hx => ?_, p.1, p.2⟩
      cases hx with
      | head => exact front
      | tail _ m => exact ranksBefore_trans s front (p.1 x m)

/-! ## Open choices of order -/

theorem arrange_perm {α : Type} (fuel n : Nat) (l : List α) : (arrange fuel n l).Perm l := by
  induction fuel generalizing n l with
  | zero => exact List.Perm.refl _
  | succ k ih =>
    simp only [arrange]
    split
    · exact List.Perm.refl _
    · rename_i x hx
      obtain ⟨lt, rfl⟩ := List.getElem?_eq_some_iff.mp hx
      exact ((ih _ _).cons _).trans (List.getElem_cons_eraseIdx_perm lt)

/-- Events that arrive together are each taken once, in some order. -/
theorem orderOf_perm {α : Type} (n : Nat) (l : List α) : (orderOf n l).Perm l := by
  unfold orderOf
  split
  · exact List.Perm.refl _
  · exact List.Perm.refl _
  · exact arrange_perm _ _ _

theorem mem_orderOf {α : Type} (n : Nat) (l : List α) (x : α) : x ∈ orderOf n l ↔ x ∈ l := (orderOf_perm n l).mem_iff

@[simp] theorem orderOf_single {α : Type} (n : Nat) (x : α) : orderOf n [x] = [x] := rfl

@[simp] theorem orderOf_nil {α : Type} (n : Nat) : orderOf n ([] : List α) = [] := rfl

end Sys2Proof.Machine
end

