-- ==== Sys2Proof/Laws/Ops.lean ====
section
/-! SUPPORT. What each shared operation over halls, manifolds, the store and the slots can do, said once: the records of
other halls it leaves alone, and the cases of its answer. -/

namespace Sys2Proof.Machine

/-! ## Operations that leave every hall's records alone -/

@[simp] theorem State.halls_markDriven (s : State) (c : CircuitId) : (s.markDriven c).halls = s.halls := by
  simp [State.markDriven]

@[simp] theorem State.halls_clearDriven (s : State) (c : CircuitId) : (s.clearDriven c).halls = s.halls := by
  simp [State.clearDriven]

@[simp] theorem State.halls_energise (s : State) (m : ManId) (h : HallId) : (s.energise m h).halls = s.halls := by
  simp [State.energise]

@[simp] theorem State.halls_deEnergise (s : State) (m : ManId) (h : HallId) : (s.deEnergise m h).halls = s.halls := by
  simp [State.deEnergise]

@[simp] theorem State.halls_freeManifold (s : State) (m : ManId) : (s.freeManifold m).halls = s.halls := by
  unfold State.freeManifold
  cases s.holder m <;> simp

@[simp] theorem State.halls_selectOn (s : State) (h : HallId) (m : ManId) : (s.selectOn h m).halls = s.halls := by
  unfold State.selectOn
  split <;> simp

@[simp] theorem State.halls_requestMark (s : State) (b : BankId) : (s.requestMark b).halls = s.halls := by
  unfold State.requestMark
  split <;> rfl

@[simp] theorem State.halls_takeHead (s : State) : (s.takeHead).halls = s.halls := by
  unfold State.takeHead
  split
  · rw [State.halls_requestMark]
    rfl
  · rfl

@[simp] theorem State.halls_fillSlots (s : State) : (s.fillSlots).halls = s.halls := by
  simp [State.fillSlots]

@[simp] theorem State.halls_joinWaitList (s : State) (h : HallId) : (s.joinWaitList h).halls = s.halls := by
  unfold State.joinWaitList
  split <;> rfl

@[simp] theorem State.halls_releaseManifold (s : State) (h : HallId) (m : ManId) :
    (s.releaseManifold h m).halls = s.halls := by
  unfold State.releaseManifold
  split <;> simp

@[simp] theorem State.halls_releaseIfEmpty (s : State) (h : HallId) (m : ManId) :
    (s.releaseIfEmpty h m).halls = s.halls := by
  unfold State.releaseIfEmpty
  split <;> simp

@[simp] theorem State.halls_chargeManifold (s : State) (m : ManId) : (s.chargeManifold m).halls = s.halls := by
  unfold State.chargeManifold
  split <;> simp

@[simp] theorem State.halls_flowCloses (s : State) (m : ManId) : (s.flowCloses m).halls = s.halls := by
  unfold State.flowCloses
  split <;> simp

@[simp] theorem State.halls_completeWrite (s : State) : (s.completeWrite).halls = s.halls := by
  unfold State.completeWrite
  split
  · rfl
  · dsimp only
    split <;> rfl

/-! ## Operations that leave the other halls' records alone -/

theorem State.hall_of_halls {s t : State} (e : t.halls = s.halls) (g : HallId) : t.hall g = s.hall g := by
  unfold State.hall
  rw [e]

theorem State.inc_of_hall {s t : State} {g : HallId} (e : t.hall g = s.hall g) : t.inc g = s.inc g :=
  congrArg Hall.inc e

theorem State.hallState_of_hall {s t : State} {g : HallId} (e : t.hall g = s.hall g) :
    t.hallState g = s.hallState g :=
  congrArg (fun x : Hall => x.inc.state) e

theorem State.hall_modInc_other (s : State) {h g : HallId} (f : Incident → Incident) (n : ¬ h = g) :
    (s.modInc h f).hall g = s.hall g := State.hall_modHall_other s _ n

theorem State.hall_modFlags_other (s : State) {h g : HallId} (f : Flags → Flags) (n : ¬ h = g) :
    (s.modFlags h f).hall g = s.hall g := State.hall_modHall_other s _ n

theorem State.hall_setHoldOverridden_other (s : State) {h g : HallId} (n : ¬ h = g) :
    (s.setHoldOverridden h).hall g = s.hall g := by
  exact State.hall_modFlags_other s _ n

theorem State.hall_setManualOverride_other (s : State) {h g : HallId} (n : ¬ h = g) :
    (s.setManualOverride h).hall g = s.hall g := by
  exact State.hall_modFlags_other s _ n

theorem State.hall_setPartial_other (s : State) {h g : HallId} (n : ¬ h = g) :
    (s.setPartial h).hall g = s.hall g := by
  exact State.hall_modFlags_other s _ n

theorem State.hall_setShortfall_other (s : State) {h g : HallId} (n : ¬ h = g) :
    (s.setShortfall h).hall g = s.hall g := by
  exact State.hall_modFlags_other s _ n

theorem State.hall_setConcHigh_other (s : State) {h g : HallId} (n : ¬ h = g) :
    (s.setConcHigh h).hall g = s.hall g := by
  exact State.hall_modFlags_other s _ n

theorem State.hall_setCountdownSpent_other (s : State) {h g : HallId} (n : ¬ h = g) :
    (s.setCountdownSpent h).hall g = s.hall g := by
  exact State.hall_modFlags_other s _ n

theorem State.hall_setNoFlow_other (s : State) {h g : HallId} (n : ¬ h = g) :
    (s.setNoFlow h).hall g = s.hall g := by
  exact State.hall_modFlags_other s _ n

theorem State.hall_setSelectorLost_other (s : State) {h g : HallId} (n : ¬ h = g) :
    (s.setSelectorLost h).hall g = s.hall g := by
  exact State.hall_modFlags_other s _ n

theorem State.hall_setLateLockout_other (s : State) {h g : HallId} (n : ¬ h = g) :
    (s.setLateLockout h).hall g = s.hall g := by
  exact State.hall_modFlags_other s _ n

theorem State.hall_setManualSeen_other (s : State) {h g : HallId} (n : ¬ h = g) :
    (s.setManualSeen h).hall g = s.hall g := by
  exact State.hall_modInc_other s _ n

theorem State.hall_enterInhibited_other (s : State) {h g : HallId} (n : ¬ h = g) :
    (s.enterInhibited h).hall g = s.hall g := by
  exact State.hall_modInc_other s _ n

theorem State.hall_recordComputation_other (s : State) {h g : HallId} (n : ¬ h = g) :
    (s.recordComputation h).hall g = s.hall g := by
  exact State.hall_modInc_other s _ n

theorem State.hall_enterHeld_other (s : State) {h g : HallId} (n : ¬ h = g) :
    (s.enterHeld h).hall g = s.hall g := by
  exact State.hall_modHall_other s _ n

theorem State.hall_openIncident_other (s : State) {h g : HallId} (n : ¬ h = g) :
    (s.openIncident h).hall g = s.hall g := by
  exact State.hall_modHall_other s _ n

theorem State.hall_closeIncident_other (s : State) {h g : HallId} (n : ¬ h = g) :
    (s.closeIncident h).hall g = s.hall g := by
  exact State.hall_modHall_other s _ n

theorem State.hall_resumeCountdown_other (s : State) {h g : HallId} (k : Nat) (n : ¬ h = g) :
    (s.resumeCountdown h k).hall g = s.hall g := by
  exact State.hall_modHall_other s _ n

theorem State.hall_leaveHeld_other (s : State) {h g : HallId} (n : ¬ h = g) :
    (s.leaveHeld h).hall g = s.hall g := by
  unfold State.leaveHeld
  split
  · exact State.hall_modHall_other s _ n
  · rfl

theorem State.hall_leaveHeldByManual_other (s : State) {h g : HallId} (n : ¬ h = g) :
    (s.leaveHeldByManual h).hall g = s.hall g := by
  unfold State.leaveHeldByManual
  split
  · rfl
  · exact State.hall_leaveHeld_other s n

/-- Hold used after the stay that a manual event ends: the part tenth is added, the tenth that the override would take is
not (R90, R98, R99). -/
theorem State.holdUsed_leaveHeldByManual (s : State) (h : HallId) :
    ((s.leaveHeldByManual h).inc h).holdUsed =
      (s.inc h).holdUsed +
        (if s.hallState h = .held ∧ (s.hall h).stay.ms < 100 ∧
            (0 < (s.hall h).stay.ms ∨ (s.hall h).stay.counted = false) then 1 else 0) := by
  unfold State.leaveHeldByManual State.leaveHeld
  by_cases c : 100 ≤ (s.hall h).stay.ms
  · have n : ¬ (s.hall h).stay.ms < 100 := by omega
    simp [c, n]
  · by_cases d : s.hallState h = .held
    · have n : (s.hall h).stay.ms < 100 := by omega
      simp only [c, d, n, if_true, if_false, true_and]
      exact congrArg Incident.holdUsed (congrArg Hall.inc (PerHall.get_set_same s.halls h _))
    · simp [c, d]

theorem State.hall_recordConfirmation_other (s : State) {h g : HallId} (c : Cause) (n : ¬ h = g) :
    (s.recordConfirmation h c).hall g = s.hall g := by
  exact PerHall.get_set_other s.halls _ n

theorem State.hall_recordEstimate_other (s : State) {h g : HallId} (n : ¬ h = g) :
    (s.recordEstimate h).hall g = s.hall g := by
  unfold State.recordEstimate
  dsimp only
  split
  · exact State.hall_modInc_other s _ n
  · split
    · rw [State.hall_setConcHigh_other _ n, State.hall_modInc_other s _ n]
    · exact State.hall_modInc_other s _ n

theorem State.hall_enterSelecting_other (s : State) {h g : HallId} (n : ¬ h = g) :
    (s.enterSelecting h).hall g = s.hall g := by
  unfold State.enterSelecting
  rw [State.hall_of_halls (State.halls_selectOn _ _ _), State.hall_of_halls (State.halls_selectOn _ _ _)]
  exact State.hall_modInc_other s _ n

theorem State.hall_enterDischarging_other (s : State) {h g : HallId} (n : ¬ h = g) :
    (s.enterDischarging h).hall g = s.hall g := by
  unfold State.enterDischarging
  rw [State.hall_of_halls (State.halls_fillSlots _)]
  exact PerHall.get_set_other s.halls _ n

theorem State.hall_startCountdown_other (s : State) {h g : HallId} (n : ¬ h = g) :
    (s.startCountdown h).hall g = s.hall g := by
  unfold State.startCountdown
  dsimp only
  split
  · exact State.hall_enterSelecting_other s n
  · split
    · rw [State.hall_enterHeld_other _ n, State.hall_resumeCountdown_other s _ n]
    · exact State.hall_resumeCountdown_other s _ n

theorem State.hall_enterWaiting_other (s : State) {h g : HallId} (n : ¬ h = g) :
    (s.enterWaiting h).hall g = s.hall g := by
  unfold State.enterWaiting
  rw [State.hall_of_halls (State.halls_joinWaitList _ _)]
  exact State.hall_modInc_other s _ n

theorem State.hall_commitAttempt_other (s : State) {h g : HallId} (taken : List BankId) (n : ¬ h = g) :
    (s.commitAttempt h taken).hall g = s.hall g := by
  unfold State.commitAttempt
  dsimp only
  have e : ∀ t : State, (t.leaveWaitList h).hall g = t.hall g := fun _ => rfl
  have r : (s.reserveAll h taken).hall g = s.hall g := rfl
  split
  · rw [State.hall_setPartial_other _ n, e, State.hall_recordEstimate_other _ n, State.hall_modInc_other _ _ n, r]
  · rw [e, State.hall_recordEstimate_other _ n, State.hall_modInc_other _ _ n, r]

theorem State.hall_afterSuccess_other (s : State) {h g : HallId} (n : ¬ h = g) :
    (s.afterSuccess h).hall g = s.hall g := by
  unfold State.afterSuccess
  split
  · exact State.hall_enterSelecting_other s n
  · exact State.hall_startCountdown_other s n

/-- An attempt for a hall changes the records of that hall alone. -/
theorem State.hall_attempt_other (s : State) {h g : HallId} (guarded : List BankId) (n : ¬ h = g) :
    (s.attempt h guarded).1.hall g = s.hall g := by
  unfold State.attempt
  dsimp only
  split
  · rw [State.hall_afterSuccess_other _ n, State.hall_commitAttempt_other _ _ n, State.hall_recordComputation_other _ n]
  · exact State.hall_recordComputation_other s n

theorem State.hall_singleAttempt_other (s : State) {h g : HallId} (n : ¬ h = g) :
    (s.singleAttempt h).hall g = s.hall g := by
  unfold State.singleAttempt
  dsimp only
  split
  · exact State.hall_attempt_other s _ n
  · rw [State.hall_enterWaiting_other _ n, State.hall_attempt_other s _ n]

/-- A walk over halls changes the records of those halls alone. -/
theorem State.hall_walkHalls_other (halls : List HallId) (guarded : List BankId) (s : State) {g : HallId}
    (n : ¬ g ∈ halls) : (State.walkHalls halls guarded s).hall g = s.hall g := by
  induction halls generalizing guarded s with
  | nil => rfl
  | cons h rest ih =>
    simp only [List.mem_cons, not_or] at n
    simp only [State.walkHalls]
    rw [ih _ _ n.2, State.hall_attempt_other s _ (fun e => n.1 e.symm)]

/-- A re-examination changes the records of the waiting halls alone (R80). -/
theorem State.hall_reexamine_other (s : State) {g : HallId} (n : ¬ g ∈ s.waitList) :
    s.reexamine.hall g = s.hall g := State.hall_walkHalls_other _ _ _ n

@[simp] theorem State.reexamine_of_empty (s : State) (e : s.waitList = []) : s.reexamine = s := by
  unfold State.reexamine
  rw [e]
  rfl

theorem State.hall_returnAll_other (s : State) {h g : HallId} (n : ¬ h = g) :
    (s.returnAll h).hall g = s.hall g := by
  unfold State.returnAll
  dsimp only
  rw [State.hall_of_halls (State.halls_releaseManifold _ _ _), State.hall_of_halls (State.halls_releaseManifold _ _ _),
    State.hall_modInc_other _ _ n]
  rfl

theorem State.hall_dropUnfit_other (s : State) {h g : HallId} (unfit : List BankId) (n : ¬ h = g) :
    (s.dropUnfit h unfit).hall g = s.hall g := by
  exact State.hall_modInc_other _ _ n

theorem State.hall_replace_other (s : State) {h g : HallId} (unfit : List BankId) (n : ¬ h = g) :
    (s.replace h unfit).hall g = s.hall g := by
  exact State.hall_modInc_other _ _ n

theorem State.hall_settleAllocation_other (s : State) {h g : HallId} (n : ¬ h = g) :
    (s.settleAllocation h).hall g = s.hall g := by
  unfold State.settleAllocation
  rw [State.hall_recordEstimate_other _ n, State.hall_of_halls (State.halls_releaseIfEmpty _ _ _),
    State.hall_of_halls (State.halls_releaseIfEmpty _ _ _)]

/-! ## Events -/

@[simp] theorem Hall.content_countChange (old new : Hall) : (old.countChange new).inc.content = new.inc.content := by
  unfold Hall.countChange
  split <;> rfl

@[simp] theorem Hall.countChange_same (x : Hall) : x.countChange x = x := by simp [Hall.countChange]

@[simp] theorem State.content_asEvent (s : State) (f : State → State) (h : HallId) :
    ((s.asEvent f).inc h).content = ((f s).inc h).content := by
  show ((State.countChanges s (f s)).hall h).inc.content = _
  rw [State.hall_countChanges, Hall.content_countChange]
  rfl

/-- An event changes a record's state field only as its effect does. -/
@[simp] theorem State.hallState_asEvent (s : State) (f : State → State) (h : HallId) :
    (s.asEvent f).hallState h = (f s).hallState h := by
  show ((s.asEvent f).inc h).content.state = ((f s).inc h).content.state
  rw [State.content_asEvent]

/-- An event that leaves a hall's records alone leaves its change number alone. -/
theorem State.hall_asEvent_of_same (s : State) (f : State → State) {h : HallId} (e : (f s).hall h = s.hall h) :
    (s.asEvent f).hall h = s.hall h := by
  show (State.countChanges s (f s)).hall h = _
  rw [State.hall_countChanges, e, Hall.countChange_same]

/-- An event that changes nothing is no event (R63). -/
@[simp] theorem State.asEvent_of_same (s : State) (f : State → State) (e : f s = s) : s.asEvent f = s := by
  unfold State.asEvent
  rw [e]
  unfold State.countChanges
  rw [PerHall.mapId_id]
  intro h
  exact Hall.countChange_same _

/-- The change number of an event: one more where the record's content changed, else what the effect left (R63). -/
theorem State.change_asEvent (s : State) (f : State → State) (h : HallId) :
    ((s.asEvent f).inc h).change =
      if (s.inc h).content = ((f s).inc h).content then ((f s).inc h).change else ((f s).inc h).change + 1 := by
  show ((State.countChanges s (f s)).hall h).inc.change = _
  rw [State.hall_countChanges]
  unfold Hall.countChange
  split <;> rename_i c
  · exact (if_pos c).symm
  · exact (if_neg c).symm

/-! ## The store and the slots -/

/-- A mark request is written at once or queued, and changes nothing else (R118, R180). -/
theorem State.requestMark_cases (s : State) (b : BankId) :
    (s.write = none ∧ s.requestMark b = { s with write := some (.setMark b) }) ∨
    (∃ w, s.write = some w ∧ s.requestMark b = { s with markQueue := s.markQueue ++ [b] }) := by
  unfold State.requestMark
  split
  · rename_i e
    exact Or.inl ⟨e, rfl⟩
  · rename_i w e
    exact Or.inr ⟨w, e, rfl⟩

/-- A completion: nothing without a write; else the content is stored and the next mark begins (R179). -/
theorem State.completeWrite_cases (s : State) :
    (s.write = none ∧ s.completeWrite = s) ∨
    (∃ w, s.write = some w ∧ s.markQueue = [] ∧
      s.completeWrite = { s with nvPlan := w.applyPlan s.nvPlan, nvSpent := w.applySpent s.nvSpent, write := none }) ∨
    (∃ w b rest, s.write = some w ∧ s.markQueue = b :: rest ∧
      s.completeWrite =
        { s with nvPlan := w.applyPlan s.nvPlan, nvSpent := w.applySpent s.nvSpent, write := some (.setMark b),
                 markQueue := rest }) := by
  unfold State.completeWrite
  split
  · rename_i e
    exact Or.inl ⟨e, rfl⟩
  · rename_i w e
    dsimp only
    split
    · rename_i q
      exact Or.inr (Or.inl ⟨w, e, q, rfl⟩)
    · rename_i b rest q
      exact Or.inr (Or.inr ⟨w, b, rest, e, q, rfl⟩)

/-- An offer of the slots: the head of the queue takes an EMPTY slot and requests its mark, or nothing happens (R117). -/
theorem State.takeHead_cases (s : State) :
    s.takeHead = s ∨
    (∃ b rest i, s.queue = b :: rest ∧ s.slots.get i = .empty ∧
      s.takeHead = ({ s with queue := rest, slots := s.slots.set i (.marking b) } : State).requestMark b) := by
  unfold State.takeHead
  split
  · rename_i b rest i q f
    refine Or.inr ⟨b, rest, i, q, ?_, rfl⟩
    unfold State.freeSlot at f
    split at f
    · rename_i e
      cases f
      exact e
    · split at f
      · rename_i e
        cases f
        exact e
      · cases f
  · exact Or.inl rfl

end Sys2Proof.Machine
end

