-- ==== Sys2Proof/Laws/Ports.lean ====
section
/-! SUPPORT. What the frame layer does with a frame, said once: admission (R160), the response (R159), and a byte. -/

namespace Sys2Proof.Machine

/-! ## Kind codes (R172) -/

@[simp] theorem kindOfCode_code (k : Kind) : kindOfCode k.code = some k := by cases k <;> decide

theorem code_of_kindOfCode {c : Byte} {k : Kind} (h : kindOfCode c = some k) : k.code = c := by
  have e := List.find?_some h
  simpa using e

/-- A kind byte outside R172's requests names no request kind. -/
theorem kindOfCode_none {c : Byte} (h : ¬ c ∈ requestKindCodes) : kindOfCode c = none := by
  unfold kindOfCode
  rw [List.find?_eq_none]
  intro k _ e
  have e' : k.code = c := by simpa using e
  apply h
  rw [← e']
  cases k <;> decide

/-! ## Admission (R160) -/

/-- An admitted request is handed to its owner. -/
theorem State.respond_admitted (s : State) {p : Port} {k : Kind} {payload : List Byte} {r : Request}
    (a : k.permitted p = true) (b : s.linkAllows k p = true) (c : requestOf (s.declaredCount p) k payload = some r) :
    s.respond p k.code payload = s.carryOut p r := by
  simp [State.respond, a, b, c]

/-- A kind that is no request kind is refused UNKNOWN_KIND, check 2. -/
theorem State.respond_unknown (s : State) (p : Port) {kind : Byte} (payload : List Byte)
    (n : kindOfCode kind = none) : s.respond p kind payload = (s, .refused .unknownKind) := by
  simp [State.respond, n]

/-- A kind not permitted on the port is refused NOT_PERMITTED, check 3. -/
theorem State.respond_notPermitted (s : State) {p : Port} {k : Kind} (payload : List Byte)
    (a : k.permitted p = false) : s.respond p k.code payload = (s, .refused .notPermitted) := by
  simp [State.respond, a]

/-- A kind that the link state does not take is refused STATE, check 4. -/
theorem State.respond_state (s : State) {p : Port} {k : Kind} (payload : List Byte) (a : k.permitted p = true)
    (b : s.linkAllows k p = false) : s.respond p k.code payload = (s, .refused .state) := by
  simp [State.respond, a, b]

/-- A malformed payload is refused INVALID, check 5. -/
theorem State.respond_invalid (s : State) {p : Port} {k : Kind} {payload : List Byte} (a : k.permitted p = true)
    (b : s.linkAllows k p = true) (c : requestOf (s.declaredCount p) k payload = none) :
    s.respond p k.code payload = (s, .refused .invalid) := by
  simp [State.respond, a, b, c]

/-! ## The response (R159) -/

/-- A frame that a ready port receives is processed. -/
theorem State.frameArrives_ready (s : State) {p : Port} (kind seq : Byte) {payload : List Byte} (r : s.portReady p)
    (l : payload.length ≤ Config.maxPayload) : s.frameArrives p kind seq payload = s.processFrame p kind seq payload := by
  unfold State.frameArrives
  rw [if_pos ⟨r.1, r.2, l⟩]

@[simp] theorem State.port_send (s : State) (p : Port) (frame : List Byte) :
    (s.send p frame).port p = { rx := .hunting, tx := some frame } := by
  simp [State.send]

/-- An answer that neither changes the state nor is INVALID leaves only the response behind. -/
theorem State.processFrame_of_answer (s : State) {p : Port} {kind : Byte} (seq : Byte) {payload : List Byte} {a : Answer}
    (e : s.respond p kind payload = (s, a)) (n : ¬ a = .refused .invalid) :
    s.processFrame p kind seq payload = s.send p (s.responseFrame kind seq a) := by
  unfold State.processFrame
  dsimp only
  have same : (s.asEvent fun t => (t.respond p kind payload).1) = s := by
    apply State.asEvent_of_same
    rw [e]
  rw [same, e]
  have quiet : s.noteAnswer p a = s := by
    unfold State.noteAnswer
    split
    · exact absurd rfl n
    · rfl
  rw [quiet]

/-- An answer other than INVALID leaves what the owner's event made of the state, and the response. -/
theorem State.processFrame_of_respond (s : State) {p : Port} {kind : Byte} (seq : Byte) {payload : List Byte}
    {t : State} {a : Answer} (e : s.respond p kind payload = (t, a)) (n : ¬ a = .refused .invalid) :
    s.processFrame p kind seq payload =
      (State.countChanges s t).send p ((State.countChanges s t).responseFrame kind seq a) := by
  have after : (s.asEvent fun t => (t.respond p kind payload).1) = State.countChanges s t := by
    show State.countChanges s (s.respond p kind payload).1 = _
    rw [e]
  unfold State.processFrame
  dsimp only
  rw [after, e]
  have quiet : (State.countChanges s t).noteAnswer p a = State.countChanges s t := by
    unfold State.noteAnswer
    split
    · exact absurd rfl n
    · rfl
  rw [quiet]

/-- A port that sends hears nothing (R159). -/
theorem State.listening_sending (s : State) {p : Port} {f : List Byte} (e : (s.port p).tx = some f) :
    s.listening p = false := by
  simp [State.listening, e]

/-- A byte at a port that does not listen is lost (R159, R163). -/
theorem State.receiveByte_deaf (s : State) {p : Port} (b : Byte) (e : s.listening p = false) :
    State.receiveByte p s b = s := by
  simp [State.receiveByte, e]

end Sys2Proof.Machine
end

