-- ==== Sys2Proof/Laws/PerInstr.lean ====
section
/-! SUPPORT. The family FrameForm: the frame of a well-formed request row, as the frame layer sends it (R157). -/

namespace Sys2Proof.Laws

open Sys2Proof.Machine

/-- The frame whose arrival a row stands for, if it is a request row. -/
def requestFrame : Instr → Option (List Byte)
  | .restart => none
  | .declare _ seq payload => some (frameBytes Kind.declare.code seq payload)
  | .cycle _ seq payload => some (frameBytes Kind.cycle.code seq payload)
  | .readStatus _ seq payload => some (frameBytes Kind.readStatus.code seq payload)
  | .readIncident _ seq payload => some (frameBytes Kind.readIncident.code seq payload)
  | .readBanks _ seq payload => some (frameBytes Kind.readBanks.code seq payload)
  | .readManifolds _ seq payload => some (frameBytes Kind.readManifolds.code seq payload)
  | .readLink _ seq payload => some (frameBytes Kind.readLink.code seq payload)
  | .readCircuits _ seq payload => some (frameBytes Kind.readCircuits.code seq payload)
  | .readContacts _ seq payload => some (frameBytes Kind.readContacts.code seq payload)
  | .readPlan _ seq payload => some (frameBytes Kind.readPlan.code seq payload)
  | .writePlan _ seq payload => some (frameBytes Kind.writePlan.code seq payload)
  | .setLock _ seq payload => some (frameBytes Kind.setLock.code seq payload)
  | .isolate _ seq payload => some (frameBytes Kind.isolate.code seq payload)
  | .deisolate _ seq payload => some (frameBytes Kind.deisolate.code seq payload)
  | .standDown _ seq payload => some (frameBytes Kind.standDown.code seq payload)
  | .retry _ seq payload => some (frameBytes Kind.retry.code seq payload)
  | .recharged _ seq payload => some (frameBytes Kind.recharged.code seq payload)
  | .linkStart _ seq payload => some (frameBytes Kind.linkStart.code seq payload)
  | .linkStop _ seq payload => some (frameBytes Kind.linkStop.code seq payload)
  | .unknownKind _ kind seq payload => some (frameBytes kind seq payload)
  | .frameBadCrc _ => none
  | .frameOverlength _ => none
  | .frameGap _ => none
  | .responseEnd _ => none
  | .silenceTimerExpiry _ => none
  | .countdownExpiry _ => none
  | .budgetOverride _ => none
  | .waitLimitElapsing _ => none
  | .selectorTimeout _ => none
  | .flowTimeout _ => none
  | .dischargePeriodExpiry _ => none
  | .ventTimerExpiry _ => none
  | .pulseEnd _ => none
  | .spentMarkCompletion => none
  | .storeWriteCompletion => none
  | .measurementInterval => none
  | .comparatorTrip _ => none
  | .counterPasses4095 => none
  | .driveDwellEnd _ => none
  | .darkDwellEnd _ => none
  | .byteReceived _ _ => none

/-- A well-formed request row's frame begins with the sync byte, has six bytes beside its payload's and at most 126, and
its fourth byte is its payload's length (R157). -/
def FrameForm.Statement (i : Instr) : Prop :=
  i.wellFormed = true → ∀ f, requestFrame i = some f →
    f.head? = some Config.syncByte ∧ f.length ≤ 126 ∧ ∃ n : Byte, f[3]? = some n ∧ f.length = n.toNat + 6

/-- Every frame of a payload that fits has the form. -/
theorem frame_form (kind seq : Byte) (payload : List Byte) (h : payload.length ≤ 120) :
    (frameBytes kind seq payload).head? = some Config.syncByte ∧ (frameBytes kind seq payload).length ≤ 126 ∧
      ∃ n : Byte, (frameBytes kind seq payload)[3]? = some n ∧ (frameBytes kind seq payload).length = n.toNat + 6 := by
  have l : (frameBytes kind seq payload).length = payload.length + 6 := by
    simp [frameBytes, frameBody, crcBytes, bytes2]
  refine ⟨rfl, by omega, byteOf payload.length, rfl, ?_⟩
  rw [l]
  unfold byteOf
  rw [BitVec.toNat_ofNat]
  omega

theorem FrameForm.restart : FrameForm.Statement .restart := fun _ _ e => nomatch e

theorem FrameForm.declare (p : Port) (seq : Byte) (payload : List Byte) :
    FrameForm.Statement (.declare p seq payload) := by
  intro w f e
  cases e
  exact frame_form _ _ _ (of_decide_eq_true (p := payload.length ≤ 120) w)

theorem FrameForm.cycle (p : Port) (seq : Byte) (payload : List Byte) : FrameForm.Statement (.cycle p seq payload) := by
  intro w f e
  cases e
  exact frame_form _ _ _ (of_decide_eq_true (p := payload.length ≤ 120) w)

theorem FrameForm.readStatus (p : Port) (seq : Byte) (payload : List Byte) :
    FrameForm.Statement (.readStatus p seq payload) := by
  intro w f e
  cases e
  exact frame_form _ _ _ (of_decide_eq_true (p := payload.length ≤ 120) w)

theorem FrameForm.readIncident (p : Port) (seq : Byte) (payload : List Byte) :
    FrameForm.Statement (.readIncident p seq payload) := by
  intro w f e
  cases e
  exact frame_form _ _ _ (of_decide_eq_true (p := payload.length ≤ 120) w)

theorem FrameForm.readBanks (p : Port) (seq : Byte) (payload : List Byte) :
    FrameForm.Statement (.readBanks p seq payload) := by
  intro w f e
  cases e
  exact frame_form _ _ _ (of_decide_eq_true (p := payload.length ≤ 120) w)

theorem FrameForm.readManifolds (p : Port) (seq : Byte) (payload : List Byte) :
    FrameForm.Statement (.readManifolds p seq payload) := by
  intro w f e
  cases e
  exact frame_form _ _ _ (of_decide_eq_true (p := payload.length ≤ 120) w)

theorem FrameForm.readLink (p : Port) (seq : Byte) (payload : List Byte) :
    FrameForm.Statement (.readLink p seq payload) := by
  intro w f e
  cases e
  exact frame_form _ _ _ (of_decide_eq_true (p := payload.length ≤ 120) w)

theorem FrameForm.readCircuits (p : Port) (seq : Byte) (payload : List Byte) :
    FrameForm.Statement (.readCircuits p seq payload) := by
  intro w f e
  cases e
  exact frame_form _ _ _ (of_decide_eq_true (p := payload.length ≤ 120) w)

theorem FrameForm.readContacts (p : Port) (seq : Byte) (payload : List Byte) :
    FrameForm.Statement (.readContacts p seq payload) := by
  intro w f e
  cases e
  exact frame_form _ _ _ (of_decide_eq_true (p := payload.length ≤ 120) w)

theorem FrameForm.readPlan (p : Port) (seq : Byte) (payload : List Byte) :
    FrameForm.Statement (.readPlan p seq payload) := by
  intro w f e
  cases e
  exact frame_form _ _ _ (of_decide_eq_true (p := payload.length ≤ 120) w)

theorem FrameForm.writePlan (p : Port) (seq : Byte) (payload : List Byte) :
    FrameForm.Statement (.writePlan p seq payload) := by
  intro w f e
  cases e
  exact frame_form _ _ _ (of_decide_eq_true (p := payload.length ≤ 120) w)

theorem FrameForm.setLock (p : Port) (seq : Byte) (payload : List Byte) :
    FrameForm.Statement (.setLock p seq payload) := by
  intro w f e
  cases e
  exact frame_form _ _ _ (of_decide_eq_true (p := payload.length ≤ 120) w)

theorem FrameForm.isolate (p : Port) (seq : Byte) (payload : List Byte) :
    FrameForm.Statement (.isolate p seq payload) := by
  intro w f e
  cases e
  exact frame_form _ _ _ (of_decide_eq_true (p := payload.length ≤ 120) w)

theorem FrameForm.deisolate (p : Port) (seq : Byte) (payload : List Byte) :
    FrameForm.Statement (.deisolate p seq payload) := by
  intro w f e
  cases e
  exact frame_form _ _ _ (of_decide_eq_true (p := payload.length ≤ 120) w)

theorem FrameForm.standDown (p : Port) (seq : Byte) (payload : List Byte) :
    FrameForm.Statement (.standDown p seq payload) := by
  intro w f e
  cases e
  exact frame_form _ _ _ (of_decide_eq_true (p := payload.length ≤ 120) w)

theorem FrameForm.retry (p : Port) (seq : Byte) (payload : List Byte) : FrameForm.Statement (.retry p seq payload) := by
  intro w f e
  cases e
  exact frame_form _ _ _ (of_decide_eq_true (p := payload.length ≤ 120) w)

theorem FrameForm.recharged (p : Port) (seq : Byte) (payload : List Byte) :
    FrameForm.Statement (.recharged p seq payload) := by
  intro w f e
  cases e
  exact frame_form _ _ _ (of_decide_eq_true (p := payload.length ≤ 120) w)

theorem FrameForm.linkStart (p : Port) (seq : Byte) (payload : List Byte) :
    FrameForm.Statement (.linkStart p seq payload) := by
  intro w f e
  cases e
  exact frame_form _ _ _ (of_decide_eq_true (p := payload.length ≤ 120) w)

theorem FrameForm.linkStop (p : Port) (seq : Byte) (payload : List Byte) :
    FrameForm.Statement (.linkStop p seq payload) := by
  intro w f e
  cases e
  exact frame_form _ _ _ (of_decide_eq_true (p := payload.length ≤ 120) w)

theorem FrameForm.unknownKind (p : Port) (kind seq : Byte) (payload : List Byte) :
    FrameForm.Statement (.unknownKind p kind seq payload) := by
  intro w f e
  cases e
  simp only [Instr.wellFormed, Bool.and_eq_true] at w
  exact frame_form _ _ _ (of_decide_eq_true (p := payload.length ≤ 120) w.2)

theorem FrameForm.frameBadCrc (p : Port) : FrameForm.Statement (.frameBadCrc p) := fun _ _ e => nomatch e

theorem FrameForm.frameOverlength (p : Port) : FrameForm.Statement (.frameOverlength p) := fun _ _ e => nomatch e

theorem FrameForm.frameGap (p : Port) : FrameForm.Statement (.frameGap p) := fun _ _ e => nomatch e

theorem FrameForm.responseEnd (p : Port) : FrameForm.Statement (.responseEnd p) := fun _ _ e => nomatch e

theorem FrameForm.silenceTimerExpiry (h : HallId) :
    FrameForm.Statement (.silenceTimerExpiry h) := fun _ _ e => nomatch e

theorem FrameForm.countdownExpiry (h : HallId) : FrameForm.Statement (.countdownExpiry h) := fun _ _ e => nomatch e

theorem FrameForm.budgetOverride (h : HallId) : FrameForm.Statement (.budgetOverride h) := fun _ _ e => nomatch e

theorem FrameForm.waitLimitElapsing (h : HallId) : FrameForm.Statement (.waitLimitElapsing h) := fun _ _ e => nomatch e

theorem FrameForm.selectorTimeout (m : ManId) : FrameForm.Statement (.selectorTimeout m) := fun _ _ e => nomatch e

theorem FrameForm.flowTimeout (m : ManId) : FrameForm.Statement (.flowTimeout m) := fun _ _ e => nomatch e

theorem FrameForm.dischargePeriodExpiry (h : HallId) :
    FrameForm.Statement (.dischargePeriodExpiry h) := fun _ _ e => nomatch e

theorem FrameForm.ventTimerExpiry (m : ManId) : FrameForm.Statement (.ventTimerExpiry m) := fun _ _ e => nomatch e

theorem FrameForm.pulseEnd (slot : SlotId) : FrameForm.Statement (.pulseEnd slot) := fun _ _ e => nomatch e

theorem FrameForm.spentMarkCompletion : FrameForm.Statement .spentMarkCompletion := fun _ _ e => nomatch e

theorem FrameForm.storeWriteCompletion : FrameForm.Statement .storeWriteCompletion := fun _ _ e => nomatch e

theorem FrameForm.measurementInterval : FrameForm.Statement .measurementInterval := fun _ _ e => nomatch e

theorem FrameForm.comparatorTrip (count : Nat) : FrameForm.Statement (.comparatorTrip count) := fun _ _ e => nomatch e

theorem FrameForm.counterPasses4095 : FrameForm.Statement .counterPasses4095 := fun _ _ e => nomatch e

theorem FrameForm.driveDwellEnd (sample : BitVec 8) :
    FrameForm.Statement (.driveDwellEnd sample) := fun _ _ e => nomatch e

theorem FrameForm.darkDwellEnd (sample : BitVec 8) :
    FrameForm.Statement (.darkDwellEnd sample) := fun _ _ e => nomatch e

theorem FrameForm.byteReceived (p : Port) (b : Byte) : FrameForm.Statement (.byteReceived p b) := fun _ _ e => nomatch e

end Sys2Proof.Laws
end

