-- ==== Sys2Proof/Tests/Slice0.lean ====
section
/-! SUPPORT. Tests of one step each, with results taken from the manual's worked cases and tables; the smoke test of
WellFormed; and for every statement with hypotheses a concrete state and operands that meet them. -/

namespace Sys2Proof.Tests

-- One theorem at a time: each waits for the kernel, and many that wait together each hold a thread's stack.
set_option Elab.async false

open Sys2Proof Sys2Proof.Machine

/-! ## The store of chapter 11 and the halls of chapter 2, and states of one release on it -/

/-- A bank record of the example store. -/
def bankRow (m : ManId) (role : Role) (cylinders fill : Nat) : BankPlan :=
  { manifold := m, role := role, cylinders := cylinders, fill := fill, openLimit := 2400, shortLimit := 300 }

/-- The plan: M1 reaches H1, H2 and H3, M2 reaches H3 to H6; H1 is the hall of case 1 of chapter 2. -/
def demoPlan : Plan :=
  { Plan.delivered with
    site := { k1 := 1269, k2 := 513, portMask := PerHall.fill true, silence := 10 }
    mans :=
      { m1 := { Plan.delivered.mans.m1 with reach := ⟨true, true, true, false, false, false⟩ }
        m2 := { Plan.delivered.mans.m2 with reach := ⟨false, false, true, true, true, true⟩ } }
    banks :=
      { b1 := bankRow .m1 .main 16 600, b2 := bankRow .m1 .main 16 600, b3 := bankRow .m1 .main 8 600
        b4 := bankRow .m1 .reserve 16 600, b5 := bankRow .m2 .main 10 1500, b6 := bankRow .m2 .main 10 1500
        b7 := bankRow .m2 .main 6 1500, b8 := bankRow .m2 .reserve 10 1500 }
    halls :=
      { Plan.delivered.halls with
        h1 :=
          { Plan.delivered.halls.h1 with
            volume := 3600, design := 75, maximum := 100, designLow := 15, designHigh := 35
            preference := [.b1, .b2, .b3] }
        h2 := { Plan.delivered.halls.h2 with volume := 400, design := 75, maximum := 100, preference := [.b3] } } }

/-- The coordinator after a restart with this plan. -/
def demo : State := { State.reset with nvPlan := demoPlan }.restart

/-- H1's record during its release, with B1 and B2 allocated. -/
def demoInc (st : HallState) (countdown : Option Nat) : Incident :=
  { Incident.empty with
    number := 1, isOpen := true, state := st, cause := some .localManual, confNumber := some 12, manualSeen := true
    tLow := some 15, tHigh := some 35, required := some 18000, alloc := [⟨.b1, 9600⟩, ⟨.b2, 9600⟩]
    estimate := some 72, countdown := countdown }

/-- H1 in a state with its two banks RESERVED and M1 CLAIMED, no other hall confirmed. -/
def reserved (st : HallState) (countdown : Option Nat) : State :=
  { demo with
    halls := demo.halls.set .h1 { Hall.restarted with inc := demoInc st countdown, wait := some ⟨40, 0, false⟩ }
    banks := (demo.banks.set .b1 (.reserved .h1)).set .b2 (.reserved .h1)
    mans := demo.mans.set .m1 ⟨.claimed .h1, false, .stopped⟩
    confCounter := 13 }

/-- H1 in COUNTDOWN, and in HELD, with 300 tenths remaining. -/
def counting : State := reserved .countdown (some 300)

/-- H1 in HELD with 300 tenths remaining. -/
def held : State := reserved .held (some 300)

/-- H1 in COUNTDOWN with its banks withdrawn. -/
def emptied : State :=
  (counting.modInc .h1 fun i => { i with alloc := [], estimate := none }).returnAll .h1 |>.setBank .b1 .ready
    |>.setBank .b2 .ready |>.modMan .m1 fun _ => ⟨.free, false, .stopped⟩

/-- H1 in COUNTDOWN and H2 waiting behind it for M1. -/
def contended : State :=
  { counting with
    halls :=
      counting.halls.set .h2
        { Hall.restarted with
          inc :=
            { Incident.empty with
              number := 1, isOpen := true, state := .waiting, cause := some .cross, confNumber := some 13
              required := some 2412, tLow := some 15, tHigh := some 35 }
          wait := some ⟨10, 0, false⟩ }
    waitList := [.h2]
    confCounter := 14 }

/-- H1 in COUNTDOWN on M1, H3 in COUNTDOWN with B5 on M2, and H2 waiting. -/
def shared : State :=
  { contended with
    halls :=
      contended.halls.set .h3
        { Hall.restarted with
          inc :=
            { demoInc .countdown (some 200) with
              confNumber := some 14, required := some 15000, alloc := [⟨.b5, 15000⟩], estimate := some 90 } }
    banks := contended.banks.set .b5 (.reserved .h3)
    mans := contended.mans.set .m2 ⟨.claimed .h3, false, .stopped⟩
    confCounter := 15 }

/-- H1 and H2 waiting, H1 confirmed before H2; H2's one bank B3 is the last of H1's preference list. -/
def twoWaiting : State :=
  { contended with
    halls :=
      contended.halls.set .h1
        { Hall.restarted with
          inc := { demoInc .waiting none with alloc := [], estimate := none }, wait := some ⟨40, 0, false⟩ }
    banks := demo.banks
    mans := demo.mans
    waitList := [.h1, .h2] }

/-- H1 in SELECTING, its selector on M1 energised and not yet proven. -/
def selecting : State :=
  { reserved .selecting none with
    mans := demo.mans.set .m1 ⟨.selecting .h1, false, .selector ⟨100, 0⟩⟩
    selectors := demo.selectors.set .m1 ((demo.selectors.get .m1).set .h1 ⟨true, false⟩)
    selCircuits := demo.selCircuits.set .m1 ((demo.selCircuits.get .m1).set .h1 (some { Circuit.fresh with driven := true })) }

/-- H1 in DISCHARGING: B1 pulses in slot 1 on the CHARGED M1, B2 awaits its mark in slot 2. -/
def firing : State :=
  { reserved .discharging none with
    mans := demo.mans.set .m1 ⟨.charged .h1, false, .flow ⟨200, 0⟩⟩
    selectors := demo.selectors.set .m1 ((demo.selectors.get .m1).set .h1 ⟨true, true⟩)
    selCircuits := demo.selCircuits.set .m1 ((demo.selCircuits.get .m1).set .h1 (some { Circuit.fresh with driven := true }))
    banks := (demo.banks.set .b1 .spent).set .b2 (.firing .h1)
    nvSpent := demo.nvSpent.set .b1 true
    initiators := demo.initiators.set .b1 true
    bankCircuits := demo.bankCircuits.set .b1 { Circuit.fresh with driven := true }
    slots := ⟨.pulsing .b1 500, .marking .b2⟩
    write := some (.setMark .b2) }

/-- H1 in DISCHARGING with both banks SPENT and the discharge timer running. -/
def filling : State :=
  { firing with
    banks := (demo.banks.set .b1 .spent).set .b2 .spent
    nvSpent := (demo.nvSpent.set .b1 true).set .b2 true
    initiators := demo.initiators
    bankCircuits := demo.bankCircuits
    slots := ⟨.empty, .empty⟩
    write := none
    halls :=
      demo.halls.set .h1
        { Hall.restarted with inc := demoInc .discharging none, wait := some ⟨40, 0, false⟩, discharge := some ⟨300, 0⟩ } }

/-- H1 in SOAK with M1 venting. -/
def venting : State :=
  { filling with
    mans := demo.mans.set .m1 ⟨.venting .h1, true, .vent ⟨600, 0⟩⟩
    halls := demo.halls.set .h1 { Hall.restarted with inc := demoInc .soak none, wait := some ⟨40, 0, false⟩ } }

/-- A state whose drive line `d` ends its dwell with the third differing reading at return line `r`. -/
def near (s : State) (d r : Line) (closed : Bool) : State :=
  { s with scan := .drive d }.modContact d r fun c => { c with debounced := !closed, count := 2 }

/-- The COMMISSION key closed. -/
def keyClosed (s : State) : State := s.modContact .l7 .l3 fun c => { c with debounced := true }

/-- The four zones of a declaration. -/
def demoZones : List Zone := [⟨1, .a, .normal⟩, ⟨2, .b, .normal⟩, ⟨3, .manual, .normal⟩, ⟨4, .advisory, .normal⟩]

/-- H1's link running with that declaration. -/
def linked (s : State) : State :=
  s.modLink .h1 fun l => { l with state := .running, zones := some demoZones, silence := some ⟨10, 0⟩ }

/-- What a command leaves of a property; a stop has none. -/
def after (c : Instr) (s : State) (f : State → Bool) : Bool :=
  match exec c s with
  | .next t => f t
  | .fault _ => false
  | .refused _ => false

/-! ## WellFormed: a term that each check refuses -/

theorem test_wellFormed_payload_too_long : (Instr.cycle .station 0 (List.replicate 121 0)).wellFormed = false := by
  decide +kernel

theorem test_wellFormed_payload_longest : (Instr.cycle .station 0 (List.replicate 120 0)).wellFormed = true := by
  decide +kernel

theorem test_wellFormed_unknown_kind_is_known : (Instr.unknownKind .station 0x20 0 []).wellFormed = false := by
  decide +kernel

theorem test_wellFormed_unknown_kind : (Instr.unknownKind .station 0x03 0 []).wellFormed = true := by decide +kernel

theorem test_wellFormed_trip_past_counter : (Instr.comparatorTrip 4096).wellFormed = false := by decide +kernel

theorem test_wellFormed_trip_at_counter : (Instr.comparatorTrip 4095).wellFormed = true := by decide +kernel

/-! ## The worked cases of chapter 2, and the CRC's check value of chapter 9 -/

theorem test_case1_specific_volume : specificVolume 1269 513 15 = 1345 := by decide +kernel
theorem test_case1_required : requiredQuantity 3600 75 1345 = 21702 := by decide +kernel
theorem test_case1_estimate : estimatedConcentration 3600 24000 1448 = 89 := by decide +kernel
theorem test_case2_floor_below_zero : specificVolume 1269 513 (-10) = 1217 := by decide +kernel
theorem test_case2_required : requiredQuantity 3600 75 1217 = 23985 := by decide +kernel
theorem test_case2_estimate : estimatedConcentration 3600 24000 1433 = 88 := by decide +kernel
theorem test_case3_required : requiredQuantity 400 75 1345 = 2412 := by decide +kernel
theorem test_case3_estimate : estimatedConcentration 400 4800 1448 = 149 := by decide +kernel
theorem test_case4_required : requiredQuantity 12000 120 1371 = 119356 := by decide +kernel
theorem test_case4_estimate : estimatedConcentration 12000 39000 1422 = 45 := by decide +kernel

/-- R157's check value. -/
theorem test_crc_check_value : crc [0x31, 0x32, 0x33, 0x34, 0x35, 0x36, 0x37, 0x38, 0x39] = 0x29B1 := by
  decide +kernel

/-! ## One step of each command -/

/-- R25. -/
theorem test_restart_keeps_spent :
    after .restart firing (fun t => t.bank .b1 == .spent && t.bank .b2 == .ready && t.hallState .h1 == .quiet) = true := by
  decide +kernel

/-- R164: ACCEPTED of kind 0x01; sync, 0xFE, sequence, length 1, kind. -/
theorem test_declare :
    after (.declare (.hall .h1) 7 [1, 1, 2, 2, 0]) demo
      (fun t =>
        (t.link .h1).state == .running && ((t.port (.hall .h1)).tx.getD []).take 5 == [0xA5, 0xFE, 7, 1, 1]) = true := by
  decide +kernel

/-- R164: a repeated id is refused INVALID (code 4). -/
theorem test_declare_repeated_id :
    after (.declare (.hall .h1) 7 [1, 1, 1, 2, 0]) demo
      (fun t =>
        (t.link .h1).sticky.invalidSeen && ((t.port (.hall .h1)).tx.getD []).take 6 == [0xA5, 0xFF, 7, 2, 1, 4]) =
      true := by
  decide +kernel

/-- R46, case 1 of chapter 2: an A and a B zone in ALARM confirm; B1, B2 and B3 are reserved for 21702 at T_low 15. -/
theorem test_cycle_confirms_cross :
    after (.cycle (.hall .h1) 9 [2, 2, 0, 0, 0, 15, 35]) (linked demo)
      (fun t =>
        (t.inc .h1).cause == some .cross && (t.inc .h1).required == some 21702 && (t.inc .h1).total == 24000 &&
        (t.inc .h1).estimate == some 89 && t.hallState .h1 == .countdown && (t.inc .h1).countdown == some 300) = true := by
  decide +kernel

/-- R44: one alarm opens an incident without confirming it. -/
theorem test_cycle_alert :
    after (.cycle (.hall .h1) 9 [2, 0, 0, 0, 0, 0x80, 0x80]) (linked demo)
      (fun t => t.hallState .h1 == .alert && (t.inc .h1).latched.length == 1 && (t.inc .h1).required == none) = true := by
  decide +kernel

/-- R174: the READ_STATUS reply of an idle coordinator carries 68 bytes. -/
theorem test_readStatus :
    after (.readStatus .station 3 []) demo
      (fun t => (t.stationPort.tx.getD []).take 4 == [0xA5, 0x90, 3, 68]) = true := by
  decide +kernel

/-- R64: a hall panel reads its own hall, here H1, number 1, number 1 of its incidents. -/
theorem test_readIncident :
    after (.readIncident (.hall .h1) 3 [1]) counting
      (fun t => ((t.port (.hall .h1)).tx.getD []).drop 4 |>.take 3 |> fun l => l == [1, 0, 1]) = true := by
  decide +kernel

/-- R173: the first bank of READ_BANKS, B1 RESERVED (1) to H1 (1), MAIN on M1 (bits 0), 16 cylinders. -/
theorem test_readBanks :
    after (.readBanks (.hall .h2) 3 []) counting
      (fun t => ((t.port (.hall .h2)).tx.getD []).drop 4 |>.take 4 |> fun l => l == [1, 1, 0, 16]) = true := by
  decide +kernel

/-- R174: M1 CLAIMED (1) by H1 (1), reach 7. -/
theorem test_readManifolds :
    after (.readManifolds .station 3 []) counting
      (fun t => (t.stationPort.tx.getD []).drop 4 |>.take 3 |> fun l => l == [1, 1, 7]) = true := by
  decide +kernel

/-- R174: the link of H1, RUNNING (2). -/
theorem test_readLink :
    after (.readLink .station 3 [1]) (linked demo)
      (fun t => (t.stationPort.tx.getD []).drop 4 |>.take 2 |> fun l => l == [1, 2]) = true := by
  decide +kernel

/-- R174: seven selector circuits, none measured yet. -/
theorem test_readCircuits :
    after (.readCircuits .station 3 [2]) demo
      (fun t => (t.stationPort.tx.getD []).drop 4 |>.take 3 |> fun l => l == [2, 0, 7]) = true := by
  decide +kernel

/-- R174: 64 positions, 8 return lines and the selection make 73 bytes. -/
theorem test_readContacts :
    after (.readContacts .station 3 []) demo (fun t => (t.stationPort.tx.getD []).take 4 == [0xA5, 0x96, 3, 73]) =
      true := by
  decide +kernel

/-- R174: the site record, k1 1269 = 0x04F5, k2 513 = 0x0201, mask 63, silence 10. -/
theorem test_readPlan :
    after (.readPlan .station 3 [1, 1]) demo
      (fun t => (t.stationPort.tx.getD []).drop 4 |>.take 8 |> fun l => l == [1, 1, 4, 0xF5, 2, 1, 63, 10]) = true := by
  decide +kernel

/-- R177: a site record is taken at acceptance; the non-volatile record follows at the completion. -/
theorem test_writePlan :
    after (.writePlan .station 3 [1, 1, 4, 0xF5, 2, 1, 63, 20]) demo
      (fun t => t.work.site.silence == 20 && t.nvPlan.site.silence == 10 && t.write.isSome) = true := by
  decide +kernel

/-- R178: the record of a hall in COUNTDOWN is refused BUSY (1). -/
theorem test_writePlan_busy :
    after (.writePlan .station 3 ([4, 1] ++ (demoPlan.halls.h1).bytes)) counting
      (fun t => (t.stationPort.tx.getD []).take 6 == [0xA5, 0xFF, 3, 2, 0x20, 1]) = true := by
  decide +kernel

/-- R183: PERMANENT needs the COMMISSION key (9). -/
theorem test_setLock_key_required :
    after (.setLock .station 3 [2]) demo (fun t => (t.stationPort.tx.getD []).take 6 == [0xA5, 0xFF, 3, 2, 0x21, 9]) =
      true := by
  decide +kernel

/-- R183: KEYED from OPEN. -/
theorem test_setLock_keyed :
    after (.setLock .station 3 [1]) demo (fun t => t.work.lock == .keyed && t.write == some (.lockMode .keyed)) = true := by
  decide +kernel

/-- R21: a RESERVED bank is refused IN_USE (5). -/
theorem test_isolate_in_use :
    after (.isolate .station 3 [2, 1]) counting
      (fun t => (t.stationPort.tx.getD []).take 6 == [0xA5, 0xFF, 3, 2, 0x22, 5]) = true := by
  decide +kernel

/-- R51: isolation in COUNTDOWN returns everything. -/
theorem test_isolate_hall :
    after (.isolate .station 3 [1, 1]) counting
      (fun t => t.hallState .h1 == .inhibited && t.bank .b1 == .ready && (t.man .m1).state == .free) = true := by
  decide +kernel

/-- R52: the INHIBITED hall is attempted with its own number; W_req 21702 takes B1, B2, B3. -/
theorem test_deisolate_hall :
    after (.deisolate .station 3 [1, 1])
      ({ demo with
          work := { demo.work with hallIsolated := demo.work.hallIsolated.set .h1 true }
          halls := demo.halls.set .h1 { Hall.restarted with inc := { demoInc .inhibited none with alloc := [] } } })
      (fun t =>
        (t.inc .h1).allocBanks == [.b1, .b2, .b3] && (t.inc .h1).confNumber == some 12 &&
        t.hallState .h1 == .countdown) = true := by
  decide +kernel

/-- R58: the answer carries the hall, QUIET and the change number 1. -/
theorem test_standDown :
    after (.standDown .station 3 [1]) counting
      (fun t =>
        t.bank .b2 == .ready && (t.inc .h1).closing == some .stoodDown &&
        (t.stationPort.tx.getD []).take 9 == [0xA5, 0xFE, 3, 5, 0x24, 1, 0, 0, 1]) = true := by
  decide +kernel

/-- R58: a hall in SELECTING is refused TOO_LATE (6). -/
theorem test_standDown_too_late :
    after (.standDown .station 3 [1]) selecting
      (fun t => (t.stationPort.tx.getD []).take 6 == [0xA5, 0xFF, 3, 2, 0x24, 6]) = true := by
  decide +kernel

/-- R60. -/
theorem test_retry :
    after (.retry .station 3 [1])
      (demo.modInc .h1 fun _ => { demoInc .stalled none with alloc := [], estimate := none })
      (fun t => t.hallState .h1 == .countdown && t.bank .b3 == .reserved .h1) = true := by
  decide +kernel

/-- R23. -/
theorem test_recharged :
    after (.recharged .station 3 [5]) (keyClosed { demo with banks := demo.banks.set .b5 .spent })
      (fun t => t.bank .b5 == .ready && t.write == some (.clearMark .b5)) = true := by
  decide +kernel

/-- R23: a bank that serves the holder of its manifold is refused BUSY (1). -/
theorem test_recharged_busy :
    after (.recharged .station 3 [1]) (keyClosed venting)
      (fun t => (t.stationPort.tx.getD []).take 6 == [0xA5, 0xFF, 3, 2, 0x26, 1]) = true := by
  decide +kernel

/-- R162: P1 is not STOPPED and fails, P2 starts. -/
theorem test_linkStart :
    after (.linkStart .station 3 [3]) (demo.modLink .h2 fun _ => Link.restarted .stopped)
      (fun t =>
        (t.link .h2).state == .awaitingDeclare &&
        (t.stationPort.tx.getD []).take 6 == [0xA5, 0xFE, 3, 2, 0x27, 1]) = true := by
  decide +kernel

/-- R163. -/
theorem test_linkStop :
    after (.linkStop .station 3 [1]) (linked demo)
      (fun t => (t.link .h1).state == .stopped && (t.link .h1).zones == none) = true := by
  decide +kernel

/-- R160: refused UNKNOWN_KIND (10). -/
theorem test_unknownKind :
    after (.unknownKind .station 0x30 3 []) demo
      (fun t => (t.stationPort.tx.getD []).take 6 == [0xA5, 0xFF, 3, 2, 0x30, 10]) = true := by
  decide +kernel

/-- R158. -/
theorem test_frameBadCrc :
    after (.frameBadCrc (.hall .h1)) demo (fun t => (t.link .h1).sticky.crcSeen && (t.port (.hall .h1)).tx.isNone) =
      true := by
  decide +kernel

/-- R158. -/
theorem test_frameOverlength :
    after (.frameOverlength (.hall .h1)) demo (fun t => (t.link .h1).sticky.overlengthSeen) = true := by decide +kernel

/-- R158. -/
theorem test_frameGap :
    after (.frameGap .station) { demo with stationPort := ⟨.inFrame [0x10] 19, none⟩ }
      (fun t => t.stationPort.rx == .hunting) = true := by
  decide +kernel

/-- R159. -/
theorem test_responseEnd :
    after (.responseEnd .station) { demo with stationPort := ⟨.hunting, some [0xA5]⟩ }
      (fun t => t.listening .station) = true := by
  decide +kernel

/-- R157: the byte that completes READ_STATUS of sequence 3 brings the reply. -/
theorem test_byteReceived_completes_frame :
    (match feedBytes .station (frameBytes 0x10 3 []) demo with
      | .next t => (t.stationPort.tx.getD []).take 4 == [0xA5, 0x90, 3, 68]
      | _ => false) = true := by
  decide +kernel

/-- R166. -/
theorem test_silence :
    after (.silenceTimerExpiry .h1) (linked demo)
      (fun t => (t.link .h1).state == .silent && (t.link .h1).sticky.silenceSeen && (t.link .h1).zones.isSome) = true := by
  decide +kernel

/-- R102: 19200 against 18000, the release begins (chapter 11, at 30 s). -/
theorem test_countdownExpiry :
    after (.countdownExpiry .h1) counting
      (fun t => t.hallState .h1 == .selecting && (t.selector .m1 .h1).energised && t.write == none) = true := by
  decide +kernel

/-- R103: an empty allocation sends the hall back, where the re-examination serves it at once without a countdown. -/
theorem test_countdownExpiry_empty :
    after (.countdownExpiry .h1) emptied
      (fun t => (t.inc .h1).flags.countdownSpent && t.hallState .h1 == .selecting && t.waitList == []) = true := by
  decide +kernel

/-- R98. -/
theorem test_budgetOverride :
    after (.budgetOverride .h1) held
      (fun t =>
        t.hallState .h1 == .countdown && (t.inc .h1).countdown == some 300 && (t.inc .h1).holdUsed == 600 &&
        (t.inc .h1).flags.holdOverridden) = true := by
  decide +kernel

/-- R98: at the end of the tenth that reaches the limit of 60 s the manual event is taken first, and hold used stays
short of it; a millisecond before, the part tenth is rounded up (R96). -/
theorem test_manual_before_budget_override :
    (let at_ (ms : Nat) := (near held .l0 .l0 true).modHall .h1 fun x =>
        { x with stay := ⟨ms, true⟩, inc := { x.inc with holdUsed := 599 } };
      after (.driveDwellEnd 0x01) (at_ 100)
        (fun t =>
          t.hallState .h1 == .countdown && (t.inc .h1).holdUsed == 599 && (t.inc .h1).flags.manualOverride &&
          !(t.inc .h1).flags.holdOverridden) &&
      after (.driveDwellEnd 0x01) (at_ 99)
        (fun t => (t.inc .h1).holdUsed == 600 && !(t.inc .h1).flags.holdOverridden)) = true := by
  decide +kernel

/-- R72, R80: H1 takes B1, B2 and B3 and leaves the list, and H2 behind it finds B3 RESERVED. -/
theorem test_reexamine_serves_first :
    (let t := twoWaiting.reexamine;
      t.waitList == [.h2] && t.hallState .h1 == .countdown && t.bank .b3 == .reserved .h1) = true := by
  decide +kernel

/-- R72: with B1 isolated H1 fails and B3 is protected from H2, which takes it once it stands alone. -/
theorem test_reexamine_protects :
    (let s := { twoWaiting with work := { twoWaiting.work with bankIsolated := twoWaiting.work.bankIsolated.set .b1 true } };
      s.reexamine.waitList == [.h1, .h2] && s.reexamine.banks == s.banks &&
      { s with waitList := [.h2] }.reexamine.bank .b3 == .reserved .h2) = true := by
  decide +kernel

/-- R70. -/
theorem test_waitLimit :
    after (.waitLimitElapsing .h2) contended
      (fun t => (t.hall .h2).wait == some ⟨1200, 0, true⟩ && t.waitList == [.h2]) = true := by
  decide +kernel

/-- R110. -/
theorem test_selectorTimeout :
    after (.selectorTimeout .m1) selecting
      (fun t =>
        t.hallState .h1 == .stalled && t.bank .b1 == .ready && !(t.selector .m1 .h1).energised &&
        (t.inc .h1).estimate == none) = true := by
  decide +kernel

/-- R122. -/
theorem test_flowTimeout :
    after (.flowTimeout .m1) firing (fun t => (t.inc .h1).flags.noFlow && (t.man .m1).state == .charged .h1) = true := by
  decide +kernel

/-- R124: no flow was confirmed, so NO_FLOW is set; the vent timer runs 60 s. -/
theorem test_dischargePeriodExpiry :
    after (.dischargePeriodExpiry .h1) filling
      (fun t =>
        t.hallState .h1 == .soak && t.man .m1 == ⟨.venting .h1, false, .vent ⟨600, 0⟩⟩ && (t.inc .h1).flags.noFlow) =
      true := by
  decide +kernel

/-- R125. -/
theorem test_ventTimerExpiry :
    after (.ventTimerExpiry .m1) venting
      (fun t => t.hallState .h1 == .discharged && (t.man .m1).state == .free && !(t.selector .m1 .h1).energised) =
      true := by
  decide +kernel

/-- R117, R123: B2 still awaits its mark, so the discharge timer does not start. -/
theorem test_pulseEnd :
    after (.pulseEnd .s1) firing
      (fun t => t.slots.get .s1 == .empty && (t.hall .h1).discharge == none && !(t.initiators.get .b1)) = true := by
  decide +kernel

/-- R118: the mark is recorded and the pulse begins. -/
theorem test_spentMarkCompletion :
    after .spentMarkCompletion firing
      (fun t =>
        t.bank .b2 == .spent && t.nvSpent.get .b2 && t.initiators.get .b2 && t.slots.get .s2 == .pulsing .b2 500 &&
        t.write == none) = true := by
  decide +kernel

/-- R179: the flag write completes and the mark behind it begins. -/
theorem test_storeWriteCompletion :
    after .storeWriteCompletion { demo with write := some (.bankIsolated .b3 true), markQueue := [.b1] }
      (fun t => t.nvPlan.bankIsolated.get .b3 && t.write == some (.setMark .b1) && t.markQueue == []) = true := by
  decide +kernel

/-- R132, R135: after B1 comes B2, with the preset 4095 - 2400 = 1695 of chapter 7. -/
theorem test_measurementInterval :
    after .measurementInterval { demo with position := some (.bank .b1) }
      (fun t => t.measuring == some ⟨.bank .b2, 2400, 300, 1695⟩) = true := by
  decide +kernel

/-- Chapter 7's reading 5: a trip at counter 1815 is count 120, SHORT. -/
theorem test_comparatorTrip :
    after (.comparatorTrip 120) { demo with measuring := some ⟨.bank .b2, 2400, 300, 1695⟩ }
      (fun t =>
        (t.bankCircuits.get .b2).last == .count 120 && (t.bankCircuits.get .b2).condition == .shortCircuit) = true := by
  decide +kernel

/-- Chapter 7's reading 8: the third OPEN in a row makes the condition OPEN. -/
theorem test_counterPasses4095 :
    after .counterPasses4095
      { demo with
        measuring := some ⟨.bank .b2, 2400, 300, 1695⟩
        bankCircuits := demo.bankCircuits.set .b2 ⟨.over, .normal, some ⟨.openCircuit, 2⟩, false⟩ }
      (fun t => t.bankCircuits.get .b2 == ⟨.over, .openCircuit, none, false⟩) = true := by
  decide +kernel

/-- R148, R45: H1's MANUAL contact, drive line 0, return line 0, closes at its third reading. -/
theorem test_driveDwellEnd :
    after (.driveDwellEnd 0x01) (near demo .l0 .l0 true)
      (fun t => (t.inc .h1).cause == some .localManual && t.hallState .h1 == .countdown && t.scan == .drive .l1) =
      true := by
  decide +kernel

/-- R111: the last proven contact, drive line 0, return line 3, takes both banks into slots (chapter 11, at 30.5 s). -/
theorem test_driveDwellEnd_proven :
    after (.driveDwellEnd 0x08) (near selecting .l0 .l3 true)
      (fun t =>
        t.hallState .h1 == .discharging && t.slots == ⟨.marking .b1, .marking .b2⟩ && t.write == some (.setMark .b1) &&
        t.markQueue == [.b2]) = true := by
  decide +kernel

/-- R150. -/
theorem test_darkDwellEnd :
    after (.darkDwellEnd 0x04) { demo with scan := .dark }
      (fun t => t.returns.get .l2 == ⟨true, 0⟩ && t.returns.get .l1 == ⟨false, 0⟩ && t.scan == .drive .l0) = true := by
  decide +kernel

/-- R90: the hundredth millisecond of a tenth takes one tenth off (the idle step, log entry 2). -/
theorem test_tick_counts_down :
    (match step (counting.modHall .h1 fun x => { x with stay := ⟨99, false⟩ }) with
      | .next t => (t.inc .h1).countdown == some 299
      | _ => false) = true := by
  decide +kernel

/-- R90, R102: the last tenth expires (the idle step, log entry 2). -/
theorem test_tick_expires :
    (match step ((reserved .countdown (some 1)).modHall .h1 fun x => { x with stay := ⟨99, false⟩ }) with
      | .next t => t.hallState .h1 == .selecting
      | _ => false) = true := by
  decide +kernel

/-! ## Witnesses: states and operands that meet the hypotheses of the statements -/

/-- H1 in ALERT, its zone 1 of group A latched at 5 s, the fallback on, its link awaiting a declaration. -/
def alerted : State :=
  { demo with
    work := { demo.work with halls := demo.work.halls.set .h1 { demoPlan.halls.h1 with fallback := true } }
    halls :=
      demo.halls.set .h1
        { Hall.restarted with
          inc := { Incident.empty with number := 1, isOpen := true, state := .alert, latched := [⟨1, .a, 5⟩] }
          clock := ⟨7, 0⟩ } }

/-- H1 held by its panel alone. -/
def panelHeld : State := (linked held).modLink .h1 fun l => { l with hold := true }

/-- The laws of the tables hold of a countdown and of a release with both banks RESERVED. -/
theorem reserved_tableLaw {s : State} (hs : s = counting ∨ s = selecting ∨ s = shared) : s.tableLaw := by
  refine ⟨⟨?_, ?_⟩, ?_, ?_, ?_, ⟨?_, ?_⟩, ?_⟩
  · intro h; rcases hs with rfl | rfl | rfl <;> cases h <;> decide +kernel
  · rcases hs with rfl | rfl | rfl <;> decide +kernel
  · intro b
    rcases hs with rfl | rfl | rfl <;> cases b <;>
      first | exact True.intro | exact ⟨by decide +kernel, by decide +kernel, by decide +kernel⟩
  · intro m
    rcases hs with rfl | rfl | rfl <;> cases m <;>
      first
      | exact True.intro
      | exact ⟨.inl (by decide +kernel), .b1, by decide +kernel, by decide +kernel⟩
      | exact ⟨.inl (by decide +kernel), .b5, by decide +kernel, by decide +kernel⟩
      | exact .inl ⟨by decide +kernel, .b1, by decide +kernel, by decide +kernel⟩
  · intro h
    rcases hs with rfl | rfl | rfl <;> cases h <;>
      refine ⟨fun _ b hb => ?_, fun hh => absurd hh (by decide +kernel), fun hh => ?_⟩ <;>
      first
      | (cases b <;> first | decide +kernel | exact absurd hb (by decide +kernel))
      | decide +kernel
      | exact absurd hh (by decide +kernel)
  · rcases hs with rfl | rfl | rfl <;> decide +kernel
  · intro b
    constructor
    · rintro ⟨h, hh⟩; rcases hs with rfl | rfl | rfl <;> cases b <;> cases h <;> exact absurd hh (by decide +kernel)
    · rintro (hq | ⟨i, hi⟩)
      · rcases hs with rfl | rfl | rfl <;> exact absurd hq List.not_mem_nil
      · rcases hs with rfl | rfl | rfl <;> cases i <;> cases b <;> exact absurd hi (by decide +kernel)
  · intro h; rcases hs with rfl | rfl | rfl <;> cases h <;> exact fun hh => absurd hh (by decide +kernel)

/-- The laws of the tables do not look at the matrix. -/
theorem near_tableLaw {s : State} (law : s.tableLaw) (d r : Line) (closed : Bool) : (near s d r closed).tableLaw := law

/-- The machine. -/
theorem witness_StepTakesFrontCommand : step { demo with pending := [.restart] } = exec .restart { demo with pending := [] } :=
  rfl

/-- The longest payload, and the least one. -/
theorem witness_FrameBytesAreTheRow :
    demo.portReady .station ∧ demo.portReady (.hall .h6) ∧ (List.replicate 120 (0 : Byte)).length ≤ 120 ∧
    ([] : List Byte).length ≤ 120 ∧ ¬ (0x03 : Byte) ∈ requestKindCodes := by
  unfold State.portReady; decide +kernel

theorem witness_WrongCrcIsDiscarded :
    demo.portReady .station ∧ ([] : List Byte).length ≤ 120 ∧
    ¬ ([0, 0] : List Byte) = crcBytes (frameBody 0x10 3 []) := by
  unfold State.portReady; decide +kernel

theorem witness_DiscardedFrames :
    demo.listening (.hall .h1) = true ∧ demo.listening .station = true ∧
    { demo with stationPort := ⟨.hunting, some []⟩ }.listening .station = false ∧
    (({ demo with hallPorts := demo.hallPorts.set .h2 ⟨.inFrame [1] 20, none⟩ }).port (.hall .h2)).rx = .inFrame [1] 20 ∧
    { demo with stationPort := ⟨.inFrame [] 0, none⟩ }.stationPort.rx = .inFrame [] 0 ∧
    (demo.port .station).rx = .hunting := by
  decide +kernel

theorem witness_ResponseEndAndDeafPorts :
    (({ demo with stationPort := ⟨.hunting, some [0xA5]⟩ }).port .station).tx = some [0xA5] ∧
    (demo.modLink .h3 Link.stop).listening (.hall .h3) = false := by
  decide +kernel

/-- The lengths 0, 1 and 2 taken, and the length bytes 120 and 121. -/
theorem witness_ByteReceivedStepsReceiver :
    demo.listening .station = true ∧ (demo.port .station).rx = .hunting ∧
    { demo with stationPort := ⟨.inFrame [1] 3, none⟩ }.listening .station = true ∧
    (({ demo with stationPort := ⟨.inFrame [1] 3, none⟩ }).port .station).rx = .inFrame [1] 3 ∧
    { demo with stationPort := ⟨.inFrame [1, 2] 3, none⟩ }.listening .station = true ∧
    (({ demo with stationPort := ⟨.inFrame [1, 2] 3, none⟩ }).port .station).rx = .inFrame [1, 2] 3 ∧
    120 < (121 : Byte).toNat ∧ (120 : Byte).toNat ≤ 120 := by
  decide +kernel

/-- One kind for each of the checks 2 to 5 of R160. -/
theorem witness_AdmissionRefusals :
    demo.portReady (.hall .h1) ∧ demo.portReady .station ∧ ¬ (0x29 : Byte) ∈ requestKindCodes ∧
    Kind.isolate.permitted (.hall .h1) = false ∧
    (Kind.cycle.permitted (.hall .h1) = true ∧ demo.linkAllows .cycle (.hall .h1) = false) ∧
    (Kind.retry.permitted .station = true ∧ demo.linkAllows .retry .station = true ∧
      requestOf (demo.declaredCount .station) .retry [7] = none) ∧
    (Kind.declare.permitted (.hall .h1) = true ∧ demo.linkAllows .declare (.hall .h1) = true ∧
      requestOf (demo.declaredCount (.hall .h1)) .declare [1] = none) := by
  unfold State.portReady; decide +kernel

theorem witness_ReadsReplyAndChangeNothing : counting.portReady .station ∧ counting.portReady (.hall .h1) := by
  unfold State.portReady; decide +kernel

/-- One zone, and sixteen; and in ALERT a declaration without group B, which confirms by the fallback, and one with
it. -/
theorem witness_DeclareIsAccepted :
    demo.portReady (.hall .h1) ∧ (demo.link .h1).state = .awaitingDeclare ∧
    (let one : List (Byte × ZoneGroup) := [(255, .advisory)];
      1 ≤ one.length ∧ one.length ≤ 16 ∧ (one.map Prod.fst).Nodup ∧ ¬ (0 : Byte) ∈ one.map Prod.fst) ∧
    (let full : List (Byte × ZoneGroup) := (List.range 16).map fun n => (BitVec.ofNat 8 (n + 1), .a);
      1 ≤ full.length ∧ full.length ≤ 16 ∧ (full.map Prod.fst).Nodup ∧ ¬ (0 : Byte) ∈ full.map Prod.fst) ∧
    alerted.portReady (.hall .h1) ∧ (alerted.link .h1).state = .awaitingDeclare ∧ alerted.hallState .h1 = .alert ∧
    (alerted.hallPlan .h1).confirmsBy [⟨1, .a, .normal⟩] (alerted.inc .h1).latched .fallback ∧
    ∀ cause, ¬ (alerted.hallPlan .h1).confirmsBy [⟨1, .a, .normal⟩, ⟨2, .b, .normal⟩] (alerted.inc .h1).latched cause := by
  refine ⟨by unfold State.portReady; decide +kernel, by decide +kernel, by decide +kernel, by decide +kernel,
    by unfold State.portReady; decide +kernel, by decide +kernel, by decide +kernel, ?_, ?_⟩
  · show _ = _ ∧ _ = _ ∧ _
    unfold unavailable
    decide +kernel
  · intro cause
    cases cause
    case cross => show ¬ (_ = _ ∧ _); decide +kernel
    case double => show ¬ (_ = _ ∧ _); decide +kernel
    case fallback => show ¬ (_ = _ ∧ _ = _ ∧ _); unfold unavailable; decide +kernel
    all_goals exact id

/-- The hypotheses on the request; a QUIET hall without and with an alarm; then each state's cases: a manual event, a zone
that confirms and one that does not, a hold that begins, one that ends, and a manual delay of 0. -/
theorem witness_CycleIsAccepted :
    (∀ s ∈ [linked demo, linked alerted, linked counting, panelHeld], s.portReady (.hall .h1) ∧
      (s.link .h1).state = .running ∧ (s.link .h1).zones = some demoZones) ∧
    ([.alarm, .fault, .normal, .prealarm] : List ZoneState).length = demoZones.length ∧ demoZones.length ≤ 16 ∧
    (-40 : Int) ≤ -40 ∧ (85 : Int) ≤ 85 ∧ (demoZones.map Zone.id).Nodup ∧
    List.zipWith (fun (z : Zone) x => { z with held := x }) demoZones [.alarm, .fault, .normal, .prealarm] =
      [⟨1, .a, .alarm⟩, ⟨2, .b, .fault⟩, ⟨3, .manual, .normal⟩, ⟨4, .advisory, .prealarm⟩] ∧
    (linked demo).hallState .h1 = .quiet ∧
    (∀ z ∈ withStates demoZones [.normal, .fault, .normal, .alarm], z.held = .alarm → z.group = .advisory) ∧
    (∃ z ∈ withStates demoZones [.alarm, .fault, .normal, .normal], z.held = .alarm ∧ ¬ z.group = .advisory) ∧
    ((linked alerted).hallState .h1 = .alert ∧
      alerted.latchedNow .h1 (withStates demoZones [.alarm, .normal, .alarm, .normal]) = [⟨3, .manual, 7⟩] ∧
      alerted.latchedNow .h1 (withStates demoZones [.alarm, .alarm, .normal, .normal]) = [⟨2, .b, 7⟩] ∧
      alerted.latchedNow .h1 (withStates demoZones [.alarm, .normal, .normal, .normal]) = [] ∧
      (alerted.hallPlan .h1).confirmsBy (withStates demoZones [.alarm, .alarm, .normal, .normal])
        ([⟨1, .a, 5⟩] ++ [⟨2, .b, 7⟩]) .cross ∧
      ∀ c, ¬ (alerted.hallPlan .h1).confirmsBy (withStates demoZones [.alarm, .normal, .normal, .normal]) [⟨1, .a, 5⟩] c) ∧
    ((linked counting).hallState .h1 = .countdown ∧ counting.waitList = [] ∧
      (∃ e ∈ counting.latchedNow .h1 (withStates demoZones [.normal, .normal, .alarm, .normal]), e.group = .manual) ∧
      0 < counting.manualRemaining .h1 ∧
      (let s :=
          { counting with
            work :=
              { counting.work with halls := counting.work.halls.set .h1 { demoPlan.halls.h1 with manualDelay := 0 } } };
        s.manualRemaining .h1 = 0) ∧
      (linked counting).holdDemand .h1 = false ∧
      ((linked counting).modLink .h1 fun l => { l with hold := true }).holdDemand .h1 = true) ∧
    (panelHeld.hallState .h1 = .held ∧ panelHeld.holdDemand .h1 = true ∧ (linked held).holdDemand .h1 = false) ∧
    (linked selecting).hallState .h1 = .selecting := by
  refine ⟨?_, by decide +kernel, by decide +kernel, by decide +kernel, by decide +kernel, by decide +kernel,
    by decide +kernel, by decide +kernel, by decide +kernel, by decide +kernel,
    ⟨by decide +kernel, by decide +kernel, by decide +kernel, by decide +kernel, ?_, ?_⟩, by decide +kernel,
    by decide +kernel, by decide +kernel⟩
  · unfold State.portReady; decide +kernel
  · show _ = _ ∧ _; decide +kernel
  · intro cause
    cases cause
    case cross => show ¬ (_ = _ ∧ _); decide +kernel
    case double => show ¬ (_ = _ ∧ _); decide +kernel
    case fallback => show ¬ (_ = _ ∧ _ = _ ∧ _); unfold unavailable; decide +kernel
    all_goals exact id

/-- H1 held by the panel alone, and by its contact. -/
theorem witness_SilenceExpiryReleasesPanelHold :
    (let s := (linked held).modLink .h1 fun l => { l with hold := true };
      (s.link .h1).state = .running ∧ (s.link .h1).silence = some ⟨10, 0⟩ ∧ s.hallState .h1 = .held ∧
      s.holdContact .h1 = false ∧ (s.link .h1).hold = true) ∧
    (let s := (linked held).modContact .l0 .l1 fun c => { c with debounced := true };
      (s.link .h1).state = .running ∧ (s.link .h1).silence = some ⟨10, 0⟩ ∧ s.holdContact .h1 = true) := by
  decide +kernel

/-- The least and the fullest mask. -/
theorem witness_LinkStartStartsStoppedPorts :
    demo.portReady .station ∧ portMaskOf 1 = some ⟨true, false, false, false, false, false⟩ ∧
    portMaskOf 63 = some (PerHall.fill true) ∧
    ((demo.modLink .h1 Link.stop).link .h1).state = .stopped ∧
    (demo.modLink .h1 Link.stop).work.site.portMask.get .h1 = true := by
  unfold State.portReady; decide +kernel

/-- The least and the fullest mask; a port that runs and one that is stopped; a hall held by its panel alone, and by its
contact. -/
theorem witness_LinkStopStopsSelectedPorts :
    panelHeld.portReady .station ∧ portMaskOf 1 = some ⟨true, false, false, false, false, false⟩ ∧
    portMaskOf 63 = some (PerHall.fill true) ∧ portMaskOf 0 = none ∧ portMaskOf 64 = none ∧
    ¬ (panelHeld.link .h1).state = .stopped ∧ ((panelHeld.modLink .h2 Link.stop).link .h2).state = .stopped ∧
    (panelHeld.hallState .h1 = .held ∧ panelHeld.holdContact .h1 = false ∧ (panelHeld.link .h1).state = .running ∧
      (panelHeld.link .h1).hold = true) ∧
    (panelHeld.modContact .l0 .l1 fun c => { c with debounced := true }).holdContact .h1 = true := by
  unfold State.portReady; decide +kernel

/-- The four kinds of records. -/
theorem witness_WritePlanIsAccepted :
    demo.portReady .station ∧ demo.planLocked = false ∧ demo.write = none ∧ demo.markQueue = [] ∧
    (recordKindOf 1 = some .site ∧ planBodyFits .site demoPlan.site.bytes = true ∧
      planEditOf .site 1 demoPlan.site.bytes = some (.site demoPlan.site) ∧
      demo.ownerAllows (.site demoPlan.site) = true) ∧
    (recordKindOf 2 = some .man ∧ planBodyFits .man demoPlan.mans.m2.bytes = true ∧
      planEditOf .man 2 demoPlan.mans.m2.bytes = some (.man .m2 demoPlan.mans.m2) ∧
      demo.ownerAllows (.man .m2 demoPlan.mans.m2) = true) ∧
    (recordKindOf 3 = some .bank ∧ planBodyFits .bank demoPlan.banks.b4.bytes = true ∧
      planEditOf .bank 8 demoPlan.banks.b4.bytes = some (.bank .b8 demoPlan.banks.b4) ∧
      demo.ownerAllows (.bank .b8 demoPlan.banks.b4) = true) ∧
    (recordKindOf 4 = some .hall ∧ planBodyFits .hall demoPlan.halls.h1.bytes = true ∧
      planEditOf .hall 1 demoPlan.halls.h1.bytes = some (.hall .h1 demoPlan.halls.h1) ∧
      demo.ownerAllows (.hall .h1 demoPlan.halls.h1) = true) := by
  unfold State.portReady; decide +kernel

theorem witness_WritePlanRefusals :
    counting.portReady .station ∧ recordKindOf 4 = some .hall ∧
    planBodyFits .hall demoPlan.halls.h1.bytes = true ∧
    { counting with overlay := true }.planLocked = true ∧
    (counting.planLocked = false ∧ { counting with write := some (.lockMode .keyed) }.write.isSome = true) ∧
    (counting.write = none ∧ counting.markQueue = [] ∧
      planEditOf .hall 7 demoPlan.halls.h1.bytes = none) ∧
    (planEditOf .hall 1 demoPlan.halls.h1.bytes = some (.hall .h1 demoPlan.halls.h1) ∧
      counting.ownerAllows (.hall .h1 demoPlan.halls.h1) = false) := by
  unfold State.portReady; decide +kernel

/-- Records with fields at the ends of their ranges. -/
theorem witness_PlanRecordsReadBack :
    ({ k1 := 9999, k2 := 9999, portMask := PerHall.fill true, silence := 50 } : SitePlan).valid = true ∧
    ({ demoPlan.mans.m1 with openLimit := 16, shortLimit := 15, ventTime := 300 } : ManPlan).valid = true ∧
    ({ demoPlan.banks.b1 with cylinders := 16, fill := 2000, openLimit := 4095, shortLimit := 4094 } : BankPlan).valid =
      true ∧
    ({ demoPlan.halls.h1 with
        volume := 65535, design := 150, maximum := 300, designLow := -10, designHigh := 50, autoDelay := 0
        manualDelay := 60, holdLimit := 600, restartFloor := 30, waitLimit := 600, discharge := 120
        preference := BankId.all } : HallPlan).valid = true ∧
    ({ k1 := 1000, k2 := 1000, portMask := PerHall.fill true, silence := 5 } : SitePlan).valid = true ∧
    ({ k1 := 1000, k2 := 1001, portMask := PerHall.fill true, silence := 5 } : SitePlan).valid = false ∧
    ({ demoPlan.mans.m1 with openLimit := 16, shortLimit := 16 } : ManPlan).valid = false ∧
    ({ demoPlan.halls.h1 with preference := [.b1, .b2, .b1] } : HallPlan).valid = false ∧
    planBodyFits .site demoPlan.site.bytes = true ∧
    planEditOf .site 1 demoPlan.site.bytes = some (.site demoPlan.site) := by
  decide +kernel

theorem witness_SetLockFollowsItsTable :
    demo.portReady .station ∧ 3 < (4 : Byte).toNat ∧ (3 : Byte).toNat ≤ 3 ∧ demo.write = none ∧ demo.markQueue = [] ∧
    demo.work.lock = .openMode ∧ demo.commissionKey = false ∧ (keyClosed demo).commissionKey = true ∧
    { demo with work := { demo.work with lock := .permanent } }.work.lock = .permanent := by
  unfold State.portReady; decide +kernel

/-- A store that is PERMANENT, with a plan write that was accepted before. -/
theorem witness_PermanentLockIsNeverLeft :
    (let p : Plan := { demoPlan with lock := .permanent };
      let s := { demo with work := p, nvPlan := p, pending := [.setLock .station 1 [0]] }
      s.storeLaw ∧ s.work.lock = .permanent ∧ s.nvPlan.lock = .permanent ∧ ∃ t, step s = .next t) :=
  ⟨⟨rfl, fun _ => rfl⟩, rfl, rfl, _, rfl⟩

theorem witness_IsolateBankSetsFlag :
    counting.portReady .station ∧ counting.write = none ∧ counting.markQueue = [] ∧
    counting.bank .b1 = .reserved .h1 ∧ counting.bank .b3 = .ready ∧ firing.write.isSome = true := by
  unfold State.portReady; decide +kernel

theorem witness_IsolateHallInhibits :
    counting.portReady .station ∧ counting.write = none ∧ counting.markQueue = [] ∧
    counting.work.hallIsolated.get .h1 = false ∧ counting.hallState .h1 = .countdown ∧ ¬ .h1 ∈ counting.waitList ∧
    contended.hallState .h2 = .waiting ∧ counting.hallState .h2 = .quiet ∧ selecting.hallState .h1 = .selecting ∧
    (({ counting with
        work := { counting.work with hallIsolated := PerHall.fill true } }).work.hallIsolated.get .h2 = true ∧
      (counting.hallState .h2).releasing = false) := by
  unfold State.portReady; decide +kernel

/-- A hall INHIBITED by isolation alone. -/
def inhibited : State :=
  { demo with
    work := { demo.work with hallIsolated := demo.work.hallIsolated.set .h1 true, bankIsolated := PerBank.fill true }
    halls := demo.halls.set .h1 { Hall.restarted with inc := { demoInc .inhibited none with alloc := [] } } }

theorem witness_DeisolateReturnsToService :
    inhibited.portReady .station ∧ inhibited.write = none ∧ inhibited.markQueue = [] ∧
    inhibited.work.bankIsolated.get .b1 = true ∧ inhibited.waitList = [] ∧
    inhibited.work.hallIsolated.get .h1 = true ∧ inhibited.hallState .h1 = .inhibited ∧
    inhibited.lockout .h1 = false ∧ inhibited.work.hallIsolated.get .h2 = false ∧
    demo.work.bankIsolated.get .b1 = false := by
  unfold State.portReady; decide +kernel

theorem witness_RechargedReturnsBank :
    (let s := keyClosed { demo with banks := demo.banks.set .b5 .spent };
      s.portReady .station ∧ s.write = none ∧ s.markQueue = [] ∧ s.commissionKey = true ∧ s.bank .b5 = .spent ∧
      ¬ s.bank .b6 = .spent ∧ s.lowPressure .b5 = false ∧ s.holder (s.manifoldOf .b5) = none ∧ s.waitList = []) ∧
    (let s := keyClosed venting;
      s.holder (s.manifoldOf .b1) = some .h1 ∧ .b1 ∈ (s.inc .h1).allocBanks) ∧
    demo.commissionKey = false := by
  unfold State.portReady; decide +kernel

/-- A STALLED hall. -/
def stalled : State := demo.modInc .h1 fun _ => { demoInc .stalled none with alloc := [], estimate := none }

theorem witness_StandDownClosesIncident :
    counting.portReady .station ∧ (counting.hallState .h1).releasing = false ∧ ¬ counting.hallState .h1 = .quiet ∧
    counting.hallState .h2 = .quiet ∧ venting.hallState .h1 = .soak ∧
    held.portReady .station ∧ (held.hallState .h1).releasing = false ∧ held.hallState .h1 = .held ∧
    stalled.portReady .station ∧ stalled.hallState .h1 = .stalled := by
  unfold State.portReady; decide +kernel

theorem witness_RetryAttemptsStalledHall :
    stalled.portReady .station ∧ stalled.hallState .h1 = .stalled ∧ stalled.withheld .h1 = false ∧
    (stalled.modContact .l0 .l2 fun c => { c with debounced := true }).withheld .h1 = true ∧
    ¬ stalled.hallState .h2 = .stalled ∧
    stalled.attemptSucceeds .h1 (stalled.attemptTakes .h1 (stalled.protectedFrom .h1)) = true ∧
    (let s := stalled.setBank .b1 .spent;
      s.attemptSucceeds .h1 (s.attemptTakes .h1 (s.protectedFrom .h1)) = false) := by
  unfold State.portReady; decide +kernel

/-- The quantity of case 1 of chapter 2: the walk takes B1, B2 and B3, since B1 and B2 fall short; without B2 it ends short
with the list; in H2 one bank is enough. H1 ranks before H2 with the lower number, and with equal numbers. -/
theorem witness_WalkTakesShortestPrefix :
    demo.computeRequired .h1 = 21702 ∧ demo.preference .h1 = [.b1, .b2, .b3] ∧
    demo.attemptTakes .h1 [] = [.b1, .b2, .b3] ∧ demo.attemptTakes .h1 [.b2] = [.b1, .b3] ∧
    demo.sumOf [.b1, .b2] = 19200 ∧ demo.attemptSucceeds .h1 [.b1, .b2, .b3] = true ∧
    demo.attemptSucceeds .h1 [.b1, .b3] = false ∧ demo.attemptTakes .h2 [] = [.b3] ∧
    demo.computeRequired .h2 ≤ 4800 ∧ demo.eligible .h1 .b4 = false ∧
    (twoWaiting.inc .h1).confNumber = some 12 ∧ (twoWaiting.inc .h2).confNumber = some 13 ∧
    twoWaiting.ranksBefore .h1 .h2 = true ∧ twoWaiting.protectedFrom .h1 = [] ∧
    twoWaiting.protectedFrom .h2 = [.b1, .b2, .b3] ∧
    (let s := twoWaiting.modInc .h2 fun i => { i with confNumber := some 12 };
      s.ranksBefore .h1 .h2 = true ∧ s.ranksBefore .h2 .h1 = false) ∧
    (twoWaiting.inc .h1).cause = some .localManual ∧ (twoWaiting.inc .h1).flags.concHigh = false ∧
    twoWaiting.startDelay .h1 = 10 ∧ (twoWaiting.inc .h2).cause = some .cross ∧
    (twoWaiting.inc .h2).manualSeen = false ∧ twoWaiting.startDelay .h2 = 30 ∧
    ((twoWaiting.setConcHigh .h1).inc .h1).flags.concHigh = true ∧ (twoWaiting.setConcHigh .h1).startDelay .h1 = 30 := by
  decide +kernel

/-- An empty queue; a countdown that runs its last millisecond; and the three outcomes of R102, the first at the required
quantity itself. -/
theorem witness_TimeRunsAndCountdownExpires :
    demo.pending = [] ∧
    ((reserved .countdown (some 1)).modHall .h1 fun x => { x with stay := ⟨100, false⟩ }).rowDue (.countdownExpiry .h1) =
      true ∧
    counting.hallState .h1 = .countdown ∧ ¬ .h1 ∈ counting.waitList ∧ ¬ (counting.inc .h1).alloc = [] ∧
    (let s := counting.modInc .h1 fun i => { i with required := some 19200 };
      s.recordedRequired .h1 ≤ (s.inc .h1).total) ∧
    (let s := counting.modInc .h1 fun i => { i with required := some 19201 };
      (s.inc .h1).total < s.recordedRequired .h1 ∧ (s.hallPlan .h1).partialPermitted = false ∧
      (s.inc .h1).flags.isPartial = false ∧ ((s.setPartial .h1).inc .h1).flags.isPartial = true) ∧
    ((emptied.inc .h1).alloc = [] ∧ emptied.hallState .h1 = .countdown ∧ ¬ .h1 ∈ emptied.waitList) ∧
    (shared.hallState .h3 = .countdown ∧ ¬ .h3 ∈ shared.waitList ∧ shared.waitList = [.h2] ∧
      (let s := shared.modInc .h3 fun i => { i with required := some 15001 };
        (s.inc .h3).total < s.recordedRequired .h3 ∧ (s.hallPlan .h3).partialPermitted = false)) := by
  decide +kernel

theorem witness_WaitLimitBringsPartialMode :
    (contended.hall .h2).wait = some ⟨10, 0, false⟩ ∧ (counting.hall .h1).wait = some ⟨40, 0, false⟩ ∧
    counting.waitList = [] ∧ ¬ .h1 ∈ contended.waitList ∧ (demo.hall .h1).wait = none := by
  decide +kernel

theorem witness_SelectorTimeoutStallsHall :
    (selecting.man .m1).state = .selecting .h1 ∧ (selecting.man .m1).timer = .selector ⟨100, 0⟩ ∧
    selecting.hallState .h1 = .selecting ∧ ¬ .h1 ∈ selecting.waitList ∧ (selecting.man .m2).timer = .stopped := by
  decide +kernel

theorem witness_FlowIsConfirmedOrMissed :
    (near firing .l7 .l0 true).sees .l7 .l0 true 0x01 ∧ (firing.man .m1).state = .charged .h1 ∧
    (firing.man .m1).timer = .flow ⟨200, 0⟩ ∧ (firing.man .m2).timer = .stopped := by
  unfold State.sees; decide +kernel

theorem witness_DischargeExpiryVentsManifolds :
    filling.hallState .h1 = .discharging ∧ (filling.hall .h1).discharge = some ⟨300, 0⟩ ∧
    (filling.hall .h2).discharge = none := by
  decide +kernel

theorem witness_VentExpiryFreesManifold :
    (venting.man .m1).state = .venting .h1 ∧ (venting.man .m1).timer = .vent ⟨600, 0⟩ ∧ ¬ .h1 ∈ venting.waitList ∧
    venting.waitList = [] ∧ venting.hallState .h1 = .soak ∧ ¬ venting.holder .m2 = some .h1 ∧
    (venting.man .m2).timer = .stopped := by
  decide +kernel

/-- An empty queue; and a waiting bank with the other slot taken, the store idle and busy. -/
theorem witness_PulseEndEmptiesSlot :
    firing.slots.get .s1 = .pulsing .b1 500 ∧ firing.queue = [] ∧ firing.slots.get .s2 = .marking .b2 ∧
    { firing with queue := [.b3] }.queue = .b3 :: [] ∧ ¬ firing.slots.get .s2 = .empty ∧ firing.write.isSome = true ∧
    (let s := { filling with slots := ⟨.pulsing .b2 0, .empty⟩ };
      s.holder (s.manifoldOf .b2) = some .h1 ∧ s.hallState .h1 = .discharging ∧ .b2 ∈ (s.inc .h1).allocBanks ∧
      s.bank .b1 = .spent ∧ s.bank .b2 = .spent ∧ s.queue = [] ∧ s.write = none) := by
  decide +kernel

theorem witness_SpentMarkCompletionFiresBank :
    firing.write = some (.setMark .b2) ∧ firing.slots.get .s2 = .marking .b2 ∧
    ¬ firing.slots.get .s1 = .marking .b2 ∧ filling.write = none := by
  decide +kernel

theorem witness_SpentMarkBeforePulse :
    ∃ t, step { firing with pending := [.spentMarkCompletion] } = .next t ∧
      firing.initiators.get .b2 = false ∧ t.initiators.get .b2 = true :=
  ⟨_, rfl, by decide +kernel, by decide +kernel⟩

theorem witness_StoreWriteCompletionCommits :
    { demo with write := some (.bankIsolated .b3 true) }.write = some (.bankIsolated .b3 true) ∧
    demo.write = none ∧ firing.write = some (.setMark .b2) := by
  decide +kernel

/-- B1 is passed over as driven; the last place wraps to B1. -/
theorem witness_IntervalMeasuresNextCircuit :
    rotationFrom firing.position = [] ++ .bank .b1 :: (rotationOrder.drop 1) ∧
    (let s := { demo with position := some (.selector .m2 .h6) };
      rotationFrom s.position = [] ++ .bank .b1 :: (rotationOrder.drop 1) ∧ s.measurable (.bank .b1) = true) ∧
    firing.measurable (.bank .b1) = false ∧ firing.measurable (.bank .b2) = true ∧
    rotationFrom firing.position = [.bank .b1] ++ .bank .b2 :: (rotationOrder.drop 2) ∧ demo.measuring = none := by
  decide +kernel

/-- Trips below S, at S and at L of the limits 300 and 2400. -/
theorem witness_MeasurementEndsInReading :
    { demo with measuring := some ⟨.bank .b2, 2400, 300, 1695⟩ }.measuring = some ⟨.bank .b2, 2400, 300, 1695⟩ ∧
    demo.circuit (.bank .b2) = some Circuit.fresh ∧ 299 < 300 ∧ 299 ≤ 2400 ∧ 300 ≤ 300 ∧ 2400 ≤ 2400 ∧
    Circuit.fresh.condition = .untested ∧
    (let x : Circuit := ⟨.over, .normal, some ⟨.openCircuit, 2⟩, false⟩;
      ¬ x.condition = .untested ∧ ¬ x.condition = Reading.openCircuit.condition ∧
      x.run = some ⟨.openCircuit, 2⟩ ∧ 3 ≤ 2 + 1 ∧ 1 + 1 < 3 ∧ x.condition = Reading.normal.condition) := by
  decide +kernel

/-- Low pressure of a RESERVED bank, of another, and its end; the RESERVE key turned with and without RESERVED banks of
the other role, of one hall and of two; a reading that faults the circuit of a RESERVED bank or of its selector, and one
that mends a circuit; with the laws of the tables, and one hall waiting. -/
theorem witness_LowPressureWithdrawsBank :
    ((near counting .l6 .l0 true).sees .l6 (bankLine .b1) true 0x01 ∧
      (near counting .l6 .l0 true).bank .b1 = .reserved .h1 ∧
      (near counting .l6 .l0 true).hallState .h1 = .countdown ∧ ¬ .h1 ∈ (near counting .l6 .l0 true).waitList ∧
      (near counting .l6 .l7 true).sees .l6 (bankLine .b8) true 0x80 ∧
      (near counting .l6 .l7 true).bank .b8 = .ready ∧
      (near counting .l6 .l7 false).sees .l6 (bankLine .b8) false 0x00 ∧ counting.waitList = []) ∧
    ((near counting .l6 .l0 true).tableLaw ∧ (near selecting .l6 .l0 true).tableLaw ∧
      (near selecting .l6 .l0 true).sees .l6 (bankLine .b1) true 0x01 ∧
      (near selecting .l6 .l0 true).bank .b1 = .reserved .h1) ∧
    ((near contended .l6 .l7 false).sees .l6 (bankLine .b8) false 0x00 ∧ contended.waitList = [.h2] ∧
      contended.hallState .h2 = .waiting) ∧
    ((near counting .l7 .l2 true).sees .l7 .l2 true 0x04 ∧ (near counting .l7 .l2 true).tableLaw ∧
      counting.bank .b1 = .reserved .h1 ∧ (counting.bankPlan .b1).role = .main ∧
      (∀ b g, counting.bank b = .reserved g → g = .h1) ∧
      (near counting .l7 .l2 false).sees .l7 .l2 false 0x00 ∧
      ∀ b g, counting.bank b = .reserved g → (counting.bankPlan b).role = .main) ∧
    (let s := { counting with measuring := some ⟨.bank .b1, 2400, 300, 1695⟩ };
      s.tableLaw ∧ s.circuit (.bank .b1) = some Circuit.fresh ∧ Circuit.fresh.condition = .untested ∧
      (Circuit.fresh.applyReading .openCircuit).condition = .openCircuit) ∧
    (let s := { selecting with measuring := some ⟨.selector .m1 .h1, 2400, 300, 1695⟩ };
      s.tableLaw ∧ s.circuit (.selector .m1 .h1) = some { Circuit.fresh with driven := true } ∧
      selecting.bank .b1 = .reserved .h1 ∧ selecting.manifoldOf .b1 = .m1) ∧
    (let x : Circuit := ⟨.over, .openCircuit, some ⟨.normal, 2⟩, false⟩;
      (x.applyReading .normal).condition = .normal) ∧
    ((near shared .l7 .l2 true).sees .l7 .l2 true 0x04 ∧ (near shared .l7 .l2 true).tableLaw ∧
      shared.bank .b1 = .reserved .h1 ∧ shared.bank .b5 = .reserved .h3 ∧ (shared.bankPlan .b5).role = .main ∧
      shared.ranksBefore .h1 .h3 = true ∧ shared.waitList = [.h2]) := by
  refine ⟨by unfold State.sees; decide +kernel,
    ⟨near_tableLaw (reserved_tableLaw (.inl rfl)) _ _ _, near_tableLaw (reserved_tableLaw (.inr (.inl rfl))) _ _ _,
      by unfold State.sees; decide +kernel, by decide +kernel⟩,
    by unfold State.sees; decide +kernel,
    ⟨by unfold State.sees; decide +kernel, near_tableLaw (reserved_tableLaw (.inl rfl)) _ _ _, by decide +kernel,
      by decide +kernel, ?_, by unfold State.sees; decide +kernel, ?_⟩,
    ⟨reserved_tableLaw (s := counting) (.inl rfl), by decide +kernel⟩,
    ⟨reserved_tableLaw (s := selecting) (.inr (.inl rfl)), by decide +kernel⟩,
    by decide +kernel,
    ⟨by unfold State.sees; decide +kernel, near_tableLaw (reserved_tableLaw (.inr (.inr rfl))) _ _ _, by decide +kernel⟩⟩
  · intro b g; cases b <;> cases g <;> decide +kernel
  · intro b g; cases b <;> cases g <;> decide +kernel

/-- Counts 0 to 2 and a faulted line. -/
theorem witness_DriveDwellDebouncesLine :
    { demo with scan := .dark }.scan = .dark ∧ demo.scan = .drive .l0 ∧ assigned .l0 .l5 = .unused ∧
    ¬ assigned .l0 .l4 = .unused ∧ (demo.returns.get .l4).faulted = false ∧
    (demo.contact .l0 .l4).count + 1 < 3 ∧ 3 ≤ ((near demo .l0 .l4 true).contact .l0 .l4).count + 1 ∧
    ((({ demo with returns := demo.returns.set .l4 ⟨true, 2⟩ }).returns).get .l4).faulted = true := by
  decide +kernel

theorem witness_DarkDwellJudgesReturnLines :
    { demo with scan := .dark, returns := demo.returns.set .l3 ⟨true, 2⟩ }.scan = .dark ∧
    ((demo.returns.set .l3 ⟨true, 2⟩).get .l3).faulted = true ∧ (0x04 : BitVec 8).getLsbD Line.l2.num = true ∧
    (0x04 : BitVec 8).getLsbD Line.l3.num = false ∧ demo.scan = .drive .l0 := by
  decide +kernel

/-- A confirmation; a release from COUNTDOWN, and from HELD before and at the end of a tenth; a hall that waits. -/
theorem witness_ManualContactConfirmsOrReleases :
    ((near demo .l5 .l0 true).sees (hallLine .h6) .l0 true 0x01 ∧ (near demo .l5 .l0 true).hallState .h6 = .quiet ∧
      (near demo .l5 .l0 true).withheld .h6 = false) ∧
    ((near counting .l0 .l0 true).sees (hallLine .h1) .l0 true 0x01 ∧
      (near counting .l0 .l0 true).hallState .h1 = .countdown ∧
      ((near counting .l0 .l0 true).inc .h1).countdown = some 300 ∧
      0 < min 300 (10 * (near counting .l0 .l0 true).manualReleaseDelay .h1)) ∧
    (∀ ms ∈ [0, 99, 100],
      let s := (near held .l0 .l0 true).modHall .h1 fun x => { x with stay := ⟨ms, true⟩ };
      s.sees (hallLine .h1) .l0 true 0x01 ∧ s.hallState .h1 = .held ∧ (s.inc .h1).countdown = some 300 ∧
      (s.hall .h1).stay.ms = ms) ∧
    ((near contended .l1 .l0 true).sees (hallLine .h2) .l0 true 0x01 ∧
      (near contended .l1 .l0 true).hallState .h2 = .waiting) := by
  unfold State.sees; decide +kernel

theorem witness_HoldIsTakenEndedAndOverridden :
    ((near counting .l0 .l1 true).sees (hallLine .h1) .l1 true 0x02 ∧
      (near counting .l0 .l1 true).holdDemand .h1 = false ∧
      ((near counting .l0 .l1 true).inc .h1).holdUsed < 10 * (counting.hallPlan .h1).holdLimit) ∧
    ((near held .l0 .l1 false).sees (hallLine .h1) .l1 false 0x00 ∧ (near held .l0 .l1 false).hallState .h1 = .held ∧
      ((near held .l0 .l1 false).inc .h1).countdown = some 300 ∧ ¬ ((near held .l0 .l1 false).link .h1).hold = true) ∧
    (held.hallState .h1 = .held ∧ (held.inc .h1).countdown = some 300 ∧ ¬ counting.hallState .h1 = .held) := by
  unfold State.sees; decide +kernel

theorem witness_LockoutInhibitsAndReleases :
    ((near counting .l0 .l2 true).sees (hallLine .h1) .l2 true 0x04 ∧
      (near counting .l0 .l2 true).hallState .h1 = .countdown ∧ ¬ .h1 ∈ counting.waitList) ∧
    ((near contended .l1 .l2 true).sees (hallLine .h2) .l2 true 0x04 ∧
      (near contended .l1 .l2 true).hallState .h2 = .waiting) ∧
    ((near selecting .l0 .l2 true).sees (hallLine .h1) .l2 true 0x04 ∧
      (near selecting .l0 .l2 true).hallState .h1 = .selecting) ∧
    ((near stalled .l0 .l2 true).sees (hallLine .h1) .l2 true 0x04 ∧
      (near stalled .l0 .l2 true).hallState .h1 = .stalled) ∧
    (let s := near (demo.modInc .h1 fun _ => { demoInc .inhibited none with alloc := [] }) .l0 .l2 false;
      s.scan = .drive .l0 ∧ s.turning .l0 0x00 = [.l2] ∧ sampleBit 0x00 .l2 = false ∧ s.hallState .h1 = .inhibited ∧
      s.isolated .h1 = false) := by
  unfold State.sees; decide +kernel

/-- The last proven contact with both slots free, one, and none; a selector that is not energised; one that is lost. -/
theorem witness_ProvenContactProvesSelector :
    ((near selecting .l0 .l3 true).sees (hallLine .h1) .l3 true 0x08 ∧
      (near selecting .l0 .l3 true).selector .m1 .h1 = ⟨true, false⟩ ∧
      (near selecting .l0 .l3 true).hallState .h1 = .selecting ∧
      ¬ (near selecting .l0 .l3 true).holder .m2 = some .h1 ∧
      (near selecting .l0 .l3 true).slots = ⟨.empty, .empty⟩ ∧ (near selecting .l0 .l3 true).queue = []) ∧
    (let s := { near selecting .l0 .l3 true with slots := ⟨.pulsing .b5 100, .empty⟩ };
      s.sees (hallLine .h1) .l3 true 0x08 ∧ s.selector .m1 .h1 = ⟨true, false⟩ ∧ s.slots.get .s2 = .empty) ∧
    (let s := { near selecting .l0 .l3 true with slots := ⟨.pulsing .b5 100, .marking .b6⟩, queue := [.b7] };
      s.sees (hallLine .h1) .l3 true 0x08 ∧ ∀ i ∈ [SlotId.s1, .s2], ¬ s.slots.get i = .empty) ∧
    ((near demo .l0 .l3 true).sees (hallLine .h1) .l3 true 0x08 ∧
      ¬ (near demo .l0 .l3 true).selector .m1 .h1 = ⟨true, false⟩) ∧
    ((near firing .l0 .l3 false).sees (hallLine .h1) .l3 false 0x00 ∧
      (near firing .l0 .l3 false).selector .m1 .h1 = ⟨true, true⟩ ∧
      ((near firing .l0 .l3 false).man .m1).state.releasing = some .h1) := by
  unfold State.sees; decide +kernel

/-- Alarms of A and B, of A alone, of ADVISORY alone, of MANUAL. -/
theorem witness_CycleOpensAndConfirms :
    (linked demo).portReady (.hall .h1) ∧ ((linked demo).link .h1).state = .running ∧
    ((linked demo).link .h1).zones = some demoZones ∧
    ([.alarm, .alarm, .normal, .normal] : List ZoneState).length = demoZones.length ∧ demoZones.length ≤ 16 ∧
    (demoZones.map Zone.id).Nodup ∧ (linked demo).hallState .h1 = .quiet ∧
    withStates demoZones [.alarm, .alarm, .normal, .normal] =
      [⟨1, .a, .alarm⟩, ⟨2, .b, .alarm⟩, ⟨3, .manual, .normal⟩, ⟨4, .advisory, .normal⟩] ∧
    withStates demoZones [.normal, .normal, .alarm, .alarm] =
      [⟨1, .a, .normal⟩, ⟨2, .b, .normal⟩, ⟨3, .manual, .alarm⟩, ⟨4, .advisory, .alarm⟩] := by
  unfold State.portReady; decide +kernel

/-- A link that reports temperatures at the ends of their range, and one that does not run. -/
theorem witness_CalculatorLaws :
    0 < 900 ∧ 999 < 1000 ∧ demo.work.site.valid = true ∧ (demo.hallPlan .h1).valid = true ∧
    ¬ (demo.link .h1).state = .running ∧
    (let s := (linked demo).modLink .h1 fun l => { l with low := some (-40), high := some 85 };
      (s.link .h1).state = .running ∧ (s.link .h1).low = some (-40) ∧ (s.link .h1).high = some 85 ∧
      s.work.site.valid = true ∧ s.chooseLow .h1 = -10 ∧ s.chooseHigh .h1 = 50) ∧
    ((linked demo).link .h1).low = none := by
  decide +kernel

theorem witness_HallPortReachesItsHallOnly :
    ∃ t, exec (Kind.row .cycle (.hall .h1) 9 [2, 2, 0, 0, 0, 15, 35]) (linked demo) = .next t ∧
      t.hallState .h1 = .countdown :=
  ⟨_, rfl, by decide +kernel⟩

/-! ### States that meet the laws, other than the state after a restart -/

theorem witness_StepKeepsWaitListLaw : contended.waitListLaw ∧ ∃ t, step contended = .next t := by
  refine ⟨⟨?_, by decide +kernel⟩, _, rfl⟩
  intro h; cases h <;> decide +kernel

theorem witness_StepKeepsHallLaws :
    contended.inhibitedLaw ∧ held.holdLaw ∧ selecting.entryLaw ∧ contended.recordLaw := by
  refine ⟨?_, ?_, ?_, ?_⟩ <;> (intro h; cases h <;> decide +kernel)

theorem witness_StepKeepsStoreLaw :
    firing.storeLaw ∧
    { demo with work := { demo.work with lock := .keyed }, write := some (.lockMode .keyed), markQueue := [.b1] }.storeLaw :=
  ⟨⟨rfl, by decide +kernel⟩, ⟨rfl, by decide +kernel⟩⟩

theorem witness_StepKeepsOutputLaws : firing.initiatorLaw ∧ firing.selectorLaw ∧ firing.drivenLaw := by
  refine ⟨?_, ?_, ?_, ?_⟩
  · intro b; cases b
    case b1 => exact fun _ => ⟨.s1, 500, rfl⟩
    all_goals exact fun h => absurd h (by decide +kernel)
  · intro m h; cases m <;> cases h <;> decide +kernel
  · intro b; cases b <;> decide +kernel
  · intro m h x; cases m <;> cases h <;>
      first
      | (intro hx; cases hx; rfl)
      | (intro hx; exact absurd (hx.symm.trans (show _ = none from rfl)) (by simp))

theorem witness_StepKeepsManifoldAndMatrixLaws : firing.manifoldLaw ∧ demo.matrixLaw := by
  refine ⟨?_, ?_, ?_⟩
  · intro m; cases m <;> trivial
  · intro d r; cases d <;> cases r <;> (unfold Contact.lawful; decide +kernel)
  · intro r; cases r <;> decide +kernel

/-- The laws of the tables hold of a release under way: B1 pulsing, B2 awaiting its mark. -/
theorem firing_tableLaw : firing.tableLaw := by
  refine ⟨⟨?_, by decide +kernel⟩, ?_, ?_, ?_, ⟨by decide +kernel, ?_⟩, ?_⟩
  · intro h; cases h <;> decide +kernel
  · intro b; cases b
    case b2 =>
      show firing.hallState .h1 = .discharging ∧ .b2 ∈ (firing.inc .h1).allocBanks ∧
        firing.holder (firing.manifoldOf .b2) = some .h1
      decide +kernel
    all_goals exact True.intro
  · intro m; cases m
    · exact ⟨by decide +kernel, .b1, by decide +kernel, by decide +kernel, by decide +kernel⟩
    · exact True.intro
  · intro h; cases h
    case h1 =>
      refine ⟨fun hh => absurd hh (by decide +kernel), fun _ b hb => ?_, fun hh => absurd hh (by decide +kernel)⟩
      cases b <;> first | decide +kernel | exact absurd hb (by decide +kernel)
    all_goals
      refine ⟨fun hh => absurd hh (by decide +kernel), fun hh => absurd hh (by decide +kernel),
        fun hh => absurd hh (by decide +kernel)⟩
  · intro b; cases b
    case b2 => exact ⟨fun _ => .inr ⟨.s2, rfl⟩, fun _ => ⟨.h1, rfl⟩⟩
    all_goals
      constructor
      · rintro ⟨h, hh⟩; cases h <;> exact absurd hh (by decide +kernel)
      · rintro (hq | ⟨i, hi⟩)
        · exact absurd hq (by decide +kernel)
        · cases i <;> exact absurd hi (by decide +kernel)
  · intro h; cases h <;> exact fun hh => absurd hh (by decide +kernel)

/-- No list of the demo plan or of the release names a bank twice. -/
theorem firing_listLaw : firing.listLaw := by intro h; cases h <;> decide +kernel

/-- The mark of B2 is being written; the plan is the store's. -/
theorem firing_storeLaw : firing.storeLaw := ⟨rfl, fun h => absurd h (by decide +kernel)⟩

theorem firing_fireLaw : firing.fireLaw := by
  refine ⟨firing_tableLaw, witness_StepKeepsOutputLaws.1, ?_, ⟨?_, by decide +kernel, ?_⟩, ?_⟩
  · intro b; cases b
    case b1 =>
      exact fun _ => ⟨by decide +kernel, by decide +kernel, by decide +kernel, .h1, by decide +kernel, by decide +kernel,
        by decide +kernel, by decide +kernel⟩
    all_goals
      rintro ⟨i, ms, h⟩
      cases i
      · exact nomatch (show Slot.pulsing .b1 500 = Slot.pulsing _ ms from h)
      · exact nomatch (show Slot.marking .b2 = Slot.pulsing _ ms from h)
  · intro b; cases b
    case b2 => exact ⟨fun _ => .inl rfl, fun _ => ⟨.s2, rfl⟩⟩
    all_goals
      constructor
      · rintro ⟨i, hi⟩; cases i <;> exact absurd hi (by decide +kernel)
      · intro hh; exact absurd hh (by decide +kernel)
  · intro b _; exact fun hh => absurd hh (by cases b <;> decide +kernel)
  · intro b; cases b <;> decide +kernel

/-- B1 pulses. -/
theorem witness_StepKeepsTableLaws :
    firing.tableLaw ∧ (∀ b, firing.pulsedLaw b) ∧ firing.listLaw ∧ firing.storeLaw ∧ firing.inPulsing .b1 := by
  refine ⟨firing_tableLaw, fun b hb => ?_, firing_listLaw, firing_storeLaw, ⟨.s1, 500, rfl⟩⟩
  obtain ⟨spent, _, _, h, charged, listed, discharging, _⟩ := firing_fireLaw.2.2.1 b hb
  exact ⟨spent, h, charged, listed, discharging⟩

theorem witness_StepKeepsFireLaws : firing.fireLaw ∧ firing.listLaw ∧ firing.storeLaw :=
  ⟨firing_fireLaw, firing_listLaw, firing_storeLaw⟩

theorem witness_RestartSatisfiesLaws :
    exec .restart firing = .next firing.restart ∧ ∀ h, (firing.nvPlan.halls.get h).preference.Nodup :=
  ⟨rfl, fun h => (firing_listLaw h).2.2⟩

end Sys2Proof.Tests
end

section
/-! What an allocation leaves alone: everything but the bank and manifold tables, the selectors and their circuits, the
measurement, the hall records and the wait list. One lemma for each operation of chapters 4 to 6 that keeps it. -/

namespace Sys2Proof.Machine

/-- The state beside what an allocation, a return of reservations or a withdrawal short of the firing writes. -/
def State.still (s : State) :=
  (s.outer, s.write, s.markQueue, s.confCounter, s.queue, s.slots, s.bankCircuits)

theorem State.still_iff (s t : State) :
    t.still = s.still ↔
      t.outer = s.outer ∧ t.write = s.write ∧ t.markQueue = s.markQueue ∧ t.confCounter = s.confCounter ∧
      t.queue = s.queue ∧ t.slots = s.slots ∧ t.bankCircuits = s.bankCircuits := by
  simp [State.still]

theorem State.outer_of_still {s t : State} (e : t.still = s.still) : t.outer = s.outer := congrArg (fun x => x.1) e

theorem State.write_of_still {s t : State} (e : t.still = s.still) : t.write = s.write := congrArg (fun x => x.2.1) e

theorem State.markQueue_of_still {s t : State} (e : t.still = s.still) : t.markQueue = s.markQueue :=
  congrArg (fun x => x.2.2.1) e

theorem State.confCounter_of_still {s t : State} (e : t.still = s.still) : t.confCounter = s.confCounter :=
  congrArg (fun x => x.2.2.2.1) e

theorem State.queue_of_still {s t : State} (e : t.still = s.still) : t.queue = s.queue :=
  congrArg (fun x => x.2.2.2.2.1) e

theorem State.slots_of_still {s t : State} (e : t.still = s.still) : t.slots = s.slots :=
  congrArg (fun x => x.2.2.2.2.2.1) e

theorem State.bankCircuits_of_still {s t : State} (e : t.still = s.still) : t.bankCircuits = s.bankCircuits :=
  congrArg (fun x => x.2.2.2.2.2.2) e

theorem State.work_of_still {s t : State} (e : t.still = s.still) : t.work = s.work :=
  State.work_of_outer (State.outer_of_still e)

/-- A state is another one with its own tables, selectors, records and wait list, where nothing else moved. -/
theorem State.eq_of_still {s t : State} (e : t.still = s.still) :
    t =
      { s with
        banks := t.banks, mans := t.mans, selectors := t.selectors, selCircuits := t.selCircuits
        measuring := t.measuring, halls := t.halls, waitList := t.waitList } := by
  obtain ⟨o, w, q, c, f, sl, b⟩ := (State.still_iff s t).1 e
  obtain ⟨o1, o2, o3, o4, o5, o6, o7, o8, o9, o10, o11, o12, o13, o14⟩ := (State.outer_iff s t).1 o
  cases s
  cases t
  simp only at *
  subst_vars
  rfl

theorem State.halls_of_others {s t : State} {h : HallId} (e : ∀ g, ¬ g = h → t.hall g = s.hall g) :
    t.halls = s.halls.set h (t.hall h) := by
  apply PerHall.eq_of_get
  intro g
  rw [PerHall.get_set]
  split
  · rename_i same
    rw [same]
    rfl
  · rename_i other
    exact e g (fun x => other x.symm)

/-! ## The updates -/

@[simp] theorem State.still_modHall (s : State) (h : HallId) (f : Hall → Hall) : (s.modHall h f).still = s.still := rfl

@[simp] theorem State.still_modInc (s : State) (h : HallId) (f : Incident → Incident) :
    (s.modInc h f).still = s.still := rfl

@[simp] theorem State.still_modFlags (s : State) (h : HallId) (f : Flags → Flags) :
    (s.modFlags h f).still = s.still := rfl

@[simp] theorem State.still_modMan (s : State) (m : ManId) (f : Manifold → Manifold) :
    (s.modMan m f).still = s.still := rfl

@[simp] theorem State.still_leaveWaitList (s : State) (h : HallId) : (s.leaveWaitList h).still = s.still := rfl

@[simp] theorem State.still_reserveAll (s : State) (h : HallId) (taken : List BankId) :
    (s.reserveAll h taken).still = s.still := rfl

@[simp] theorem State.still_energise (s : State) (m : ManId) (h : HallId) : (s.energise m h).still = s.still := rfl

@[simp] theorem State.still_deEnergise (s : State) (m : ManId) (h : HallId) : (s.deEnergise m h).still = s.still := rfl

@[simp] theorem State.still_freeManifold (s : State) (m : ManId) : (s.freeManifold m).still = s.still := by
  unfold State.freeManifold
  cases s.holder m <;> simp

/-! ## The record of one hall -/

@[simp] theorem State.still_setPartial (s : State) (h : HallId) : (s.setPartial h).still = s.still := rfl

@[simp] theorem State.still_setShortfall (s : State) (h : HallId) : (s.setShortfall h).still = s.still := rfl

@[simp] theorem State.still_setConcHigh (s : State) (h : HallId) : (s.setConcHigh h).still = s.still := rfl

@[simp] theorem State.still_setCountdownSpent (s : State) (h : HallId) : (s.setCountdownSpent h).still = s.still := rfl

@[simp] theorem State.still_enterInhibited (s : State) (h : HallId) : (s.enterInhibited h).still = s.still := rfl

@[simp] theorem State.still_enterHeld (s : State) (h : HallId) : (s.enterHeld h).still = s.still := rfl

@[simp] theorem State.still_closeIncident (s : State) (h : HallId) : (s.closeIncident h).still = s.still := rfl

@[simp] theorem State.still_recordComputation (s : State) (h : HallId) : (s.recordComputation h).still = s.still := rfl

@[simp] theorem State.still_resumeCountdown (s : State) (h : HallId) (n : Nat) :
    (s.resumeCountdown h n).still = s.still := rfl

@[simp] theorem State.still_leaveHeld (s : State) (h : HallId) : (s.leaveHeld h).still = s.still := by
  unfold State.leaveHeld
  split <;> rfl

@[simp] theorem State.still_recordEstimate (s : State) (h : HallId) : (s.recordEstimate h).still = s.still := by
  unfold State.recordEstimate
  split
  · rfl
  · dsimp only
    split <;> rfl

/-! ## Entries, attempts, returns and withdrawals -/

@[simp] theorem State.still_selectOn (s : State) (h : HallId) (m : ManId) : (s.selectOn h m).still = s.still := by
  unfold State.selectOn
  split <;> simp

@[simp] theorem State.still_enterSelecting (s : State) (h : HallId) : (s.enterSelecting h).still = s.still := by
  simp [State.enterSelecting]

@[simp] theorem State.still_startCountdown (s : State) (h : HallId) : (s.startCountdown h).still = s.still := by
  unfold State.startCountdown
  dsimp only
  split
  · simp
  · split <;> simp

@[simp] theorem State.still_joinWaitList (s : State) (h : HallId) : (s.joinWaitList h).still = s.still := by
  unfold State.joinWaitList
  split <;> rfl

@[simp] theorem State.still_enterWaiting (s : State) (h : HallId) : (s.enterWaiting h).still = s.still := by
  simp [State.enterWaiting]

@[simp] theorem State.still_commitAttempt (s : State) (h : HallId) (taken : List BankId) :
    (s.commitAttempt h taken).still = s.still := by
  unfold State.commitAttempt
  dsimp only
  split <;> simp

@[simp] theorem State.still_afterSuccess (s : State) (h : HallId) : (s.afterSuccess h).still = s.still := by
  unfold State.afterSuccess
  split <;> simp

@[simp] theorem State.still_attempt (s : State) (h : HallId) (guarded : List BankId) :
    (s.attempt h guarded).1.still = s.still := by
  unfold State.attempt
  dsimp only
  split <;> simp

@[simp] theorem State.still_singleAttempt (s : State) (h : HallId) : (s.singleAttempt h).still = s.still := by
  unfold State.singleAttempt
  dsimp only
  split <;> simp

@[simp] theorem State.still_walkHalls (halls : List HallId) (guarded : List BankId) (s : State) :
    (State.walkHalls halls guarded s).still = s.still := by
  induction halls generalizing guarded s with
  | nil => rfl
  | cons h rest ih => simp [State.walkHalls, ih]

@[simp] theorem State.still_reexamine (s : State) : s.reexamine.still = s.still := by
  simp [State.reexamine]

@[simp] theorem State.still_releaseManifold (s : State) (h : HallId) (m : ManId) :
    (s.releaseManifold h m).still = s.still := by
  unfold State.releaseManifold
  split <;> simp

@[simp] theorem State.still_returnAll (s : State) (h : HallId) : (s.returnAll h).still = s.still := by
  unfold State.returnAll
  simp only [State.still_releaseManifold]
  rfl

@[simp] theorem State.still_dropUnfit (s : State) (h : HallId) (unfit : List BankId) :
    (s.dropUnfit h unfit).still = s.still := rfl

@[simp] theorem State.still_replace (s : State) (h : HallId) (unfit : List BankId) :
    (s.replace h unfit).still = s.still := rfl

@[simp] theorem State.still_releaseIfEmpty (s : State) (h : HallId) (m : ManId) :
    (s.releaseIfEmpty h m).still = s.still := by
  unfold State.releaseIfEmpty
  split <;> simp

@[simp] theorem State.still_settleAllocation (s : State) (h : HallId) : (s.settleAllocation h).still = s.still := by
  simp [State.settleAllocation]

@[simp] theorem State.still_countChanges (s t : State) : (State.countChanges s t).still = t.still := rfl

end Sys2Proof.Machine
end

section
/-! What the shared operations write, read back field by field: selectors energised and de-energised, manifolds selected,
freed and claimed, the entries of a hall, the return of reservations. -/

namespace Sys2Proof.Machine

/-! ## A selector energised or de-energised (R108, R113, R133) -/

@[simp] theorem State.banks_energise (s : State) (m : ManId) (h : HallId) : (s.energise m h).banks = s.banks := rfl

@[simp] theorem State.mans_energise (s : State) (m : ManId) (h : HallId) : (s.energise m h).mans = s.mans := rfl

@[simp] theorem State.waitList_energise (s : State) (m : ManId) (h : HallId) :
    (s.energise m h).waitList = s.waitList := rfl

@[simp] theorem State.selectors_energise (s : State) (m : ManId) (h : HallId) :
    (s.energise m h).selectors = s.selectors.set m ((s.selectors.get m).set h ⟨true, false⟩) := rfl

@[simp] theorem State.selCircuits_energise (s : State) (m : ManId) (h : HallId) :
    (s.energise m h).selCircuits =
      s.selCircuits.set m ((s.selCircuits.get m).set h
        (((s.selCircuits.get m).get h).map fun c => { c with driven := true, run := none })) := rfl

@[simp] theorem State.measuring_energise (s : State) (m : ManId) (h : HallId) :
    (s.energise m h).measuring = s.measuring.filter fun x => !(x.circuit == .selector m h) := rfl

@[simp] theorem State.banks_deEnergise (s : State) (m : ManId) (h : HallId) : (s.deEnergise m h).banks = s.banks := rfl

@[simp] theorem State.mans_deEnergise (s : State) (m : ManId) (h : HallId) : (s.deEnergise m h).mans = s.mans := rfl

@[simp] theorem State.waitList_deEnergise (s : State) (m : ManId) (h : HallId) :
    (s.deEnergise m h).waitList = s.waitList := rfl

@[simp] theorem State.selectors_deEnergise (s : State) (m : ManId) (h : HallId) :
    (s.deEnergise m h).selectors = s.selectors.set m ((s.selectors.get m).set h ⟨false, false⟩) := rfl

@[simp] theorem State.selCircuits_deEnergise (s : State) (m : ManId) (h : HallId) :
    (s.deEnergise m h).selCircuits =
      s.selCircuits.set m ((s.selCircuits.get m).set h
        (((s.selCircuits.get m).get h).map fun c => { c with driven := false })) := rfl

@[simp] theorem State.measuring_deEnergise (s : State) (m : ManId) (h : HallId) :
    (s.deEnergise m h).measuring = s.measuring := rfl

/-! ## A manifold selected (R14, R108) -/

/-- A manifold that hall `h` selects: SELECTING, its selector timer started. -/
def Manifold.selected (x : Manifold) (h : HallId) (timeout : Nat) : Manifold :=
  { x with state := .selecting h, timer := .selector (Timer.startSeconds timeout) }

@[simp] theorem Manifold.state_selected (x : Manifold) (h : HallId) (n : Nat) :
    (x.selected h n).state = .selecting h := rfl

@[simp] theorem State.banks_selectOn (s : State) (h : HallId) (m : ManId) : (s.selectOn h m).banks = s.banks := by
  unfold State.selectOn
  split <;> rfl

@[simp] theorem State.waitList_selectOn (s : State) (h : HallId) (m : ManId) :
    (s.selectOn h m).waitList = s.waitList := by
  unfold State.selectOn
  split <;> rfl

@[simp] theorem State.work_selectOn (s : State) (h : HallId) (m : ManId) : (s.selectOn h m).work = s.work :=
  State.work_of_still (State.still_selectOn s h m)

theorem State.man_selectOn (s : State) (h : HallId) (m n : ManId) :
    (s.selectOn h m).man n =
      if m = n ∧ (s.man n).state = .claimed h then (s.man n).selected h (s.manPlan n).selectorTimeout else s.man n := by
  unfold State.selectOn
  by_cases e : m = n
  · subst e
    by_cases c : (s.man m).state = .claimed h
    · simp only [c, and_self, if_true]
      exact PerMan.get_set_same _ _ _
    · simp [c]
  · split
    · rw [if_neg (fun x => e x.1)]
      exact PerMan.get_set_other _ _ e
    · rw [if_neg (fun x => e x.1)]

theorem State.selectors_selectOn (s : State) (h : HallId) (m n : ManId) :
    (s.selectOn h m).selectors.get n =
      if m = n ∧ (s.man n).state = .claimed h then (s.selectors.get n).set h ⟨true, false⟩ else s.selectors.get n := by
  unfold State.selectOn
  by_cases e : m = n
  · subst e
    by_cases c : (s.man m).state = .claimed h <;> simp [c]
  · split <;> simp [e, PerMan.get_set]

theorem State.selCircuits_selectOn (s : State) (h : HallId) (m n : ManId) :
    (s.selectOn h m).selCircuits.get n =
      if m = n ∧ (s.man n).state = .claimed h then
        (s.selCircuits.get n).set h (((s.selCircuits.get n).get h).map fun c => { c with driven := true, run := none })
      else s.selCircuits.get n := by
  unfold State.selectOn
  by_cases e : m = n
  · subst e
    by_cases c : (s.man m).state = .claimed h <;> simp [c]
  · split <;> simp [e, PerMan.get_set]

theorem State.measuring_selectOn (s : State) (h : HallId) (m : ManId) (x : Measurement) :
    (s.selectOn h m).measuring = some x ↔
      s.measuring = some x ∧ ¬ (x.circuit = .selector m h ∧ (s.man m).state = .claimed h) := by
  unfold State.selectOn
  by_cases c : (s.man m).state = .claimed h
  · simp [c, Option.filter_eq_some_iff]
  · simp [c]

/-! ## SELECTING entered (R55) -/

@[simp] theorem State.banks_enterSelecting (s : State) (h : HallId) : (s.enterSelecting h).banks = s.banks := by
  simp [State.enterSelecting]

@[simp] theorem State.waitList_enterSelecting (s : State) (h : HallId) :
    (s.enterSelecting h).waitList = s.waitList := by
  simp [State.enterSelecting]

@[simp] theorem State.hall_enterSelecting_same (s : State) (h : HallId) :
    (s.enterSelecting h).hall h =
      { s.hall h with inc := { s.inc h with state := .selecting, countdown := none } } := by
  unfold State.enterSelecting
  rw [State.hall_of_halls (State.halls_selectOn _ _ _), State.hall_of_halls (State.halls_selectOn _ _ _)]
  exact State.hall_modHall_same s h _

theorem State.man_enterSelecting (s : State) (h : HallId) (m : ManId) :
    (s.enterSelecting h).man m =
      if (s.man m).state = .claimed h then (s.man m).selected h (s.manPlan m).selectorTimeout else s.man m := by
  unfold State.enterSelecting
  cases m <;> simp [State.man_selectOn, State.manPlan] <;> rfl

theorem State.selectors_enterSelecting (s : State) (h : HallId) (m : ManId) :
    (s.enterSelecting h).selectors.get m =
      if (s.man m).state = .claimed h then (s.selectors.get m).set h ⟨true, false⟩ else s.selectors.get m := by
  unfold State.enterSelecting
  cases m <;> simp [State.man_selectOn, State.selectors_selectOn] <;> rfl

theorem State.selCircuits_enterSelecting (s : State) (h : HallId) (m : ManId) :
    (s.enterSelecting h).selCircuits.get m =
      if (s.man m).state = .claimed h then
        (s.selCircuits.get m).set h (((s.selCircuits.get m).get h).map fun c => { c with driven := true, run := none })
      else s.selCircuits.get m := by
  unfold State.enterSelecting
  cases m <;> simp [State.man_selectOn, State.selCircuits_selectOn] <;> rfl

theorem State.measuring_enterSelecting (s : State) (h : HallId) (x : Measurement) :
    (s.enterSelecting h).measuring = some x ↔
      s.measuring = some x ∧ ¬ ∃ m, x.circuit = .selector m h ∧ (s.man m).state = .claimed h := by
  have other : ∀ t : State, (t.selectOn h .m1).man .m2 = t.man .m2 := fun t => by simp [State.man_selectOn]
  have kept : ∀ m, (s.modInc h fun i => { i with state := .selecting, countdown := none }).man m = s.man m :=
    fun _ => rfl
  unfold State.enterSelecting
  rw [State.measuring_selectOn, State.measuring_selectOn, other, kept, kept]
  constructor
  · rintro ⟨⟨e, n1⟩, n2⟩
    refine ⟨e, ?_⟩
    rintro ⟨m, c⟩
    cases m
    · exact n1 c
    · exact n2 c
  · rintro ⟨e, n⟩
    exact ⟨⟨e, fun c => n ⟨_, c⟩⟩, fun c => n ⟨_, c⟩⟩

end Sys2Proof.Machine
end

section
/-! One attempt, said once: the record after the computation and the estimate, the commitment, and the state that a success
leads to (R33, R54, R68). From it a re-examination is the walk of R80. -/

namespace Sys2Proof.Machine

/-! ## One hall's record rewritten twice -/

theorem State.modHall_congr {s : State} {h : HallId} {f g : Hall → Hall} (e : f (s.hall h) = g (s.hall h)) :
    s.modHall h f = s.modHall h g := by
  unfold State.modHall
  rw [show f (s.halls.get h) = g (s.halls.get h) from e]

theorem State.modInc_congr {s : State} {h : HallId} {f g : Incident → Incident} (e : f (s.inc h) = g (s.inc h)) :
    s.modInc h f = s.modInc h g := by
  apply State.modHall_congr
  rw [show f (s.hall h).inc = g (s.hall h).inc from e]

theorem PerHall.set_set {α : Type} (t : PerHall α) (h : HallId) (x y : α) : (t.set h x).set h y = t.set h y := by
  cases h <;> rfl

theorem State.modHall_modHall (s : State) (h : HallId) (f g : Hall → Hall) :
    (s.modHall h f).modHall h g = s.modHall h fun x => g (f x) := by
  unfold State.modHall
  simp only [PerHall.get_set_same, PerHall.set_set]

theorem State.modInc_modInc (s : State) (h : HallId) (f g : Incident → Incident) :
    (s.modInc h f).modInc h g = s.modInc h fun i => g (f i) := State.modHall_modHall s h _ _

theorem State.modInc_id {s : State} {h : HallId} {f : Incident → Incident} (e : f (s.inc h) = s.inc h) :
    s.modInc h f = s := by
  have same : s.modInc h f = s.modInc h id := State.modInc_congr e
  rw [same]
  show { s with halls := s.halls.set h (s.halls.get h) } = s
  rw [PerHall.set_get]

/-! ## What a computation and an estimate write (R33 to R36, R68) -/

/-- A record with the temperatures and the required quantity of a computation (R33, R37). -/
def Incident.computed (i : Incident) (low high : Int) (required : Nat) (short : Bool) : Incident :=
  { i with
    tLow := some low, tHigh := some high, required := some required
    flags := { i.flags with designShort := i.flags.designShort || short } }

/-- A record with an estimate; CONC_HIGH where it exceeds the maximum (R35, R36). -/
def Incident.estimated (i : Incident) (e : Option Nat) (maximum : Nat) : Incident :=
  { i with
    estimate := e
    flags := { i.flags with concHigh := i.flags.concHigh || e.any fun c => decide (maximum < c) } }

/-- A record with the list of a successful attempt, its estimate, and PARTIAL where it is short (R68, R69). -/
def Incident.allotted (i : Incident) (l : List AllocEntry) (e : Option Nat) (maximum : Nat) (short : Bool) : Incident :=
  { i with
    alloc := l
    estimate := e
    flags :=
      { i.flags with
        concHigh := i.flags.concHigh || e.any fun c => decide (maximum < c)
        isPartial := i.flags.isPartial || short } }

theorem State.recordComputation_eq (s : State) (h : HallId) :
    s.recordComputation h =
      s.modInc h fun i =>
        i.computed (s.chooseLow h) (s.chooseHigh h) (s.computeRequired h)
          (decide (s.unspentPreference h < s.computeRequired h)) := rfl

theorem State.estimateFor_congr {s t : State} {h : HallId} (w : t.work = s.work)
    (e : (t.inc h).tHigh = (s.inc h).tHigh) (l : List AllocEntry) : t.estimateFor h l = s.estimateFor h l := by
  unfold State.estimateFor State.volumeAt State.recordedHigh State.hallPlan
  rw [w, e]

theorem State.recordEstimate_eq (s : State) (h : HallId) :
    s.recordEstimate h =
      s.modInc h fun i => i.estimated (s.estimateFor h (s.inc h).alloc) (s.hallPlan h).maximum := by
  unfold State.recordEstimate State.estimateFor
  by_cases e : (s.inc h).alloc = []
  · rw [if_pos (by simp [e]), if_pos e]
    apply State.modInc_congr
    simp [Incident.estimated]
  · rw [if_neg (by simpa using e), if_neg e]
    have same : s.computeEstimate h =
        estimatedConcentration (s.hallPlan h).volume (entriesTotal (s.inc h).alloc) (s.volumeAt (s.recordedHigh h)) :=
      rfl
    dsimp only
    rw [← same]
    split
    · rename_i above
      refine (State.modInc_modInc s h _ fun i => { i with flags := { i.flags with concHigh := true } }).trans ?_
      apply State.modInc_congr
      simp [Incident.estimated, above]
    · rename_i below
      apply State.modInc_congr
      simp [Incident.estimated, below]

/-- The estimate recorded for a new list (R35). -/
theorem State.recordEstimate_withAlloc (s : State) (h : HallId) (l : List AllocEntry) :
    (s.modInc h fun i => { i with alloc := l }).recordEstimate h =
      s.modInc h fun i => { i with alloc := l }.estimated (s.estimateFor h l) (s.hallPlan h).maximum := by
  have e : (s.modInc h fun i => { i with alloc := l }).estimateFor h l = s.estimateFor h l :=
    State.estimateFor_congr (s := s) (t := s.modInc h fun i => { i with alloc := l }) rfl (by rw [State.inc_modInc_same]) l
  have a : ((s.modInc h fun i => { i with alloc := l }).inc h).alloc = l := by rw [State.inc_modInc_same]
  rw [State.recordEstimate_eq, a, e, State.modInc_modInc]
  rfl

/-- The record that a committed attempt leaves. -/
def State.committed (s : State) (h : HallId) (taken : List BankId) : Incident :=
  ((s.recordComputation h).inc h).allotted (s.entriesFor taken)
    ((s.recordComputation h).estimateFor h (s.entriesFor taken)) (s.hallPlan h).maximum
    (decide (s.sumOf taken < s.computeRequired h))

/-- The estimate of an attempt's list is that of the temperatures just recorded (R35). -/
theorem State.recordEstimate_of_attempt (s : State) (h : HallId) (taken : List BankId) :
    (((s.recordComputation h).reserveAll h taken).modInc h fun i =>
        { i with alloc := s.entriesFor taken }).recordEstimate h =
      (s.reserveAll h taken).modInc h fun _ =>
        { (s.recordComputation h).inc h with alloc := s.entriesFor taken }.estimated
          ((s.recordComputation h).estimateFor h (s.entriesFor taken)) (s.hallPlan h).maximum := by
  have c : (s.recordComputation h).reserveAll h taken =
      (s.reserveAll h taken).modInc h fun _ => (s.recordComputation h).inc h := by
    rw [State.recordComputation_eq, State.inc_modInc_same]
    rfl
  rw [State.recordEstimate_withAlloc]
  have e : ((s.recordComputation h).reserveAll h taken).estimateFor h (s.entriesFor taken) =
      (s.recordComputation h).estimateFor h (s.entriesFor taken) := rfl
  rw [e, c, State.modInc_modInc]
  rfl

/-- An attempt that succeeds with the banks `taken` reserves them, records the commitment and ends the waiting (R68, R77).
The hall is not yet in a new state. -/
theorem State.commitAttempt_eq (s : State) (h : HallId) (taken : List BankId) :
    (s.recordComputation h).commitAttempt h taken =
      ((s.reserveAll h taken).leaveWaitList h).modInc h fun _ => s.committed h taken := by
  have shape : (s.recordComputation h).commitAttempt h taken =
      if s.sumOf taken < s.computeRequired h then
        (((((s.recordComputation h).reserveAll h taken).modInc h fun i =>
          { i with alloc := s.entriesFor taken }).recordEstimate h).leaveWaitList h).setPartial h
      else ((((s.recordComputation h).reserveAll h taken).modInc h fun i =>
          { i with alloc := s.entriesFor taken }).recordEstimate h).leaveWaitList h := rfl
  have swap : ∀ (t : State) (g : Incident → Incident),
      (t.modInc h g).leaveWaitList h = (t.leaveWaitList h).modInc h g := fun _ _ => rfl
  rw [shape, State.recordEstimate_of_attempt, swap]
  unfold State.committed
  split
  · rename_i short
    refine (State.modInc_modInc _ h _ fun i => { i with flags := { i.flags with isPartial := true } }).trans ?_
    apply State.modInc_congr
    simp [Incident.allotted, Incident.estimated, short]
  · rename_i full
    apply State.modInc_congr
    simp [Incident.allotted, Incident.estimated, full]

end Sys2Proof.Machine
end

section
/-! What a successful attempt leads to, and an attempt within a re-examination as R72 and R80 state it. -/

namespace Sys2Proof.Machine

/-! ## COUNTDOWN, HELD or SELECTING (R54, R91, R92) -/

/-- A hall whose countdown starts, in the given state, with `n` tenths (R91, R95). -/
def Hall.counting (x : Hall) (st : HallState) (n : Nat) : Hall :=
  { x with inc := { x.inc with state := st, countdown := some n }, stay := ⟨0, false⟩ }

/-- The state in which a countdown starts: HELD with hold demand where R95 allows, else COUNTDOWN. -/
def State.countingState (s : State) (h : HallId) : HallState :=
  if s.holdDemand h = true ∧ s.mayHold h = true then .held else .countdown

theorem State.startDelay_congr {s t : State} {h : HallId} (w : t.work = s.work)
    (f : (t.inc h).flags.concHigh = (s.inc h).flags.concHigh) (c : (t.inc h).cause = (s.inc h).cause)
    (m : (t.inc h).manualSeen = (s.inc h).manualSeen) : t.startDelay h = s.startDelay h := by
  unfold State.startDelay State.hallPlan
  simp only [w, f, c, m]

theorem State.mayHold_congr {s t : State} {h : HallId} (w : t.work = s.work)
    (f : (t.inc h).flags = (s.inc h).flags) (u : (t.inc h).holdUsed = (s.inc h).holdUsed) :
    t.mayHold h = s.mayHold h := by
  unfold State.mayHold State.hallPlan
  simp only [w, f, u]

theorem State.resumeCountdown_eq (s : State) (h : HallId) (n : Nat) :
    s.resumeCountdown h n = s.modHall h fun x => x.counting .countdown n := rfl

/-- A countdown that starts: at once SELECTING with a delay of 0, else the delay runs (R91, R92, R95). -/
theorem State.startCountdown_cases (s : State) (h : HallId) :
    (s.startDelay h = 0 ∧ s.startCountdown h = s.enterSelecting h) ∨
    (¬ s.startDelay h = 0 ∧
      s.startCountdown h = s.modHall h fun x => x.counting (s.countingState h) (10 * s.startDelay h)) := by
  unfold State.startCountdown
  by_cases z : s.startDelay h = 0
  · rw [if_pos z]
    exact Or.inl ⟨z, rfl⟩
  · rw [if_neg z]
    refine Or.inr ⟨z, ?_⟩
    have hold : ((s.resumeCountdown h (10 * s.startDelay h)).holdDemand h &&
        (s.resumeCountdown h (10 * s.startDelay h)).mayHold h) = true ↔
          s.holdDemand h = true ∧ s.mayHold h = true := by
      rw [Bool.and_eq_true, State.mayHold_congr (s := s) (t := s.resumeCountdown h (10 * s.startDelay h)) rfl
        (by rw [State.resumeCountdown_eq, State.inc_modHall_same]; rfl)
        (by rw [State.resumeCountdown_eq, State.inc_modHall_same]; rfl)]
      rfl
    unfold State.countingState
    dsimp only
    split
    · rename_i c
      rw [if_pos (hold.1 c)]
      exact State.modHall_modHall s h _ _
    · rename_i c
      rw [if_neg (fun k => c (hold.2 k))]
      rfl

/-- A success leads to SELECTING where the countdown is spent or has no delay, else to the countdown (R54). -/
theorem State.afterSuccess_cases (s : State) (h : HallId) :
    (((s.inc h).flags.countdownSpent = true ∨ s.startDelay h = 0) ∧ s.afterSuccess h = s.enterSelecting h) ∨
    ((s.inc h).flags.countdownSpent = false ∧ ¬ s.startDelay h = 0 ∧
      s.afterSuccess h = s.modHall h fun x => x.counting (s.countingState h) (10 * s.startDelay h)) := by
  unfold State.afterSuccess
  by_cases c : (s.inc h).flags.countdownSpent = true
  · rw [if_pos c]
    exact Or.inl ⟨Or.inl c, rfl⟩
  · rw [if_neg c]
    obtain ⟨z, e⟩ | ⟨z, e⟩ := State.startCountdown_cases s h
    · exact Or.inl ⟨Or.inr z, e⟩
    · exact Or.inr ⟨by simpa using c, z, e⟩

/-- Of the record a success writes the state and the countdown alone. -/
theorem State.inc_afterSuccess (s : State) (h : HallId) :
    (s.afterSuccess h).inc h =
      { s.inc h with
        state := (s.afterSuccess h).hallState h, countdown := ((s.afterSuccess h).inc h).countdown } := by
  unfold State.hallState
  obtain ⟨-, e⟩ | ⟨-, -, e⟩ := State.afterSuccess_cases s h <;> rw [e]
  · rw [show (s.enterSelecting h).inc h = _ from congrArg Hall.inc (State.hall_enterSelecting_same s h)]
  · rw [State.inc_modHall_same]
    rfl

/-! ## The state after the commitment -/

/-- A successful attempt committed, its hall not yet in a new state. -/
def State.afterCommit (s : State) (h : HallId) (taken : List BankId) : State :=
  ((s.reserveAll h taken).leaveWaitList h).modInc h fun _ => s.committed h taken

theorem State.inc_afterCommit (s : State) (h : HallId) (taken : List BankId) :
    (s.afterCommit h taken).inc h = s.committed h taken := State.inc_modInc_same _ _ _

theorem State.bank_afterCommit (s : State) (h : HallId) (taken : List BankId) (b : BankId) :
    (s.afterCommit h taken).bank b = if b ∈ taken then .reserved h else s.bank b :=
  State.bank_reserveAll s h taken b

theorem State.man_afterCommit_claimed {s : State} {h : HallId} {taken : List BankId} {m : ManId}
    (c : s.claimedWith h taken m) : (s.afterCommit h taken).man m = { s.man m with state := .claimed h } := by
  refine (State.man_reserveAll s h taken m).trans ?_
  unfold Manifold.claim
  obtain c | ⟨f, b, hb, hm⟩ := c
  · rw [if_neg (by simp [c])]
    generalize s.man m = x at c
    cases x
    cases c
    rfl
  · rw [if_pos ⟨List.any_eq_true.2 ⟨b, hb, by simp [hm]⟩, f⟩]

theorem State.man_afterCommit_other {s : State} {h : HallId} {taken : List BankId} {m : ManId}
    (c : ¬ s.claimedWith h taken m) : (s.afterCommit h taken).man m = s.man m := by
  refine (State.man_reserveAll s h taken m).trans ?_
  unfold Manifold.claim
  rw [if_neg]
  rintro ⟨a, f⟩
  obtain ⟨b, hb, hm⟩ := List.any_eq_true.1 a
  exact c (Or.inr ⟨f, b, hb, by simpa using hm⟩)

theorem State.claimed_afterCommit_iff (s : State) (h : HallId) (taken : List BankId) (m : ManId) :
    ((s.afterCommit h taken).man m).state = .claimed h ↔ s.claimedWith h taken m := by
  by_cases c : s.claimedWith h taken m
  · simp [State.man_afterCommit_claimed c, c]
  · rw [State.man_afterCommit_other c]
    exact ⟨Or.inl, fun k => absurd k c⟩

/-! ## The attempt -/

/-- An attempt: a success is committed and leads on, a failure leaves its computation. -/
theorem State.attempt_cases (s : State) (h : HallId) (guarded : List BankId) :
    (s.attemptSucceeds h (s.attemptTakes h guarded) = true ∧
      s.attempt h guarded = ((s.afterCommit h (s.attemptTakes h guarded)).afterSuccess h, true)) ∨
    (s.attemptSucceeds h (s.attemptTakes h guarded) = false ∧
      s.attempt h guarded = (s.withComputation h, false)) := by
  unfold State.attempt
  dsimp only
  split
  · rename_i ok
    rw [State.commitAttempt_eq]
    exact Or.inl ⟨ok, rfl⟩
  · rename_i no
    exact Or.inr ⟨by simpa using no, rfl⟩

theorem State.committed_eq (s : State) (h : HallId) (taken : List BankId) :
    s.committed h taken =
      ((s.inc h).computed (s.chooseLow h) (s.chooseHigh h) (s.computeRequired h)
        (decide (s.unspentPreference h < s.computeRequired h))).allotted (s.entriesFor taken)
        ((s.recordComputation h).estimateFor h (s.entriesFor taken)) (s.hallPlan h).maximum
        (decide (s.sumOf taken < s.computeRequired h)) := by
  unfold State.committed
  rw [State.recordComputation_eq, State.inc_modInc_same]

theorem State.computedFor_afterSuccess (s : State) (h : HallId) (taken : List BankId) :
    s.computedFor ((s.afterCommit h taken).afterSuccess h) h := by
  have i := State.inc_afterSuccess (s.afterCommit h taken) h
  rw [State.inc_afterCommit, State.committed_eq] at i
  refine ⟨by rw [i]; rfl, by rw [i]; rfl, by rw [i]; rfl, by rw [i]; rfl, by rw [i]; rfl, by rw [i]; rfl,
    by rw [i]; rfl, ?_⟩
  have base : ((s.afterCommit h taken).hall h).clock = (s.hall h).clock := by
    refine (congrArg Hall.clock (State.hall_modHall_same _ h _)).trans rfl
  refine Eq.trans ?_ base
  obtain ⟨-, e⟩ | ⟨-, -, e⟩ := State.afterSuccess_cases (s.afterCommit h taken) h <;> rw [e]
  · rw [State.hall_enterSelecting_same]
  · rw [State.hall_modHall_same]
    rfl

end Sys2Proof.Machine
end

section
/-! A successful attempt states all that R68 says of it; a re-examination is the walk of R72 and R80. -/

namespace Sys2Proof.Machine

/-- The state that a success with the banks `taken` leads to. -/
def State.succeeded (s : State) (h : HallId) (taken : List BankId) : State :=
  (s.afterCommit h taken).afterSuccess h

/-- The state a success leads to: selected from the commitment, or counting from it. -/
theorem State.succeeded_cases (s : State) (h : HallId) (taken : List BankId) :
    (((s.inc h).flags.countdownSpent = true ∨ (s.afterCommit h taken).startDelay h = 0) ∧
      s.succeeded h taken = (s.afterCommit h taken).enterSelecting h) ∨
    ((s.inc h).flags.countdownSpent = false ∧ ¬ (s.afterCommit h taken).startDelay h = 0 ∧
      s.succeeded h taken = (s.afterCommit h taken).modHall h fun x =>
        x.counting ((s.afterCommit h taken).countingState h) (10 * (s.afterCommit h taken).startDelay h)) := by
  have spent : ((s.afterCommit h taken).inc h).flags.countdownSpent = (s.inc h).flags.countdownSpent := by
    rw [State.inc_afterCommit, State.committed_eq]
    rfl
  rw [← spent]
  exact State.afterSuccess_cases (s.afterCommit h taken) h

theorem State.hallState_enterSelecting (s : State) (h : HallId) : (s.enterSelecting h).hallState h = .selecting :=
  congrArg (fun x : Hall => x.inc.state) (State.hall_enterSelecting_same s h)

theorem State.countingState_ne (s : State) (h : HallId) : ¬ s.countingState h = .selecting := by
  unfold State.countingState
  split <;> simp

theorem State.hallState_counting (s : State) (h : HallId) (st : HallState) (n : Nat) :
    (s.modHall h fun x => x.counting st n).hallState h = st := by
  unfold State.hallState
  rw [State.inc_modHall_same]
  rfl

theorem State.work_succeeded (s : State) (h : HallId) (taken : List BankId) : (s.succeeded h taken).work = s.work :=
  State.work_of_outer (State.outer_afterSuccess _ h)

theorem State.inc_succeeded (s : State) (h : HallId) (taken : List BankId) :
    (s.succeeded h taken).inc h =
      { s.committed h taken with
        state := (s.succeeded h taken).hallState h, countdown := ((s.succeeded h taken).inc h).countdown } := by
  have i := State.inc_afterSuccess (s.afterCommit h taken) h
  rw [State.inc_afterCommit] at i
  exact i

theorem State.bank_succeeded (s : State) (h : HallId) (taken : List BankId) (b : BankId) :
    (s.succeeded h taken).bank b = if b ∈ taken then .reserved h else s.bank b := by
  rw [← State.bank_afterCommit]
  unfold State.bank
  obtain ⟨-, e⟩ | ⟨-, -, e⟩ := State.succeeded_cases s h taken <;> rw [e]
  · rw [State.banks_enterSelecting]
  · rw [State.banks_modHall]

theorem State.waitList_succeeded (s : State) (h : HallId) (taken : List BankId) :
    (s.succeeded h taken).waitList = s.waitList.filter fun g => !(g == h) := by
  obtain ⟨-, e⟩ | ⟨-, -, e⟩ := State.succeeded_cases s h taken <;> rw [e]
  · rw [State.waitList_enterSelecting]
    rfl
  · rfl

theorem State.alloc_succeeded (s : State) (h : HallId) (taken : List BankId) :
    ((s.succeeded h taken).inc h).alloc = s.entriesFor taken := by
  rw [State.inc_succeeded, State.committed_eq]
  rfl

theorem State.estimate_succeeded (s : State) (h : HallId) (taken : List BankId) :
    ((s.succeeded h taken).inc h).estimate = (s.succeeded h taken).estimateFor h (s.entriesFor taken) := by
  have w : (s.succeeded h taken).work = (s.recordComputation h).work := State.work_succeeded s h taken
  have e : ((s.succeeded h taken).inc h).tHigh = ((s.recordComputation h).inc h).tHigh := by
    rw [State.inc_succeeded]
    rfl
  rw [State.estimateFor_congr w e, State.inc_succeeded]
  rfl

theorem State.startDelay_succeeded (s : State) (h : HallId) (taken : List BankId) :
    (s.succeeded h taken).startDelay h = (s.afterCommit h taken).startDelay h := by
  have i := State.inc_afterCommit s h taken
  refine State.startDelay_congr (State.work_succeeded s h taken) ?_ ?_ ?_ <;> rw [State.inc_succeeded, i]

theorem State.mayHold_succeeded (s : State) (h : HallId) (taken : List BankId) :
    (s.succeeded h taken).mayHold h = (s.afterCommit h taken).mayHold h := by
  have i := State.inc_afterCommit s h taken
  refine State.mayHold_congr (State.work_succeeded s h taken) ?_ ?_ <;> rw [State.inc_succeeded, i]

/-- A claimed manifold is selected where the hall goes on to SELECTING; every other manifold is as it was (R13, R108). -/
theorem State.man_succeeded (s : State) (h : HallId) (taken : List BankId) (m : ManId) :
    (s.claimedWith h taken m →
      (s.succeeded h taken).man m =
        if (s.succeeded h taken).hallState h = .selecting then
          { s.man m with
            state := .selecting h, timer := .selector (Timer.startSeconds (s.manPlan m).selectorTimeout) }
        else { s.man m with state := .claimed h }) ∧
    (¬ s.claimedWith h taken m → (s.succeeded h taken).man m = s.man m) := by
  have claimed := State.claimed_afterCommit_iff s h taken m
  obtain ⟨-, e⟩ | ⟨-, -, e⟩ := State.succeeded_cases s h taken
  · rw [e, State.hallState_enterSelecting, if_pos rfl, State.man_enterSelecting]
    refine ⟨fun c => ?_, fun c => ?_⟩
    · rw [if_pos (claimed.2 c), State.man_afterCommit_claimed c]
      rfl
    · rw [if_neg (fun k => c (claimed.1 k)), State.man_afterCommit_other c]
  · rw [e, State.hallState_counting, if_neg (State.countingState_ne _ h)]
    exact ⟨fun c => State.man_afterCommit_claimed c, fun c => State.man_afterCommit_other c⟩

/-- The selectors of the claimed manifolds are energised where the hall goes on to SELECTING (R108, R133). -/
theorem State.selectors_succeeded (s : State) (h : HallId) (taken : List BankId) (m : ManId) :
    (s.claimedWith h taken m ∧ (s.succeeded h taken).hallState h = .selecting →
      (s.succeeded h taken).selectors.get m = (s.selectors.get m).set h ⟨true, false⟩ ∧
      (s.succeeded h taken).selCircuits.get m =
        (s.selCircuits.get m).set h
          (((s.selCircuits.get m).get h).map fun c => { c with driven := true, run := none })) ∧
    (¬ (s.claimedWith h taken m ∧ (s.succeeded h taken).hallState h = .selecting) →
      (s.succeeded h taken).selectors.get m = s.selectors.get m ∧
      (s.succeeded h taken).selCircuits.get m = s.selCircuits.get m) := by
  have claimed := State.claimed_afterCommit_iff s h taken m
  obtain ⟨-, e⟩ | ⟨-, -, e⟩ := State.succeeded_cases s h taken
  · rw [e, State.hallState_enterSelecting, State.selectors_enterSelecting, State.selCircuits_enterSelecting]
    rw [and_iff_left rfl, ← claimed]
    refine ⟨fun c => ?_, fun c => ?_⟩
    · rw [if_pos c, if_pos c]
      exact ⟨rfl, rfl⟩
    · rw [if_neg c, if_neg c]
      exact ⟨rfl, rfl⟩
  · rw [e, State.hallState_counting]
    exact ⟨fun c => absurd c.2 (State.countingState_ne _ h), fun _ => ⟨rfl, rfl⟩⟩

theorem State.measuring_succeeded (s : State) (h : HallId) (taken : List BankId) (x : Measurement) :
    (s.succeeded h taken).measuring = some x ↔
      s.measuring = some x ∧
      ¬ ∃ m, x.circuit = .selector m h ∧ s.claimedWith h taken m ∧
        (s.succeeded h taken).hallState h = .selecting := by
  have claimed := State.claimed_afterCommit_iff s h taken
  obtain ⟨-, e⟩ | ⟨-, -, e⟩ := State.succeeded_cases s h taken
  · rw [e, State.hallState_enterSelecting, State.measuring_enterSelecting]
    simp only [and_true, claimed]
    rfl
  · rw [e, State.hallState_counting]
    simp only [State.countingState_ne, and_false, exists_false, not_false_iff, and_true]
    rfl

theorem State.succeeded_selecting (s : State) (h : HallId) (taken : List BankId)
    (c : (s.inc h).flags.countdownSpent = true ∨ (s.succeeded h taken).startDelay h = 0) :
    (s.succeeded h taken).hallState h = .selecting := by
  rw [State.startDelay_succeeded] at c
  obtain ⟨-, e⟩ | ⟨n, z, -⟩ := State.succeeded_cases s h taken
  · rw [e, State.hallState_enterSelecting]
  · simp [n, z] at c

theorem State.succeeded_counting (s : State) (h : HallId) (taken : List BankId)
    (c : (s.inc h).flags.countdownSpent = false) (z : ¬ (s.succeeded h taken).startDelay h = 0) :
    ((s.succeeded h taken).inc h).countdown = some (10 * (s.succeeded h taken).startDelay h) ∧
    (s.succeeded h taken).hallState h =
      if s.holdDemand h = true ∧ (s.succeeded h taken).mayHold h = true then .held else .countdown := by
  rw [State.startDelay_succeeded] at z ⊢
  rw [State.mayHold_succeeded]
  obtain ⟨k, -⟩ | ⟨-, -, e⟩ := State.succeeded_cases s h taken
  · simp [c, z] at k
  · rw [e, State.hallState_counting, State.inc_modHall_same]
    exact ⟨rfl, rfl⟩

/-- A success states all that R68 says of it. -/
theorem State.allocatedTo_succeeded (s : State) (h : HallId) (taken : List BankId) :
    s.allocatedTo (s.succeeded h taken) h taken := by
  refine ⟨State.bank_succeeded s h taken, State.alloc_succeeded s h taken, ?_, ?_, ?_, fun m => ?_,
    State.measuring_succeeded s h taken, State.waitList_succeeded s h taken, State.succeeded_selecting s h taken,
    State.succeeded_counting s h taken⟩
  · rw [State.alloc_succeeded]
    exact State.estimate_succeeded s h taken
  · rw [State.inc_succeeded, State.committed_eq]
    simp [Incident.allotted, Incident.computed, Option.any_eq_true]
  · rw [State.inc_succeeded, State.committed_eq]
    simp [Incident.allotted, Incident.computed]
  · obtain ⟨m1, m2⟩ := State.man_succeeded s h taken m
    obtain ⟨s1, s2⟩ := State.selectors_succeeded s h taken m
    exact ⟨m1, m2, s1, s2⟩

/-- An attempt in a re-examination (R72, R80). -/
theorem State.examinedTo_attempt (s : State) (h : HallId) (guarded : List BankId) :
    s.examinedTo (s.attempt h guarded).1 h guarded := by
  obtain ⟨ok, e⟩ | ⟨no, e⟩ := State.attempt_cases s h guarded
  · refine ⟨fun _ => ?_, fun no => absurd (ok.symm.trans no) (by simp)⟩
    refine ⟨by rw [e]; exact State.computedFor_afterSuccess s h _, by rw [e]; exact State.allocatedTo_succeeded s h _, ?_⟩
    have others := State.halls_of_others (s := s) (t := (s.attempt h guarded).1) (h := h) fun g n =>
      State.hall_attempt_other s guarded (fun x => n x.symm)
    have whole := State.eq_of_still (State.still_attempt s h guarded)
    rw [others] at whole
    exact whole
  · exact ⟨fun ok => absurd (ok.symm.trans no) (by simp), fun _ => by rw [e]⟩

theorem State.attempt_succeeds (s : State) (h : HallId) (guarded : List BankId) :
    (s.attempt h guarded).2 = s.attemptSucceeds h (s.attemptTakes h guarded) := by
  obtain ⟨ok, e⟩ | ⟨no, e⟩ := State.attempt_cases s h guarded <;> simp [*]

theorem State.walkedTo_walkHalls (l : List HallId) (guarded : List BankId) (s : State) :
    State.walkedTo l guarded s (State.walkHalls l guarded s) := by
  induction l generalizing guarded s with
  | nil => rfl
  | cons h rest ih =>
    refine ⟨(s.attempt h guarded).1, State.examinedTo_attempt s h guarded, fun ok => ?_, fun no => ?_⟩
    · simp only [State.walkHalls, State.attempt_succeeds, ok, if_true]
      exact ih _ _
    · simp only [State.walkHalls, State.attempt_succeeds, no, Bool.false_eq_true, if_false]
      exact ih _ _

/-- A re-examination is the walk over the wait list as it stands (R80). -/
theorem State.reexaminedTo_reexamine (s : State) : s.reexaminedTo s.reexamine :=
  State.walkedTo_walkHalls s.waitList [] s

end Sys2Proof.Machine
end

section
/-! The walk of a preference list goes through a first part of it (R67), and what eligibility, success, protection, rank and delay
spell out (R18, R69, R71, R73, R91). Settles O30. -/

namespace Sys2Proof.Machine

/-- A walk goes through a first part of its list: it takes all it may there, stops at the first entry that brings the total
to the target or at the end of the list, and is below the target before (R67). -/
theorem walk_through (may : BankId → Bool) (quantity : BankId → Nat) (target cum : Nat) (l : List BankId) :
    ∃ n, n ≤ l.length ∧ walk may quantity target cum l = (l.take n).filter may ∧
      (n = l.length ∨ target ≤ cum + ((walk may quantity target cum l).map quantity).sum) ∧
      ∀ k, k < n → cum + (((l.take k).filter may).map quantity).sum < target := by
  induction l generalizing cum with
  | nil => exact ⟨0, Nat.le_refl _, rfl, Or.inl rfl, fun k hk => absurd hk (Nat.not_lt_zero k)⟩
  | cons b rest ih =>
    by_cases stop : target ≤ cum
    · refine ⟨0, Nat.zero_le _, ?_, ?_, fun k hk => absurd hk (Nat.not_lt_zero k)⟩
      · simp [walk, stop]
      · right
        omega
    · by_cases ok : may b = true
      · obtain ⟨n, le, e, ends, below⟩ := ih (cum + quantity b)
        refine ⟨n + 1, by simpa using le, ?_, ?_, ?_⟩
        · simp [walk, stop, ok, e]
        · simp only [walk, stop, ok, if_true, if_false, List.length_cons, List.map_cons, List.sum_cons]
          obtain ends | ends := ends
          · exact Or.inl (by omega)
          · exact Or.inr (by omega)
        · intro k hk
          cases k with
          | zero => simpa using stop
          | succ k =>
            have := below k (by omega)
            simp [ok]
            omega
      · obtain ⟨n, le, e, ends, below⟩ := ih cum
        refine ⟨n + 1, by simpa using le, ?_, ?_, ?_⟩
        · simp [walk, stop, ok, e]
        · simp only [walk, stop, ok, if_false, List.length_cons, Bool.false_eq_true]
          obtain ends | ends := ends
          · exact Or.inl (by omega)
          · exact Or.inr ends
        · intro k hk
          cases k with
          | zero => simpa using stop
          | succ k => simpa [ok] using below k (by omega)

/-! ## Eligibility, success, protection, rank and delay, spelled out -/

theorem Condition.usable_iff (c : Condition) : c.usable = true ↔ c = .normal ∨ c = .untested := by
  cases c <;> simp [Condition.usable]

theorem State.circuitUsable_iff (s : State) (c : CircuitId) :
    s.circuitUsable c = true ↔ ∃ x, s.circuit c = some x ∧ (x.condition = .normal ∨ x.condition = .untested) := by
  unfold State.circuitUsable
  cases s.circuit c with
  | none => simp
  | some x => simp [Condition.usable_iff]

theorem ManState.openTo_iff (h : HallId) (x : ManState) : x.openTo h = true ↔ x = .free ∨ x.holder = some h := by
  cases x <;> simp [ManState.openTo, ManState.holder]

theorem State.eligible_iff (s : State) (h : HallId) (b : BankId) :
    s.eligible h b = true ↔
      s.bank b = .ready ∧ s.work.bankIsolated.get b = false ∧
      (∃ x, s.circuit (.bank b) = some x ∧ (x.condition = .normal ∨ x.condition = .untested)) ∧
      s.lowPressure b = false ∧ (s.bankPlan b).role = s.selection ∧
      (s.manPlan (s.manifoldOf b)).reach.get h = true ∧
      (∃ x, s.circuit (.selector (s.manifoldOf b) h) = some x ∧
        (x.condition = .normal ∨ x.condition = .untested)) ∧
      ((s.man (s.manifoldOf b)).state = .free ∨ s.holder (s.manifoldOf b) = some h) := by
  unfold State.eligible State.holder
  simp only [Bool.and_eq_true, beq_iff_eq, Bool.not_eq_true', State.circuitUsable_iff, ManState.openTo_iff, and_assoc]

theorem State.attemptSucceeds_iff (s : State) (h : HallId) (taken : List BankId) :
    s.attemptSucceeds h taken = true ↔
      s.computeRequired h ≤ s.sumOf taken ∨
      ((s.hallPlan h).partialPermitted = true ∧ (∃ w, (s.hall h).wait = some w ∧ w.elapsed = true) ∧
        ¬ taken = []) := by
  unfold State.attemptSucceeds State.partialMode
  cases (s.hall h).wait with
  | none => simp
  | some w => simp [and_assoc]

theorem State.mem_protectedFrom (s : State) (h : HallId) (b : BankId) :
    b ∈ s.protectedFrom h ↔ ∃ g, g ∈ s.waitList ∧ s.ranksBefore g h = true ∧ b ∈ (s.hallPlan g).preference := by
  simp [State.protectedFrom, State.preference, and_assoc]

theorem State.ranksBefore_iff (s : State) {g h : HallId} {m n : Nat} (hg : (s.inc g).confNumber = some m)
    (hh : (s.inc h).confNumber = some n) : s.ranksBefore g h = true ↔ m < n ∨ (m = n ∧ g.num < h.num) := by
  simp [State.ranksBefore, State.rankNumber, hg, hh]

theorem HallPlan.longerDelay_eq (p : HallPlan) :
    p.longerDelay = if p.autoDelay ≤ p.manualDelay then p.manualDelay else p.autoDelay := by
  unfold HallPlan.longerDelay
  split <;> omega

end Sys2Proof.Machine

open Sys2Proof Sys2Proof.Machine in
/-- Settles O30: the walk by induction over the preference list, the re-examination by `State.reexaminedTo_reexamine`. -/
theorem walkTakesShortestPrefix : Obligations.WalkTakesShortestPrefix := by
  intro h guarded s
  refine ⟨?_, s.eligible_iff h, s.attemptSucceeds_iff h, s.mem_protectedFrom h, rfl, fun g m n => s.ranksBefore_iff,
    s.reexaminedTo_reexamine, fun high => ?_, fun low => ⟨fun manual => ?_, fun zone unseen => ?_⟩⟩
  · obtain ⟨n, le, e, ends, below⟩ := walk_through (fun b => s.eligible h b && !guarded.contains b) s.quantity
      (s.computeRequired h) 0 (s.preference h)
    simp only [Nat.zero_add] at ends below
    exact ⟨n, le, e, ends, below⟩
  · simp [State.startDelay, high, HallPlan.longerDelay_eq]
  · obtain c | c | c := manual <;> simp [State.startDelay, low, c, manualCause]
  · obtain c | c | c := zone <;> simp [State.startDelay, low, c, unseen, manualCause]
end

section
/-! The return of reservations (R16, R87) and the entry to WAITING at a rank (R76), read back field by field. -/

namespace Sys2Proof.Machine

/-! ## A manifold released (R16) -/

theorem State.freeManifold_eq {s : State} {h : HallId} {m : ManId} (e : s.holder m = some h) :
    s.freeManifold m = (s.deEnergise m h).modMan m fun _ => { state := .free, flowConfirmed := false, timer := .stopped } := by
  unfold State.freeManifold
  rw [e]

theorem State.holder_of_pending {s : State} {h : HallId} {m : ManId}
    (c : (s.man m).state = .claimed h ∨ (s.man m).state = .selecting h) : s.holder m = some h := by
  unfold State.holder
  obtain c | c := c <;> rw [c] <;> rfl

@[simp] theorem State.banks_freeManifold (s : State) (m : ManId) : (s.freeManifold m).banks = s.banks := by
  unfold State.freeManifold
  cases s.holder m <;> rfl

@[simp] theorem State.waitList_freeManifold (s : State) (m : ManId) : (s.freeManifold m).waitList = s.waitList := by
  unfold State.freeManifold
  cases s.holder m <;> rfl

@[simp] theorem State.measuring_freeManifold (s : State) (m : ManId) : (s.freeManifold m).measuring = s.measuring := by
  unfold State.freeManifold
  cases s.holder m <;> rfl

theorem State.man_freeManifold (s : State) (m n : ManId) :
    (s.freeManifold m).man n =
      if m = n then { state := .free, flowConfirmed := false, timer := .stopped } else s.man n := by
  unfold State.freeManifold
  cases s.holder m <;> exact State.man_modMan _ _ _ _

theorem State.selectors_freeManifold {s : State} {h : HallId} {m : ManId} (e : s.holder m = some h) (n : ManId) :
    (s.freeManifold m).selectors.get n =
      if m = n then (s.selectors.get n).set h ⟨false, false⟩ else s.selectors.get n := by
  rw [State.freeManifold_eq e, State.selectors_modMan, State.selectors_deEnergise, PerMan.get_set]
  split
  · rename_i same
    rw [same]
  · rfl

theorem State.selCircuits_freeManifold {s : State} {h : HallId} {m : ManId} (e : s.holder m = some h) (n : ManId) :
    (s.freeManifold m).selCircuits.get n =
      if m = n then
        (s.selCircuits.get n).set h (((s.selCircuits.get n).get h).map fun c => { c with driven := false })
      else s.selCircuits.get n := by
  rw [State.freeManifold_eq e, State.selCircuits_modMan, State.selCircuits_deEnergise, PerMan.get_set]
  split
  · rename_i same
    rw [same]
  · rfl

@[simp] theorem State.banks_releaseManifold (s : State) (h : HallId) (m : ManId) :
    (s.releaseManifold h m).banks = s.banks := by
  unfold State.releaseManifold
  split <;> simp

@[simp] theorem State.waitList_releaseManifold (s : State) (h : HallId) (m : ManId) :
    (s.releaseManifold h m).waitList = s.waitList := by
  unfold State.releaseManifold
  split <;> simp

@[simp] theorem State.measuring_releaseManifold (s : State) (h : HallId) (m : ManId) :
    (s.releaseManifold h m).measuring = s.measuring := by
  unfold State.releaseManifold
  split <;> simp

/-- A release frees the manifold that the hall holds CLAIMED or SELECTING, and no other. -/
theorem State.man_releaseManifold (s : State) (h : HallId) (m n : ManId) :
    (s.releaseManifold h m).man n =
      if m = n ∧ ((s.man n).state = .claimed h ∨ (s.man n).state = .selecting h) then
        { state := .free, flowConfirmed := false, timer := .stopped }
      else s.man n := by
  unfold State.releaseManifold
  by_cases e : m = n
  · subst e
    by_cases c : (s.man m).state = .claimed h ∨ (s.man m).state = .selecting h
    · rw [if_pos c, if_pos ⟨rfl, c⟩, State.man_freeManifold, if_pos rfl]
    · rw [if_neg c, if_neg fun k : m = m ∧ _ => c k.2]
  · by_cases c : (s.man m).state = .claimed h ∨ (s.man m).state = .selecting h
    · rw [if_pos c, State.man_freeManifold, if_neg e, if_neg fun k => e k.1]
    · rw [if_neg c, if_neg fun k => e k.1]

theorem State.selectors_releaseManifold (s : State) (h : HallId) (m n : ManId) :
    (s.releaseManifold h m).selectors.get n =
      if m = n ∧ ((s.man n).state = .claimed h ∨ (s.man n).state = .selecting h) then
        (s.selectors.get n).set h ⟨false, false⟩
      else s.selectors.get n := by
  unfold State.releaseManifold
  by_cases e : m = n
  · subst e
    by_cases c : (s.man m).state = .claimed h ∨ (s.man m).state = .selecting h
    · rw [if_pos c, if_pos ⟨rfl, c⟩, State.selectors_freeManifold (State.holder_of_pending c), if_pos rfl]
    · rw [if_neg c, if_neg fun k : m = m ∧ _ => c k.2]
  · by_cases c : (s.man m).state = .claimed h ∨ (s.man m).state = .selecting h
    · rw [if_pos c, State.selectors_freeManifold (State.holder_of_pending c), if_neg e, if_neg fun k => e k.1]
    · rw [if_neg c, if_neg fun k => e k.1]

theorem State.selCircuits_releaseManifold (s : State) (h : HallId) (m n : ManId) :
    (s.releaseManifold h m).selCircuits.get n =
      if m = n ∧ ((s.man n).state = .claimed h ∨ (s.man n).state = .selecting h) then
        (s.selCircuits.get n).set h (((s.selCircuits.get n).get h).map fun c => { c with driven := false })
      else s.selCircuits.get n := by
  unfold State.releaseManifold
  by_cases e : m = n
  · subst e
    by_cases c : (s.man m).state = .claimed h ∨ (s.man m).state = .selecting h
    · rw [if_pos c, if_pos ⟨rfl, c⟩, State.selCircuits_freeManifold (State.holder_of_pending c), if_pos rfl]
    · rw [if_neg c, if_neg fun k : m = m ∧ _ => c k.2]
  · by_cases c : (s.man m).state = .claimed h ∨ (s.man m).state = .selecting h
    · rw [if_pos c, State.selCircuits_freeManifold (State.holder_of_pending c), if_neg e, if_neg fun k => e k.1]
    · rw [if_neg c, if_neg fun k => e k.1]

/-! ## Both manifolds released -/

/-- Both manifolds, released in turn: each that the hall holds CLAIMED or SELECTING is FREE, its selector off (R16). -/
theorem State.manifoldsFreed_releaseBoth (s : State) (h : HallId) :
    s.manifoldsFreed ((s.releaseManifold h .m1).releaseManifold h .m2) h fun m =>
      (s.man m).state = .claimed h ∨ (s.man m).state = .selecting h := by
  intro m
  cases m <;>
    simp +contextual [State.man_releaseManifold, State.selectors_releaseManifold, State.selCircuits_releaseManifold]

/-! ## The return (R87) -/

/-- The entries that stay in the list of a hall when its reservations are returned: those not RESERVED to it. -/
def State.keptEntries (s : State) (h : HallId) : List AllocEntry :=
  (s.inc h).alloc.filter fun e => !(s.bank e.bank == .reserved h)

/-- A record whose reservations were returned (R87). -/
def Incident.returned (i : Incident) (kept : List AllocEntry) : Incident :=
  { i with alloc := kept, estimate := if kept = [] then none else i.estimate }

/-- Steps 1 to 3 of R87: the banks RESERVED to the hall are READY and out of its list. -/
def State.handBack (s : State) (h : HallId) : State :=
  { s with banks := s.banks.mapId fun b (x : BankState) => x.giveBack h ((s.inc h).allocBanks.contains b) }.modInc h
    fun i => i.returned (s.keptEntries h)

theorem State.returnAll_eq (s : State) (h : HallId) :
    s.returnAll h = ((s.handBack h).releaseManifold h .m1).releaseManifold h .m2 := by
  have record : ∀ i : Incident, i.returned (s.keptEntries h) =
      { i with
        alloc := s.keptEntries h, estimate := if (s.keptEntries h).isEmpty then none else i.estimate } := by
    intro i
    simp [Incident.returned]
  unfold State.handBack
  simp only [record]
  rfl

theorem State.hall_returnAll (s : State) (h : HallId) :
    (s.returnAll h).hall h = { s.hall h with inc := (s.inc h).returned (s.keptEntries h) } := by
  rw [State.returnAll_eq, State.hall_of_halls (State.halls_releaseManifold _ _ _),
    State.hall_of_halls (State.halls_releaseManifold _ _ _)]
  exact State.hall_modHall_same _ h _

theorem State.inc_returnAll (s : State) (h : HallId) :
    (s.returnAll h).inc h = (s.inc h).returned (s.keptEntries h) := congrArg Hall.inc (State.hall_returnAll s h)

@[simp] theorem State.waitList_returnAll (s : State) (h : HallId) : (s.returnAll h).waitList = s.waitList := by
  rw [State.returnAll_eq, State.waitList_releaseManifold, State.waitList_releaseManifold]
  rfl

@[simp] theorem State.measuring_returnAll (s : State) (h : HallId) : (s.returnAll h).measuring = s.measuring := by
  rw [State.returnAll_eq, State.measuring_releaseManifold, State.measuring_releaseManifold]
  rfl

theorem State.bank_returnAll (s : State) (h : HallId) (b : BankId) :
    (s.returnAll h).bank b = if b ∈ (s.inc h).allocBanks ∧ s.bank b = .reserved h then .ready else s.bank b := by
  unfold State.bank
  rw [State.returnAll_eq, State.banks_releaseManifold, State.banks_releaseManifold]
  simp [State.handBack, BankState.giveBack]

/-- Every reservation and claim of a hall is given back (R7, R16, R87). -/
theorem State.handedBack_returnAll (s : State) (h : HallId) : s.handedBack (s.returnAll h) h := by
  refine ⟨State.bank_returnAll s h, ?_⟩
  rw [State.returnAll_eq]
  exact State.manifoldsFreed_releaseBoth (s.handBack h) h

/-! ## The wait list (R75, R76) -/

theorem insertAt_split (before : HallId → Bool) (h : HallId) (l : List HallId) :
    ∃ front back, l = front ++ back ∧ insertAt before h l = front ++ h :: back ∧ (∀ g, g ∈ front → before g = true) ∧
      ∀ g, back.head? = some g → before g = false := by
  induction l with
  | nil => exact ⟨[], [], rfl, rfl, by simp, by simp⟩
  | cons a rest ih =>
    obtain ⟨front, back, e, i, f, n⟩ := ih
    by_cases c : before a = true
    · refine ⟨a :: front, back, by simp [e], by simp [insertAt, c, i], ?_, n⟩
      intro g hg
      obtain rfl | hg := List.mem_cons.1 hg
      · exact c
      · exact f g hg
    · exact ⟨[], a :: rest, rfl, by simp [insertAt, c], by simp, by simpa using c⟩

/-- A hall that does not wait joins the wait list at its rank (R76). -/
theorem State.joinWaitList_split {s : State} {h : HallId} (n : ¬ h ∈ s.waitList) :
    ∃ before after, s.waitList = before ++ after ∧ (s.joinWaitList h).waitList = before ++ h :: after ∧
      (∀ g, g ∈ before → s.ranksBefore g h = true) ∧ ∀ g, after.head? = some g → s.ranksBefore g h = false := by
  unfold State.joinWaitList
  rw [if_neg (by simpa using n)]
  exact insertAt_split _ h s.waitList

/-- A hall that enters WAITING (R53). -/
def Hall.waits (x : Hall) : Hall := { x with inc := { x.inc with state := .waiting, countdown := none } }

theorem State.enterWaiting_eq (s : State) (h : HallId) : s.enterWaiting h = (s.modHall h Hall.waits).joinWaitList h := rfl

theorem State.hall_enterWaiting (s : State) (h : HallId) : (s.enterWaiting h).hall h = (s.hall h).waits := by
  rw [State.enterWaiting_eq, State.hall_of_halls (State.halls_joinWaitList _ _), State.hall_modHall_same]

@[simp] theorem State.banks_joinWaitList (s : State) (h : HallId) : (s.joinWaitList h).banks = s.banks := by
  unfold State.joinWaitList
  split <;> rfl

@[simp] theorem State.mans_joinWaitList (s : State) (h : HallId) : (s.joinWaitList h).mans = s.mans := by
  unfold State.joinWaitList
  split <;> rfl

@[simp] theorem State.selectors_joinWaitList (s : State) (h : HallId) : (s.joinWaitList h).selectors = s.selectors := by
  unfold State.joinWaitList
  split <;> rfl

@[simp] theorem State.selCircuits_joinWaitList (s : State) (h : HallId) :
    (s.joinWaitList h).selCircuits = s.selCircuits := by
  unfold State.joinWaitList
  split <;> rfl

@[simp] theorem State.measuring_joinWaitList (s : State) (h : HallId) : (s.joinWaitList h).measuring = s.measuring := by
  unfold State.joinWaitList
  split <;> rfl

@[simp] theorem State.banks_enterWaiting (s : State) (h : HallId) : (s.enterWaiting h).banks = s.banks := by
  simp [State.enterWaiting]

@[simp] theorem State.mans_enterWaiting (s : State) (h : HallId) : (s.enterWaiting h).mans = s.mans := by
  simp [State.enterWaiting]

@[simp] theorem State.selectors_enterWaiting (s : State) (h : HallId) : (s.enterWaiting h).selectors = s.selectors := by
  simp [State.enterWaiting]

@[simp] theorem State.selCircuits_enterWaiting (s : State) (h : HallId) :
    (s.enterWaiting h).selCircuits = s.selCircuits := by
  simp [State.enterWaiting]

@[simp] theorem State.measuring_enterWaiting (s : State) (h : HallId) : (s.enterWaiting h).measuring = s.measuring := by
  simp [State.enterWaiting]

theorem State.ranksBefore_congr {s t : State} {g h : HallId} (a : (t.inc g).confNumber = (s.inc g).confNumber)
    (b : (t.inc h).confNumber = (s.inc h).confNumber) : t.ranksBefore g h = s.ranksBefore g h := by
  unfold State.ranksBefore State.rankNumber
  rw [a, b]

end Sys2Proof.Machine
end

section
/-! The laws of the tables hall by hall. `State.Sound` gathers them with the laws of the lists and of the store, and on
demand with write-before-fire; `State.Apart` is all of it that does not speak of one hall, which an allocation, a return or
a withdrawal of that hall keeps. -/

namespace Sys2Proof.Machine

/-! ## The laws, hall by hall -/

/-- What the laws of the tables say of one hall (R6, R13, R61, R75, R87, R123). -/
structure State.HallLaw (s : State) (h : HallId) : Prop where
  waits : h ∈ s.waitList ↔ s.hallState h = .waiting
  reserved : ∀ b, s.bank b = .reserved h →
    (s.hallState h = .countdown ∨ s.hallState h = .held ∨ s.hallState h = .selecting) ∧
    b ∈ (s.inc h).allocBanks ∧ s.holder (s.manifoldOf b) = some h
  firing : ∀ b, s.bank b = .firing h →
    s.hallState h = .discharging ∧ b ∈ (s.inc h).allocBanks ∧ s.holder (s.manifoldOf b) = some h
  held : ∀ m, s.holder m = some h → s.heldLaw m
  list : s.allocLaw h
  timer : s.dischargeLaw h
  once : (s.inc h).allocBanks.Nodup

/-- What write-before-fire adds to the laws of the tables: the marks under way, the marks recorded and the initiators
(R9, R118, R119, R180). -/
structure State.MarkLaw (s : State) : Prop where
  initiators : s.initiatorLaw
  pulsing : ∀ b, s.inPulsing b → s.nvSpent.get b = true ∧ s.initiators.get b = true
  marks : s.marksLaw
  spent : s.spentLaw

/-- The laws of the tables, of the lists and of the store together; write-before-fire as well where `full` asks for it. -/
structure State.Sound (full : Prop) (s : State) : Prop where
  ranked : s.waitList.Pairwise fun g h => s.ranksBefore g h = true
  halls : ∀ h, s.HallLaw h
  queue : s.queueLaw
  pulsed : ∀ b, s.pulsedLaw b
  preferences : ∀ h, (s.preference h).Nodup ∧ (s.nvPlan.halls.get h).preference.Nodup
  store : s.storeLaw
  marked : full → s.MarkLaw

theorem State.heldLaw_of_free {s : State} {m : ManId} (e : s.holder m = none) : s.heldLaw m := by
  unfold State.holder at e
  unfold State.heldLaw
  cases c : (s.man m).state <;> simp_all [ManState.holder]

theorem State.tableLaw_iff (s : State) :
    (s.tableLaw ∧ ∀ h, (s.inc h).allocBanks.Nodup) ↔
      (s.waitList.Pairwise fun g h => s.ranksBefore g h = true) ∧ (∀ h, s.HallLaw h) ∧ s.queueLaw := by
  constructor
  · rintro ⟨⟨⟨waits, ranked⟩, bank, held, list, queue, timer⟩, once⟩
    refine ⟨ranked, fun h => ⟨waits h, fun b e => ?_, fun b e => ?_, fun m _ => held m, list h, timer h, once h⟩, queue⟩
    · simpa [State.bankLaw, e] using bank b
    · simpa [State.bankLaw, e] using bank b
  · rintro ⟨ranked, halls, queue⟩
    refine ⟨⟨⟨fun h => (halls h).waits, ranked⟩, fun b => ?_, fun m => ?_, fun h => (halls h).list, queue,
      fun h => (halls h).timer⟩, fun h => (halls h).once⟩
    · unfold State.bankLaw
      split
      · rename_i h e
        exact (halls h).reserved b e
      · rename_i h e
        exact (halls h).firing b e
      · trivial
      · trivial
    · cases e : s.holder m with
      | none => exact State.heldLaw_of_free e
      | some h => exact (halls h).held m e

theorem State.sound_iff_tables (s : State) :
    s.Sound False ↔ s.tableLaw ∧ (∀ b, s.pulsedLaw b) ∧ s.listLaw ∧ s.storeLaw := by
  constructor
  · rintro ⟨ranked, halls, queue, pulsed, preferences, store, -⟩
    obtain ⟨table, once⟩ := s.tableLaw_iff.2 ⟨ranked, halls, queue⟩
    exact ⟨table, pulsed, fun h => ⟨once h, preferences h⟩, store⟩
  · rintro ⟨table, pulsed, lists, store⟩
    obtain ⟨ranked, halls, queue⟩ := s.tableLaw_iff.1 ⟨table, fun h => (lists h).1⟩
    exact ⟨ranked, halls, queue, pulsed, fun h => (lists h).2, store, False.elim⟩

/-- With the laws of the tables a pulsing bank's hall runs no discharge timer (R118, R123). -/
theorem State.discharge_of_pulsing {s : State} {b : BankId} {h : HallId} (timer : s.dischargeLaw h)
    (p : s.inPulsing b) (l : b ∈ (s.inc h).allocBanks) : (s.hall h).discharge = none := by
  cases e : (s.hall h).discharge with
  | none => rfl
  | some t =>
    obtain ⟨-, all⟩ := timer (by rw [e]; rfl)
    exact absurd p (all b l).2

theorem State.sound_iff_fire (s : State) : s.Sound True ↔ s.fireLaw ∧ s.listLaw ∧ s.storeLaw := by
  constructor
  · rintro ⟨ranked, halls, queue, pulsed, preferences, store, marked⟩
    obtain ⟨initiators, pulsing, marks, spent⟩ := marked trivial
    obtain ⟨table, once⟩ := s.tableLaw_iff.2 ⟨ranked, halls, queue⟩
    refine ⟨⟨table, initiators, fun b p => ?_, marks, spent⟩, fun h => ⟨once h, preferences h⟩, store⟩
    obtain ⟨e, h, m, l, d⟩ := pulsed b p
    exact ⟨e, (pulsing b p).1, (pulsing b p).2, h, m, l, d, State.discharge_of_pulsing (halls h).timer p l⟩
  · rintro ⟨⟨table, initiators, pulse, marks, spent⟩, lists, store⟩
    obtain ⟨ranked, halls, queue⟩ := s.tableLaw_iff.1 ⟨table, fun h => (lists h).1⟩
    refine ⟨ranked, halls, queue, fun b p => ?_, fun h => (lists h).2, store, fun _ =>
      ⟨initiators, fun b p => ?_, marks, spent⟩⟩
    · obtain ⟨e, -, -, h, m, l, d, -⟩ := pulse b p
      exact ⟨e, h, m, l, d⟩
    · obtain ⟨-, n, i, -⟩ := pulse b p
      exact ⟨n, i⟩

/-! ## All but one hall -/

/-- All that the laws say of everything but hall `h`, which is not in its release: none of its banks fires or pulses and its
discharge timer does not run. -/
structure State.Apart (full : Prop) (h : HallId) (s : State) : Prop where
  ranked : (s.waitList.filter fun g => !(g == h)).Pairwise fun f g => s.ranksBefore f g = true
  others : ∀ g, ¬ g = h → s.HallLaw g
  firing : ∀ b, ¬ s.bank b = .firing h
  timer : (s.hall h).discharge = none
  queue : s.queueLaw
  pulsed : ∀ b, s.inPulsing b →
    s.bank b = .spent ∧
    ∃ g, ¬ g = h ∧ (s.man (s.manifoldOf b)).state = .charged g ∧ b ∈ (s.inc g).allocBanks ∧
      s.hallState g = .discharging
  preferences : ∀ g, (s.preference g).Nodup ∧ (s.nvPlan.halls.get g).preference.Nodup
  store : s.storeLaw
  marked : full → s.MarkLaw

theorem State.Sound.apart {full : Prop} {s : State} (w : s.Sound full) {h : HallId}
    (n : ¬ s.hallState h = .discharging) : s.Apart full h := by
  obtain ⟨ranked, halls, queue, pulsed, preferences, store, marked⟩ := w
  refine ⟨ranked.filter _, fun g _ => halls g, fun b e => n ((halls h).firing b e).1, ?_, queue, fun b p => ?_,
    preferences, store, marked⟩
  · cases e : (s.hall h).discharge with
    | none => rfl
    | some t => exact absurd ((halls h).timer (by rw [e]; rfl)).1 n
  · obtain ⟨e, g, m, l, d⟩ := pulsed b p
    refine ⟨e, g, ?_, m, l, d⟩
    rintro rfl
    exact n d

/-- A state is sound where everything but one hall is, and that hall's own law holds. -/
theorem State.Apart.sound {full : Prop} {s : State} {h : HallId} (a : s.Apart full h) (own : s.HallLaw h)
    (ranked : s.waitList.Pairwise fun f g => s.ranksBefore f g = true) : s.Sound full := by
  refine ⟨ranked, fun g => ?_, a.queue, fun b p => ?_, a.preferences, a.store, a.marked⟩
  · by_cases e : g = h
    · rw [e]
      exact own
    · exact a.others g e
  · obtain ⟨e, g, -, m, l, d⟩ := a.pulsed b p
    exact ⟨e, g, m, l, d⟩

theorem State.Apart.sound_of_not_waiting {full : Prop} {s : State} {h : HallId} (a : s.Apart full h)
    (own : s.HallLaw h) (n : ¬ h ∈ s.waitList) : s.Sound full := by
  refine a.sound own ?_
  have same : (s.waitList.filter fun g => !(g == h)) = s.waitList := by
    rw [List.filter_eq_self]
    intro g hg
    have : ¬ g = h := fun e => n (e ▸ hg)
    simpa using this
  rw [← same]
  exact a.ranked

/-! ## Changes that concern one hall alone -/

/-- A bank is open to a hall: READY, or RESERVED to it. -/
def BankState.within (h : HallId) (x : BankState) : Prop := x = .ready ∨ x = .reserved h

/-- A manifold is open to a hall: FREE, or held by it. -/
def ManState.within (h : HallId) (x : ManState) : Prop := x.holder = none ∨ x.holder = some h

/-- The part of the state that the laws of the release speak of and no allocation writes. -/
def State.frame (s : State) :=
  (s.work, s.nvPlan, s.nvSpent, s.initiators, s.write, s.markQueue, s.queue, s.slots)

/-- From `s` to `t` nothing moved but hall `h`'s own record, banks open to it and manifolds open to it. -/
structure State.Moves (h : HallId) (s t : State) : Prop where
  frame : t.frame = s.frame
  others : ∀ g, ¬ g = h → t.hall g = s.hall g
  timer : (t.hall h).discharge = (s.hall h).discharge ∨ (t.hall h).discharge = none
  banks : ∀ b, t.bank b = s.bank b ∨ ((s.bank b).within h ∧ (t.bank b).within h)
  mans : ∀ m, (t.man m).state = (s.man m).state ∨ ((s.man m).state.within h ∧ (t.man m).state.within h)
  waits : (t.waitList.filter fun g => !(g == h)) = s.waitList.filter fun g => !(g == h)

theorem State.frame_iff (s t : State) :
    t.frame = s.frame ↔
      t.work = s.work ∧ t.nvPlan = s.nvPlan ∧ t.nvSpent = s.nvSpent ∧ t.initiators = s.initiators ∧
      t.write = s.write ∧ t.markQueue = s.markQueue ∧ t.queue = s.queue ∧ t.slots = s.slots := by
  simp [State.frame]

theorem State.frame_of_still {s t : State} (e : t.still = s.still) : t.frame = s.frame := by
  have o := State.outer_of_still e
  exact (State.frame_iff s t).2 ⟨State.work_of_outer o, State.nvPlan_of_outer o, State.nvSpent_of_outer o,
    State.initiators_of_outer o, State.write_of_still e, State.markQueue_of_still e, State.queue_of_still e,
    State.slots_of_still e⟩

theorem State.Moves.refl (h : HallId) (s : State) : State.Moves h s s :=
  ⟨rfl, fun _ _ => rfl, Or.inl rfl, fun _ => Or.inl rfl, fun _ => Or.inl rfl, rfl⟩

theorem State.Moves.trans {h : HallId} {s t u : State} (a : State.Moves h s t) (b : State.Moves h t u) :
    State.Moves h s u := by
  refine ⟨b.frame.trans a.frame, fun g n => (b.others g n).trans (a.others g n), ?_, fun c => ?_, fun m => ?_,
    b.waits.trans a.waits⟩
  · obtain e | e := b.timer
    · rw [e]
      exact a.timer
    · exact Or.inr e
  · obtain e | ⟨x, y⟩ := b.banks c
    · rw [e]
      exact a.banks c
    · obtain e | ⟨x', -⟩ := a.banks c
      · rw [e] at x
        exact Or.inr ⟨x, y⟩
      · exact Or.inr ⟨x', y⟩
  · obtain e | ⟨x, y⟩ := b.mans m
    · rw [e]
      exact a.mans m
    · obtain e | ⟨x', -⟩ := a.mans m
      · rw [e] at x
        exact Or.inr ⟨x, y⟩
      · exact Or.inr ⟨x', y⟩

section
variable {h : HallId} {s t : State} (a : State.Moves h s t)
include a

theorem State.Moves.manifoldOf (b : BankId) : t.manifoldOf b = s.manifoldOf b := by
  unfold State.manifoldOf State.bankPlan
  rw [((State.frame_iff s t).1 a.frame).1]

theorem State.Moves.bank_iff {x : BankState} (n : ¬ x.within h) (b : BankId) : t.bank b = x ↔ s.bank b = x := by
  obtain e | ⟨y, z⟩ := a.banks b
  · rw [e]
  · constructor
    · rintro rfl
      exact absurd z n
    · rintro rfl
      exact absurd y n

theorem State.Moves.man_iff {x : ManState} (n : ¬ x.within h) (m : ManId) :
    (t.man m).state = x ↔ (s.man m).state = x := by
  obtain e | ⟨y, z⟩ := a.mans m
  · rw [e]
  · constructor
    · rintro rfl
      exact absurd z n
    · rintro rfl
      exact absurd y n

theorem State.Moves.slots : t.slots = s.slots := ((State.frame_iff s t).1 a.frame).2.2.2.2.2.2.2

theorem State.Moves.inPulsing (b : BankId) : t.inPulsing b ↔ s.inPulsing b := by
  unfold State.inPulsing
  rw [a.slots]

theorem State.Moves.inMarking (b : BankId) : t.inMarking b ↔ s.inMarking b := by
  unfold State.inMarking
  rw [a.slots]

theorem State.Moves.firing_iff (g : HallId) (b : BankId) : t.bank b = .firing g ↔ s.bank b = .firing g :=
  a.bank_iff (by simp [BankState.within]) b

theorem State.Moves.spent_iff (b : BankId) : t.bank b = .spent ↔ s.bank b = .spent :=
  a.bank_iff (by simp [BankState.within]) b

theorem State.Moves.reserved_iff {g : HallId} (n : ¬ g = h) (b : BankId) :
    t.bank b = .reserved g ↔ s.bank b = .reserved g :=
  a.bank_iff (by simp [BankState.within, n]) b

theorem State.Moves.holder_iff {g : HallId} (n : ¬ g = h) (m : ManId) :
    t.holder m = some g ↔ s.holder m = some g := by
  unfold State.holder
  obtain e | ⟨y, z⟩ := a.mans m
  · rw [e]
  · obtain y | y := y <;> obtain z | z := z <;> simp [y, z, Ne.symm n]

/-- The laws of another hall are kept. -/
theorem State.Moves.hallLaw {g : HallId} (n : ¬ g = h) (w : s.HallLaw g) : t.HallLaw g := by
  have hall := a.others g n
  have inc := State.inc_of_hall hall
  have st := State.hallState_of_hall hall
  have mem : ∀ l : List HallId, g ∈ l ↔ g ∈ l.filter fun f => !(f == h) := by
    intro l
    simp [n]
  refine ⟨?_, fun b e => ?_, fun b e => ?_, fun m e => ?_, ⟨fun c b l => ?_, fun c b l => ?_, fun c => ?_⟩, fun e => ?_,
    by rw [inc]; exact w.once⟩
  · rw [mem, a.waits, ← mem, st]
    exact w.waits
  · rw [st, inc, a.manifoldOf, a.holder_iff n]
    exact w.reserved b ((a.reserved_iff n b).1 e)
  · rw [st, inc, a.manifoldOf, a.holder_iff n]
    exact w.firing b ((a.firing_iff g b).1 e)
  · have old := w.held m ((a.holder_iff n m).1 e)
    have state : (t.man m).state = (s.man m).state := by
      obtain e' | ⟨-, z⟩ := a.mans m
      · exact e'
      · unfold State.holder at e
        obtain z | z := z
        · simp [z] at e
        · exact absurd (Option.some.inj (z.symm.trans e)).symm n
    unfold State.holder at e
    unfold State.heldLaw at old ⊢
    rw [state] at e ⊢
    cases c : (s.man m).state <;> rw [c] at e old <;> simp only [ManState.holder, Option.some.injEq, reduceCtorEq] at e
      <;> subst e <;> simpa only [st, inc, a.manifoldOf, a.reserved_iff n, a.firing_iff, a.spent_iff] using old
  · rw [a.reserved_iff n]
    rw [st] at c
    rw [inc] at l
    exact w.list.1 c b l
  · rw [a.firing_iff, a.spent_iff, a.manifoldOf, a.holder_iff n]
    rw [st] at c
    rw [inc] at l
    exact w.list.2.1 c b l
  · rw [st] at c
    rw [inc]
    exact w.list.2.2 c
  · rw [hall] at e
    obtain ⟨d, all⟩ := w.timer e
    refine ⟨st.trans d, fun b l => ?_⟩
    rw [a.spent_iff, a.inPulsing]
    rw [inc] at l
    exact all b l

theorem State.Moves.queueLaw (w : s.queueLaw) : t.queueLaw := by
  obtain ⟨-, -, -, -, -, -, q, sl⟩ := (State.frame_iff s t).1 a.frame
  refine ⟨?_, fun b => ?_⟩
  · unfold State.slotBanks
    rw [q, sl]
    exact w.1
  · simp only [a.firing_iff, a.inMarking, q]
    exact w.2 b

theorem State.Moves.storeLaw (w : s.storeLaw) : t.storeLaw := by
  obtain ⟨wk, nv, -, -, wr, mq, -, -⟩ := (State.frame_iff s t).1 a.frame
  unfold State.storeLaw
  rw [wk, nv, wr, mq]
  exact w

theorem State.Moves.markLaw (w : s.MarkLaw) : t.MarkLaw := by
  obtain ⟨-, -, nv, ini, wr, mq, -, sl⟩ := (State.frame_iff s t).1 a.frame
  obtain ⟨initiators, pulsing, marks, spent⟩ := w
  refine ⟨?_, fun b p => ?_, ?_, fun b => ?_⟩
  · unfold State.initiatorLaw
    rw [ini, sl]
    exact initiators
  · rw [nv, ini]
    exact pulsing b ((a.inPulsing b).1 p)
  · unfold State.marksLaw
    simp only [a.inMarking, wr, mq]
    exact marks
  · rw [a.spent_iff, nv, wr]
    exact spent b

/-- A change that concerns one hall alone keeps all that the laws say of the rest. -/
theorem State.Moves.apart {full : Prop} (w : s.Apart full h) : t.Apart full h := by
  obtain ⟨wk, nv, -, -, -, -, -, -⟩ := (State.frame_iff s t).1 a.frame
  refine ⟨?_, fun g n => a.hallLaw n (w.others g n), fun b e => w.firing b ((a.firing_iff h b).1 e), ?_,
    a.queueLaw w.queue, fun b p => ?_, fun g => ?_, a.storeLaw w.store, fun f => a.markLaw (w.marked f)⟩
  · rw [a.waits]
    refine w.ranked.imp_of_mem ?_
    intro f g hf hg r
    have nf : ¬ f = h := by simpa using (List.mem_filter.1 hf).2
    have ng : ¬ g = h := by simpa using (List.mem_filter.1 hg).2
    rw [State.ranksBefore_congr (congrArg Incident.confNumber (State.inc_of_hall (a.others f nf)))
      (congrArg Incident.confNumber (State.inc_of_hall (a.others g ng)))]
    exact r
  · obtain e | e := a.timer
    · exact e.trans w.timer
    · exact e
  · obtain ⟨e, g, n, m, l, d⟩ := w.pulsed b ((a.inPulsing b).1 p)
    refine ⟨(a.spent_iff b).2 e, g, n, ?_, ?_, (State.hallState_of_hall (a.others g n)).trans d⟩
    · rw [a.manifoldOf, a.man_iff (by simp [ManState.within, ManState.holder, n])]
      exact m
    · rw [State.inc_of_hall (a.others g n)]
      exact l
  · unfold State.preference State.hallPlan
    rw [wk, nv]
    exact w.preferences g

end

end Sys2Proof.Machine
end

section
/-! What leaves every law alone: changes of the records that the laws do not speak of. And the two shapes in which a hall
meets its law: clear of reservations, or allotted. -/

namespace Sys2Proof.Machine

/-! ## States that the laws cannot tell apart -/

/-- What the law of the discharge timers asks where one runs (R123). -/
def State.mayRun (s : State) (h : HallId) : Prop :=
  s.hallState h = .discharging ∧ ∀ b, b ∈ (s.inc h).allocBanks → s.bank b = .spent ∧ ¬ s.inPulsing b

/-- The two states agree in all that the laws of the halls, banks and manifolds speak of. -/
structure State.SameHalls (s t : State) : Prop where
  bank : ∀ b, t.bank b = s.bank b
  man : ∀ m, (t.man m).state = (s.man m).state
  manifoldOf : ∀ b, t.manifoldOf b = s.manifoldOf b
  hallState : ∀ h, t.hallState h = s.hallState h
  list : ∀ h, (t.inc h).allocBanks = (s.inc h).allocBanks
  rank : ∀ h, (t.inc h).confNumber = (s.inc h).confNumber
  timer : ∀ h, (t.hall h).discharge.isSome = true → (s.hall h).discharge.isSome = true ∨ s.mayRun h
  waits : t.waitList = s.waitList
  pulsing : ∀ b, t.inPulsing b → s.inPulsing b

/-- They agree in the firing queue and the slots as well. -/
structure State.SameTables (s t : State) : Prop extends State.SameHalls s t where
  queue : t.queue = s.queue
  slotBanks : t.slotBanks = s.slotBanks
  marking : ∀ b, t.inMarking b ↔ s.inMarking b
  pulsed : ∀ b, s.inPulsing b → t.inPulsing b

/-- The two states agree in the store and the initiators. -/
structure State.SameStore (s t : State) : Prop where
  work : t.work = s.work
  nvPlan : t.nvPlan = s.nvPlan
  nvSpent : t.nvSpent = s.nvSpent
  write : t.write = s.write
  markQueue : t.markQueue = s.markQueue
  initiators : t.initiators = s.initiators

section
variable {s t : State} (e : State.SameHalls s t)
include e

theorem State.SameHalls.holder (m : ManId) : t.holder m = s.holder m := by
  unfold State.holder
  rw [e.man]

theorem State.SameHalls.alloc_nil (h : HallId) : (t.inc h).alloc = [] ↔ (s.inc h).alloc = [] := by
  have l := e.list h
  unfold Incident.allocBanks at l
  rw [← List.map_eq_nil_iff (f := AllocEntry.bank), l, List.map_eq_nil_iff]

theorem State.SameHalls.heldLaw {m : ManId} (w : s.heldLaw m) : t.heldLaw m := by
  unfold State.heldLaw at w ⊢
  simp only [e.man, e.hallState, e.bank, e.manifoldOf, e.list]
  exact w

theorem State.SameHalls.hallLaw {h : HallId} (w : s.HallLaw h) : t.HallLaw h := by
  refine ⟨?_, ?_, ?_, fun m c => e.heldLaw (w.held m ((e.holder m).symm.trans c)), ?_, ?_, ?_⟩
  · rw [e.waits, e.hallState]
    exact w.waits
  · simp only [e.bank, e.hallState, e.list, e.manifoldOf, e.holder]
    exact w.reserved
  · simp only [e.bank, e.hallState, e.list, e.manifoldOf, e.holder]
    exact w.firing
  · unfold State.allocLaw
    simp only [e.bank, e.hallState, e.list, e.manifoldOf, e.holder, e.alloc_nil]
    exact w.list
  · unfold State.dischargeLaw
    simp only [e.bank, e.hallState, e.list]
    intro k
    obtain ⟨d, all⟩ : s.mayRun h := (e.timer h k).elim w.timer id
    exact ⟨d, fun b l => ⟨(all b l).1, fun p => (all b l).2 (e.pulsing b p)⟩⟩
  · rw [e.list]
    exact w.once

theorem State.SameHalls.ranked (w : s.waitList.Pairwise fun g h => s.ranksBefore g h = true) :
    t.waitList.Pairwise fun g h => t.ranksBefore g h = true := by
  rw [e.waits]
  exact w.imp fun {g h} r => (State.ranksBefore_congr (e.rank g) (e.rank h)).trans r

theorem State.SameHalls.pulsedLaw {b : BankId} (w : s.pulsedLaw b) : t.pulsedLaw b := by
  unfold State.pulsedLaw
  simp only [e.bank, e.man, e.manifoldOf, e.list, e.hallState]
  exact fun p => w (e.pulsing b p)

/-- Where the halls agree, a state is sound with its own laws of the queue, the lists, the store and the marks. -/
theorem State.SameHalls.sound {full : Prop} (w : s.Sound full) (queue : t.queueLaw)
    (preferences : ∀ h, (t.preference h).Nodup ∧ (t.nvPlan.halls.get h).preference.Nodup) (store : t.storeLaw)
    (marked : full → t.MarkLaw) : t.Sound full :=
  ⟨e.ranked w.ranked, fun h => e.hallLaw (w.halls h), queue, fun b => e.pulsedLaw (w.pulsed b), preferences, store, marked⟩

end

theorem State.SameTables.queueLaw {s t : State} (e : State.SameTables s t) (w : s.queueLaw) : t.queueLaw := by
  unfold State.queueLaw
  simp only [e.queue, e.slotBanks, e.bank, e.marking]
  exact w

/-- Where the tables, the store and the initiators agree, the laws do. -/
theorem State.Sound.of_same {full : Prop} {s t : State} (w : s.Sound full) (e : State.SameTables s t)
    (f : State.SameStore s t) : t.Sound full := by
  refine e.sound w (e.queueLaw w.queue) (fun h => ?_) ?_ fun k => ?_
  · unfold State.preference State.hallPlan
    rw [f.work, f.nvPlan]
    exact w.preferences h
  · unfold State.storeLaw
    rw [f.work, f.nvPlan, f.write, f.markQueue]
    exact w.store
  · obtain ⟨initiators, pulsing, marks, spent⟩ := w.marked k
    refine ⟨fun b i => ?_, fun b p => ?_, ?_, fun b => ?_⟩
    · rw [f.initiators] at i
      exact e.pulsed b (initiators b i)
    · rw [f.nvSpent, f.initiators]
      exact pulsing b (e.pulsing b p)
    · unfold State.marksLaw
      simp only [e.marking, f.write, f.markQueue]
      exact marks
    · rw [e.bank, f.nvSpent, f.write]
      exact spent b

/-- The fields that the laws speak of. -/
def State.core (s : State) :=
  (s.work, s.nvPlan, s.nvSpent, s.write, s.markQueue, s.initiators, s.banks, s.mans, s.halls, s.waitList, s.queue, s.slots)

theorem State.Sound.of_core {full : Prop} {s t : State} (w : s.Sound full) (e : t.core = s.core) : t.Sound full := by
  simp only [State.core, Prod.mk.injEq] at e
  obtain ⟨wk, nv, sp, wr, mq, ini, bk, mn, hl, wl, q, sl⟩ := e
  refine w.of_same ⟨⟨fun b => ?_, fun m => ?_, fun b => ?_, fun h => ?_, fun h => ?_, fun h => ?_, fun h => ?_, wl,
    fun b => ?_⟩, q, ?_, fun b => ?_, fun b => ?_⟩ ⟨wk, nv, sp, wr, mq, ini⟩
  · simp only [State.bank, bk]
  · simp only [State.man, mn]
  · simp only [State.manifoldOf, State.bankPlan, wk]
  · simp only [State.hallState, State.inc, hl]
  · simp only [State.inc, hl]
  · simp only [State.inc, hl]
  · simp only [State.hall, hl]
    exact Or.inl
  · simp only [State.inPulsing, sl, imp_self]
  · simp only [State.slotBanks, sl]
  · simp only [State.inMarking, sl]
  · simp only [State.inPulsing, sl, imp_self]

/-- A change of a hall's record in what the laws do not speak of, but for a discharge timer that may run. -/
theorem State.Sound.modHall_timer {full : Prop} {s : State} (w : s.Sound full) (h : HallId) (f : Hall → Hall)
    (st : (f (s.hall h)).inc.state = (s.inc h).state) (l : (f (s.hall h)).inc.alloc = (s.inc h).alloc)
    (c : (f (s.hall h)).inc.confNumber = (s.inc h).confNumber)
    (d : (f (s.hall h)).discharge.isSome = true → (s.hall h).discharge.isSome = true ∨ s.mayRun h) : (s.modHall h f).Sound full := by
  refine w.of_same ⟨⟨fun _ => rfl, fun _ => rfl, fun _ => rfl, fun g => ?_, fun g => ?_, fun g => ?_, fun g => ?_, rfl,
    fun _ => id⟩, rfl, rfl, fun _ => Iff.rfl, fun _ => id⟩ ⟨rfl, rfl, rfl, rfl, rfl, rfl⟩
  all_goals by_cases n : h = g
  · subst n
    rw [State.hallState, State.inc_modHall_same]
    exact st
  · rw [State.hallState, State.inc_modHall, if_neg n]
    rfl
  · subst n
    rw [State.inc_modHall_same]
    unfold Incident.allocBanks
    rw [l]
  · rw [State.inc_modHall, if_neg n]
  · subst n
    rw [State.inc_modHall_same]
    exact c
  · rw [State.inc_modHall, if_neg n]
  · subst n
    rw [State.hall_modHall_same]
    exact d
  · rw [State.hall_modHall_other s f n]
    exact Or.inl

/-- A change of a hall's record in what the laws do not speak of. -/
theorem State.Sound.modHall {full : Prop} {s : State} (w : s.Sound full) (h : HallId) (f : Hall → Hall)
    (st : (f (s.hall h)).inc.state = (s.inc h).state) (l : (f (s.hall h)).inc.alloc = (s.inc h).alloc)
    (c : (f (s.hall h)).inc.confNumber = (s.inc h).confNumber)
    (d : (f (s.hall h)).discharge.isSome = (s.hall h).discharge.isSome) : (s.modHall h f).Sound full :=
  w.modHall_timer h f st l c fun k => Or.inl (d ▸ k)

theorem State.Sound.modInc {full : Prop} {s : State} (w : s.Sound full) (h : HallId) (f : Incident → Incident)
    (st : (f (s.inc h)).state = (s.inc h).state) (l : (f (s.inc h)).alloc = (s.inc h).alloc)
    (c : (f (s.inc h)).confNumber = (s.inc h).confNumber) : (s.modInc h f).Sound full :=
  w.modHall h _ st l c rfl

theorem State.Sound.recordComputation {full : Prop} {s : State} (w : s.Sound full) (h : HallId) :
    (s.withComputation h).Sound full :=
  w.modInc h (fun i => i.computed (s.chooseLow h) (s.chooseHigh h) (s.computeRequired h)
    (decide (s.unspentPreference h < s.computeRequired h))) rfl rfl rfl

/-- Counting changes changes change numbers alone (R63). -/
theorem State.Sound.countChanges {full : Prop} {t : State} (w : t.Sound full) (s : State) :
    (State.countChanges s t).Sound full := by
  have inc : ∀ g, ((State.countChanges s t).inc g).content = (t.inc g).content := fun g => by
    show ((State.countChanges s t).hall g).inc.content = _
    rw [State.hall_countChanges, Hall.content_countChange]
    rfl
  refine w.of_same ⟨⟨fun _ => rfl, fun _ => rfl, fun _ => rfl, fun g => (congrArg Incident.state (inc g) :),
    fun g => (congrArg Incident.allocBanks (inc g) :), fun g => (congrArg Incident.confNumber (inc g) :), fun g => ?_, rfl,
    fun _ => id⟩, rfl, rfl, fun _ => Iff.rfl, fun _ => id⟩ ⟨rfl, rfl, rfl, rfl, rfl, rfl⟩
  rw [State.hall_countChanges]
  unfold Hall.countChange
  split <;> exact Or.inl

theorem State.Sound.asEvent {full : Prop} {s : State} {f : State → State} (w : (f s).Sound full) :
    (s.asEvent f).Sound full := w.countChanges s

/-! ## A hall without reservations, and a hall allotted -/

/-- No bank is RESERVED to the hall and it holds no manifold. -/
structure State.Clear (h : HallId) (s : State) : Prop where
  banks : ∀ b, ¬ s.bank b = .reserved h
  mans : ∀ m, ¬ s.holder m = some h

/-- The hall's list is exactly the banks RESERVED to it, and the manifolds it holds, in the state `x`, are exactly those
that carry them. -/
structure State.Allotted (h : HallId) (x : ManState) (s : State) : Prop where
  banks : ∀ b, s.bank b = .reserved h ↔ b ∈ (s.inc h).allocBanks
  lies : ∀ b, b ∈ (s.inc h).allocBanks → (s.man (s.manifoldOf b)).state = x
  carries : ∀ m, s.holder m = some h → (s.man m).state = x ∧ ∃ b, b ∈ (s.inc h).allocBanks ∧ s.manifoldOf b = m
  once : (s.inc h).allocBanks.Nodup

/-- The states in which a hall has an allocation and has not begun to fire. -/
def HallState.allots (x : HallState) : Prop := x = .countdown ∨ x = .held ∨ x = .selecting

/-- How a hall in such a state holds its manifolds: SELECTING in SELECTING, else CLAIMED. -/
def HallState.grip (h : HallId) (x : HallState) : ManState := if x = .selecting then .selecting h else .claimed h

theorem HallState.holder_grip (h : HallId) (x : HallState) : (x.grip h).holder = some h := by
  unfold HallState.grip
  split <;> rfl

theorem HallState.ne_waiting_of_allots {x : HallState} (a : x.allots) : ¬ x = .waiting := by
  rintro rfl
  simp [HallState.allots] at a

theorem HallState.ne_discharging_of_allots {x : HallState} (a : x.allots) : ¬ x = .discharging := by
  rintro rfl
  simp [HallState.allots] at a

theorem State.Sound.allotted {full : Prop} {s : State} (w : s.Sound full) {h : HallId} (a : (s.hallState h).allots) :
    s.Allotted h ((s.hallState h).grip h) := by
  have own := w.halls h
  have held : ∀ m, s.holder m = some h →
      (s.man m).state = (s.hallState h).grip h ∧ ∃ b, s.bank b = .reserved h ∧ s.manifoldOf b = m := by
    intro m e
    have l := own.held m e
    unfold State.heldLaw at l
    unfold State.holder at e
    unfold HallState.allots at a
    cases c : (s.man m).state <;> rw [c] at e l <;> simp only [ManState.holder, Option.some.injEq, reduceCtorEq] at e
      <;> subst e <;> dsimp only at l
    · refine ⟨?_, l.2⟩
      unfold HallState.grip
      rw [if_neg]
      rintro k
      simp [k] at l
    · obtain ⟨k, l⟩ | ⟨k, -⟩ := l
      · refine ⟨?_, l⟩
        unfold HallState.grip
        rw [if_pos k]
      · simp [k] at a
    · simp [l.1] at a
    · simp [l.1] at a
  have banks : ∀ b, s.bank b = .reserved h ↔ b ∈ (s.inc h).allocBanks :=
    fun b => ⟨fun e => (own.reserved b e).2.1, own.list.1 a b⟩
  refine ⟨banks, fun b l => (held _ ((own.reserved b ((banks b).2 l)).2.2)).1, fun m e => ?_, own.once⟩
  obtain ⟨g, b, hb, hm⟩ := held m e
  exact ⟨g, b, (banks b).1 hb, hm⟩

/-- A hall that is allotted as its state asks meets its law. -/
theorem State.Allotted.hallLaw {full : Prop} {s : State} {h : HallId} (a : s.Apart full h)
    (st : (s.hallState h).allots) (l : s.Allotted h ((s.hallState h).grip h)) (n : ¬ h ∈ s.waitList) :
    s.HallLaw h := by
  refine ⟨⟨fun k => absurd k n, fun k => absurd k (HallState.ne_waiting_of_allots st)⟩, fun b e => ?_,
    fun b e => absurd e (a.firing b), fun m e => ?_, ⟨fun _ b k => (l.banks b).2 k, fun k => ?_, fun k => ?_⟩,
    fun k => ?_, l.once⟩
  · have k := (l.banks b).1 e
    refine ⟨st, k, ?_⟩
    unfold State.holder
    rw [l.lies b k, HallState.holder_grip]
  · obtain ⟨g, b, hb, hm⟩ := l.carries m e
    have hb' := (l.banks b).2 hb
    unfold State.heldLaw
    rw [g]
    unfold HallState.grip
    by_cases sel : s.hallState h = .selecting
    · rw [if_pos sel]
      exact Or.inl ⟨sel, b, hb', hm⟩
    · rw [if_neg sel]
      exact ⟨by unfold HallState.allots at st; tauto, b, hb', hm⟩
  · exact absurd k (HallState.ne_discharging_of_allots st)
  · unfold HallState.allots at st
    obtain st | st | st := st <;> simp [st] at k
  · rw [a.timer] at k
    exact absurd k (by simp)

/-- A hall clear of reservations meets its law with an empty list, and in QUIET and DISCHARGED with any. -/
theorem State.Clear.hallLaw {full : Prop} {s : State} {h : HallId} (a : s.Apart full h) (c : s.Clear h)
    (l : (s.inc h).alloc = [] ∨ ((s.hallState h = .quiet ∨ s.hallState h = .discharged) ∧ (s.inc h).allocBanks.Nodup))
    (w : h ∈ s.waitList ↔ s.hallState h = .waiting) : s.HallLaw h := by
  have once : (s.inc h).allocBanks.Nodup := by
    obtain l | ⟨-, l⟩ := l
    · simp [Incident.allocBanks, l]
    · exact l
  refine ⟨w, fun b e => absurd e (c.banks b), fun b e => absurd e (a.firing b), fun m e => absurd e (c.mans m), ?_,
    fun k => ?_, once⟩
  · obtain l | ⟨st, -⟩ := l
    · have none : ∀ b, ¬ b ∈ (s.inc h).allocBanks := by simp [Incident.allocBanks, l]
      exact ⟨fun _ b k => absurd k (none b), fun _ b k => absurd k (none b), fun _ => l⟩
    · refine ⟨fun k => ?_, fun k => ?_, fun k => ?_⟩ <;> obtain st | st := st <;> simp [st] at k
  · rw [a.timer] at k
    exact absurd k (by simp)

end Sys2Proof.Machine
end

section
/-! Attempts, re-examinations, returns and the entries of a hall keep the laws: each moves one hall's record with banks and
manifolds open to it, and leaves the hall clear or allotted. -/

namespace Sys2Proof.Machine

/-! ## One hall's moves -/

theorem State.Moves.of_modHall (s : State) (h : HallId) (f : Hall → Hall)
    (d : (f (s.hall h)).discharge = (s.hall h).discharge ∨ (f (s.hall h)).discharge = none) :
    State.Moves h s (s.modHall h f) := by
  refine ⟨rfl, fun g n => State.hall_modHall_other s f (fun e => n e.symm), ?_, fun _ => Or.inl rfl,
    fun _ => Or.inl rfl, rfl⟩
  rw [State.hall_modHall_same]
  exact d

theorem State.Moves.of_modInc (s : State) (h : HallId) (f : Incident → Incident) : State.Moves h s (s.modInc h f) :=
  State.Moves.of_modHall s h _ (Or.inl rfl)

theorem State.Moves.of_leaveWaitList (s : State) (h : HallId) : State.Moves h s (s.leaveWaitList h) :=
  ⟨rfl, fun _ _ => rfl, Or.inl rfl, fun _ => Or.inl rfl, fun _ => Or.inl rfl, by simp [State.leaveWaitList]⟩

theorem State.filter_joinWaitList (s : State) (h : HallId) :
    ((s.joinWaitList h).waitList.filter fun g => !(g == h)) = s.waitList.filter fun g => !(g == h) := by
  by_cases c : h ∈ s.waitList
  · simp [State.joinWaitList, c]
  · obtain ⟨front, back, e, j, -⟩ := State.joinWaitList_split c
    rw [e, j]
    simp

theorem State.Moves.of_joinWaitList (s : State) (h : HallId) : State.Moves h s (s.joinWaitList h) :=
  ⟨State.frame_of_still (State.still_joinWaitList s h), fun g _ => State.hall_of_halls (State.halls_joinWaitList s h) g,
    Or.inl (by rw [State.hall_of_halls (State.halls_joinWaitList s h)]),
    fun b => Or.inl (by simp only [State.bank, State.banks_joinWaitList]),
    fun m => Or.inl (by simp only [State.man, State.mans_joinWaitList]), State.filter_joinWaitList s h⟩

theorem State.discharge_succeeded (s : State) (h : HallId) (taken : List BankId) :
    ((s.succeeded h taken).hall h).discharge = (s.hall h).discharge := by
  have base : ((s.afterCommit h taken).hall h).discharge = (s.hall h).discharge :=
    (congrArg Hall.discharge (State.hall_modHall_same _ h _)).trans rfl
  obtain ⟨-, e⟩ | ⟨-, -, e⟩ := State.succeeded_cases s h taken <;> rw [e, ← base]
  · rw [State.hall_enterSelecting_same]
  · rw [State.hall_modHall_same]
    rfl

theorem State.hall_succeeded_other (s : State) {h g : HallId} (taken : List BankId) (n : ¬ h = g) :
    (s.succeeded h taken).hall g = s.hall g :=
  (State.hall_afterSuccess_other _ n).trans (State.hall_modInc_other _ _ n)

theorem State.still_succeeded (s : State) (h : HallId) (taken : List BankId) :
    (s.succeeded h taken).still = s.still := State.still_afterSuccess _ h

theorem State.Moves.of_succeeded (s : State) (h : HallId) {taken : List BankId}
    (ready : ∀ b, b ∈ taken → s.bank b = .ready) : State.Moves h s (s.succeeded h taken) := by
  refine ⟨State.frame_of_still (State.still_succeeded s h taken),
    fun g n => State.hall_succeeded_other s taken (fun e => n e.symm),
    Or.inl (State.discharge_succeeded s h taken), fun b => ?_, fun m => ?_, ?_⟩
  · rw [State.bank_succeeded]
    split
    · rename_i k
      exact Or.inr ⟨Or.inl (ready b k), Or.inr rfl⟩
    · exact Or.inl rfl
  · obtain ⟨m1, m2⟩ := State.man_succeeded s h taken m
    by_cases c : s.claimedWith h taken m
    · right
      rw [m1 c]
      constructor
      · obtain k | ⟨k, -⟩ := c <;> simp [k, ManState.within, ManState.holder]
      · split <;> exact Or.inr rfl
    · rw [m2 c]
      exact Or.inl rfl
  · rw [State.waitList_succeeded]
    simp

/-! ## An attempt -/

theorem State.hallState_succeeded (s : State) (h : HallId) (taken : List BankId) :
    ((s.succeeded h taken).hallState h).allots := by
  obtain ⟨-, e⟩ | ⟨-, -, e⟩ := State.succeeded_cases s h taken <;> rw [e]
  · rw [State.hallState_enterSelecting]
    exact Or.inr (Or.inr rfl)
  · rw [State.hallState_counting]
    unfold State.countingState
    split
    · exact Or.inr (Or.inl rfl)
    · exact Or.inl rfl

theorem State.entriesFor_banks (s : State) (taken : List BankId) :
    (s.entriesFor taken).map AllocEntry.bank = taken := by
  unfold State.entriesFor
  rw [List.map_map]
  exact (List.map_congr_left fun b _ => rfl).trans (List.map_id taken)

theorem State.eligible_of_attemptTakes {s : State} {h : HallId} {guarded : List BankId} {b : BankId}
    (k : b ∈ s.attemptTakes h guarded) : s.eligible h b = true := by
  have may := walk_may _ _ _ _ _ k
  rw [Bool.and_eq_true] at may
  exact may.1

/-- A success of a hall that had no reservation leaves it allotted as its new state asks (R54, R68). -/
theorem State.Clear.allotted_succeeded {s : State} {h : HallId} (c : s.Clear h) {taken : List BankId}
    (once : taken.Nodup) (may : ∀ b, b ∈ taken → s.eligible h b = true) :
    (s.succeeded h taken).Allotted h (((s.succeeded h taken).hallState h).grip h) := by
  have list : ((s.succeeded h taken).inc h).allocBanks = taken := by
    unfold Incident.allocBanks
    rw [State.alloc_succeeded, State.entriesFor_banks]
  have manifoldOf : ∀ b, (s.succeeded h taken).manifoldOf b = s.manifoldOf b := by
    intro b
    unfold State.manifoldOf State.bankPlan
    rw [State.work_succeeded]
  have claimed : ∀ m, s.claimedWith h taken m →
      ((s.succeeded h taken).man m).state = ((s.succeeded h taken).hallState h).grip h := by
    intro m k
    rw [(State.man_succeeded s h taken m).1 k]
    unfold HallState.grip
    split <;> rfl
  have onFree : ∀ b, b ∈ taken → s.claimedWith h taken (s.manifoldOf b) := by
    intro b k
    obtain ⟨-, -, -, -, -, -, -, e | e⟩ := (s.eligible_iff h b).1 (may b k)
    · exact Or.inr ⟨e, b, k, rfl⟩
    · exact absurd e (c.mans _)
  refine ⟨fun b => ?_, fun b k => ?_, fun m e => ?_, by rw [list]; exact once⟩
  · rw [list, State.bank_succeeded]
    split
    · rename_i k
      exact ⟨fun _ => k, fun _ => rfl⟩
    · rename_i k
      exact ⟨fun e => absurd e (c.banks b), fun e => absurd e k⟩
  · rw [list] at k
    rw [manifoldOf]
    exact claimed _ (onFree b k)
  · by_cases k : s.claimedWith h taken m
    · refine ⟨claimed m k, ?_⟩
      obtain k | ⟨-, b, hb, hm⟩ := k
      · exact absurd (State.holder_of_pending (Or.inl k)) (c.mans m)
      · exact ⟨b, by rw [list]; exact hb, by rw [manifoldOf]; exact hm⟩
    · unfold State.holder at e
      rw [(State.man_succeeded s h taken m).2 k] at e
      exact absurd e (c.mans m)

/-- A successful attempt for a hall without reservations (R68). -/
theorem State.Apart.sound_succeeded {full : Prop} {s : State} {h : HallId} (a : s.Apart full h) (c : s.Clear h)
    (guarded : List BankId) : (s.succeeded h (s.attemptTakes h guarded)).Sound full := by
  have may : ∀ b, b ∈ s.attemptTakes h guarded → s.eligible h b = true := fun b => State.eligible_of_attemptTakes
  have once : (s.attemptTakes h guarded).Nodup := (walk_sublist _ _ _ _ _).nodup (a.preferences h).1
  have moves := State.Moves.of_succeeded s h fun b k => ((s.eligible_iff h b).1 (may b k)).1
  have out : ¬ h ∈ (s.succeeded h (s.attemptTakes h guarded)).waitList := by
    rw [State.waitList_succeeded]
    simp
  have a' := moves.apart a
  exact a'.sound_of_not_waiting
    ((c.allotted_succeeded once may).hallLaw a' (State.hallState_succeeded s h _) out) out

/-! ## Entries of a hall without reservations -/

theorem State.Clear.of_modHall {s : State} {h : HallId} (c : s.Clear h) (g : HallId) (f : Hall → Hall) :
    (s.modHall g f).Clear h := ⟨c.banks, c.mans⟩

/-- A hall without reservations whose list is empty may enter any state but WAITING (R49, R51, R60, R110). -/
theorem State.Apart.sound_modHall {full : Prop} {s : State} {h : HallId} (a : s.Apart full h) (c : s.Clear h)
    (n : ¬ h ∈ s.waitList) (f : Hall → Hall) (l : (f (s.hall h)).inc.alloc = [])
    (st : ¬ (f (s.hall h)).inc.state = .waiting)
    (d : (f (s.hall h)).discharge = (s.hall h).discharge ∨ (f (s.hall h)).discharge = none) :
    (s.modHall h f).Sound full := by
  have a' := (State.Moves.of_modHall s h f d).apart a
  have e : (s.modHall h f).inc h = (f (s.hall h)).inc := State.inc_modHall_same s h f
  refine a'.sound_of_not_waiting ((c.of_modHall h f).hallLaw a' (Or.inl (by rw [e]; exact l)) ?_) n
  unfold State.hallState
  rw [e]
  exact ⟨fun k => absurd k n, fun k => absurd k st⟩

/-- A hall without reservations enters WAITING and the wait list (R53, R76). -/
theorem State.Apart.sound_enterWaiting {full : Prop} {s : State} {h : HallId} (a : s.Apart full h) (c : s.Clear h)
    (n : ¬ h ∈ s.waitList) (l : (s.inc h).alloc = []) : (s.enterWaiting h).Sound full := by
  have moves : State.Moves h s (s.enterWaiting h) := (State.Moves.of_modHall s h Hall.waits (Or.inl rfl)).trans
    (State.Moves.of_joinWaitList (s.modHall h Hall.waits) h)
  have a' := moves.apart a
  have inc : (s.enterWaiting h).inc h = (s.hall h).waits.inc := congrArg Hall.inc (State.hall_enterWaiting s h)
  have c' : (s.enterWaiting h).Clear h := by
    refine ⟨fun b => ?_, fun m => ?_⟩
    · unfold State.bank
      rw [State.banks_enterWaiting]
      exact c.banks b
    · unfold State.holder State.man
      rw [State.mans_enterWaiting]
      exact c.mans m
  have list : (s.enterWaiting h).waitList =
      insertAt (fun g => (s.modHall h Hall.waits).ranksBefore g h) h s.waitList := by
    rw [State.enterWaiting_eq]
    unfold State.joinWaitList
    rw [if_neg (by simpa using n)]
    rfl
  refine a'.sound (c'.hallLaw a' (Or.inl (by rw [inc]; exact l)) ?_) ?_
  · unfold State.hallState
    rw [inc, list, mem_insertAt]
    exact ⟨fun _ => rfl, fun _ => Or.inl rfl⟩
  · have rank : ∀ t : State, (∀ g, (t.inc g).confNumber = ((s.modHall h Hall.waits).inc g).confNumber) →
        ∀ f g, t.ranksBefore f g = (s.modHall h Hall.waits).ranksBefore f g :=
      fun t e f g => State.ranksBefore_congr (e f) (e g)
    have e1 : ∀ g, ((s.enterWaiting h).inc g).confNumber = ((s.modHall h Hall.waits).inc g).confNumber := by
      intro g
      rw [State.enterWaiting_eq, State.inc_of_hall (State.hall_of_halls (State.halls_joinWaitList _ _) g)]
    have e2 : ∀ g, (s.inc g).confNumber = ((s.modHall h Hall.waits).inc g).confNumber := by
      intro g
      rw [State.inc_modHall]
      split
      · rename_i k
        rw [← k]
        rfl
      · rfl
    simp only [rank _ e1]
    rw [list]
    refine insertAt_pairwise _ h s.waitList n ?_
    simp only [← rank _ e2]
    have same : (s.waitList.filter fun g => !(g == h)) = s.waitList := by
      rw [List.filter_eq_self]
      intro g hg
      have : ¬ g = h := fun e => n (e ▸ hg)
      simpa using this
    rw [← same]
    exact a.ranked

/-- A single attempt for a hall without reservations (R53, R73). -/
theorem State.Apart.sound_singleAttempt {full : Prop} {s : State} {h : HallId} (a : s.Apart full h) (c : s.Clear h)
    (n : ¬ h ∈ s.waitList) (l : (s.inc h).alloc = []) : (s.singleAttempt h).Sound full := by
  unfold State.singleAttempt
  dsimp only
  obtain ⟨-, e⟩ | ⟨-, e⟩ := State.attempt_cases s h (s.protectedFrom h) <;> rw [e]
  · exact a.sound_succeeded c _
  · have moves := State.Moves.of_modInc s h fun i => i.computed (s.chooseLow h) (s.chooseHigh h) (s.computeRequired h)
      (decide (s.unspentPreference h < s.computeRequired h))
    have inc := State.inc_modInc_same s h fun i => i.computed (s.chooseLow h) (s.chooseHigh h) (s.computeRequired h)
      (decide (s.unspentPreference h < s.computeRequired h))
    rw [← State.recordComputation_eq] at moves inc
    refine (moves.apart a).sound_enterWaiting ⟨c.banks, c.mans⟩ n ?_
    rw [inc]
    exact l

/-! ## A hall without reservations, by its state -/

theorem State.Sound.clear {full : Prop} {s : State} (w : s.Sound full) {h : HallId} (a : ¬ (s.hallState h).allots)
    (d : ¬ s.hallState h = .discharging) (k : ¬ s.hallState h = .soak) : s.Clear h := by
  refine ⟨fun b e => a ((w.halls h).reserved b e).1, fun m e => ?_⟩
  have l := (w.halls h).held m e
  unfold State.heldLaw at l
  unfold State.holder at e
  unfold HallState.allots at a
  cases c : (s.man m).state <;> rw [c] at e l <;> simp only [ManState.holder, Option.some.injEq, reduceCtorEq] at e
    <;> subst e <;> dsimp only at l <;> tauto

/-- A waiting hall has no reservation. -/
theorem State.Sound.clear_waiting {full : Prop} {s : State} (w : s.Sound full) {h : HallId}
    (e : s.hallState h = .waiting) : s.Clear h :=
  w.clear (by simp [HallState.allots, e]) (by simp [e]) (by simp [e])

/-! ## A re-examination (R80) -/

theorem State.Sound.walkHalls {full : Prop} {s : State} (w : s.Sound full) (l : List HallId) (once : l.Nodup)
    (waits : ∀ h, h ∈ l → s.hallState h = .waiting) (guarded : List BankId) :
    (State.walkHalls l guarded s).Sound full := by
  induction l generalizing guarded s with
  | nil => exact w
  | cons h rest ih =>
    have st := waits h List.mem_cons_self
    have later : ∀ g, g ∈ rest → (s.attempt h guarded).1.hallState g = .waiting := by
      intro g hg
      have n : ¬ h = g := by
        rintro rfl
        exact (List.nodup_cons.1 once).1 hg
      rw [State.hallState_of_hall (State.hall_attempt_other s guarded n)]
      exact waits g (List.mem_cons_of_mem h hg)
    have sound : (s.attempt h guarded).1.Sound full := by
      obtain ⟨-, e⟩ | ⟨-, e⟩ := State.attempt_cases s h guarded <;> rw [e]
      · exact (w.apart (by simp [st])).sound_succeeded (w.clear_waiting st) guarded
      · exact w.recordComputation h
    exact ih sound (List.nodup_cons.1 once).2 later _

theorem State.Sound.nodup_waitList {full : Prop} {s : State} (w : s.Sound full) : s.waitList.Nodup :=
  w.ranked.imp fun {a b} r e => by
    rw [e, ranksBefore_irrefl] at r
    exact absurd r (by simp)

/-- A re-examination keeps the laws. -/
theorem State.Sound.reexamine {full : Prop} {s : State} (w : s.Sound full) : s.reexamine.Sound full :=
  w.walkHalls s.waitList w.nodup_waitList (fun h => ((w.halls h).waits).1) []

/-! ## A return of reservations (R87) -/

/-- What hall `h` holds is RESERVED, CLAIMED or SELECTING, so a return leaves it nothing. -/
structure State.Returnable (h : HallId) (s : State) : Prop where
  banks : ∀ b, s.bank b = .reserved h → b ∈ (s.inc h).allocBanks
  mans : ∀ m, s.holder m = some h → (s.man m).state = .claimed h ∨ (s.man m).state = .selecting h

theorem State.Clear.returnable {s : State} {h : HallId} (c : s.Clear h) : s.Returnable h :=
  ⟨fun b e => absurd e (c.banks b), fun m e => absurd e (c.mans m)⟩

theorem State.Allotted.returnable {s : State} {h : HallId} {x : HallState} (l : s.Allotted h (x.grip h)) :
    s.Returnable h := by
  refine ⟨fun b => (l.banks b).1, fun m e => ?_⟩
  rw [(l.carries m e).1]
  unfold HallState.grip
  split
  · exact Or.inr rfl
  · exact Or.inl rfl

theorem State.Moves.of_returnAll (s : State) (h : HallId) : State.Moves h s (s.returnAll h) := by
  obtain ⟨banks, mans⟩ := State.handedBack_returnAll s h
  refine ⟨State.frame_of_still (State.still_returnAll s h),
    fun g n => State.hall_returnAll_other s (fun e => n e.symm), ?_, fun b => ?_, fun m => ?_, by simp⟩
  · rw [State.hall_returnAll]
    exact Or.inl rfl
  · rw [banks]
    split
    · rename_i k
      exact Or.inr ⟨Or.inr k.2, Or.inl rfl⟩
    · exact Or.inl rfl
  · by_cases c : (s.man m).state = .claimed h ∨ (s.man m).state = .selecting h
    · rw [((mans m).1 c).1]
      exact Or.inr ⟨Or.inr (State.holder_of_pending c), Or.inl rfl⟩
    · rw [((mans m).2 c).1]
      exact Or.inl rfl

/-- After the return the hall has no reservation. -/
theorem State.Returnable.clear {s : State} {h : HallId} (r : s.Returnable h) : (s.returnAll h).Clear h := by
  obtain ⟨banks, mans⟩ := State.handedBack_returnAll s h
  refine ⟨fun b => ?_, fun m => ?_⟩
  · rw [banks]
    split
    · simp
    · rename_i k
      exact fun e => k ⟨r.banks b e, e⟩
  · unfold State.holder
    by_cases c : (s.man m).state = .claimed h ∨ (s.man m).state = .selecting h
    · rw [((mans m).1 c).1]
      simp [ManState.holder]
    · rw [((mans m).2 c).1]
      exact fun e => c (r.mans m e)

/-- A list whose banks are all RESERVED to the hall is empty after the return. -/
theorem State.alloc_returnAll_nil {s : State} {h : HallId}
    (all : ∀ b, b ∈ (s.inc h).allocBanks → s.bank b = .reserved h) : ((s.returnAll h).inc h).alloc = [] := by
  rw [State.inc_returnAll]
  show s.keptEntries h = []
  unfold State.keptEntries
  rw [List.filter_eq_nil_iff]
  intro e he
  simp [all e.bank (List.mem_map_of_mem he)]

end Sys2Proof.Machine
end

section
/-! Events of a hall short of the firing keep the laws: confirmation and manual events, isolation and LOCKOUT, stand-down
and retry, the countdown and the hold. -/

namespace Sys2Proof.Machine

/-! ## A hall without reservations, list or place in the wait list -/

/-- The laws of all but hall `h`, which has no reservation, an empty list and no place in the wait list: it may enter any
state that asks for none. -/
structure State.Bare (full : Prop) (h : HallId) (s : State) : Prop where
  apart : s.Apart full h
  clear : s.Clear h
  list : (s.inc h).alloc = []
  out : ¬ h ∈ s.waitList

theorem State.Sound.out {full : Prop} {s : State} (w : s.Sound full) {h : HallId} (n : ¬ s.hallState h = .waiting) :
    ¬ h ∈ s.waitList := fun k => n ((w.halls h).waits.1 k)

/-- A hall that is confirmed, inhibited or stalled has nothing. -/
theorem State.Sound.bare {full : Prop} {s : State} (w : s.Sound full) {h : HallId}
    (st : s.hallState h = .alert ∨ s.hallState h = .inhibited ∨ s.hallState h = .stalled) : s.Bare full h := by
  have list := (w.halls h).list.2.2 (by tauto)
  obtain st | st | st := st <;>
    exact ⟨w.apart (by simp [st]), w.clear (by simp [HallState.allots, st]) (by simp [st]) (by simp [st]), list,
      w.out (by simp [st])⟩

theorem State.Sound.bare_leaveWaitList {full : Prop} {s : State} (w : s.Sound full) {h : HallId}
    (st : s.hallState h = .waiting) : (s.leaveWaitList h).Bare full h := by
  have c := w.clear_waiting st
  exact ⟨(State.Moves.of_leaveWaitList s h).apart (w.apart (by simp [st])), ⟨c.banks, c.mans⟩,
    (w.halls h).list.2.2 (by tauto), by simp [State.leaveWaitList]⟩

/-- Everything returned, a hall with an allocation has nothing (R87). -/
theorem State.Apart.bare_returnAll {full : Prop} {s : State} {h : HallId} (a : s.Apart full h) (r : s.Returnable h)
    (all : ∀ b, b ∈ (s.inc h).allocBanks → s.bank b = .reserved h) (n : ¬ h ∈ s.waitList) :
    (s.returnAll h).Bare full h :=
  ⟨(State.Moves.of_returnAll s h).apart a, r.clear, State.alloc_returnAll_nil all, by simpa using n⟩

theorem State.Sound.bare_returnAll {full : Prop} {s : State} (w : s.Sound full) {h : HallId}
    (a : (s.hallState h).allots) : (s.returnAll h).Bare full h :=
  (w.apart (HallState.ne_discharging_of_allots a)).bare_returnAll (w.allotted a).returnable ((w.halls h).list.1 a)
    (w.out (HallState.ne_waiting_of_allots a))

theorem State.Bare.modHall {full : Prop} {s : State} {h : HallId} (p : s.Bare full h) (f : Hall → Hall)
    (l : (f (s.hall h)).inc.alloc = [])
    (d : (f (s.hall h)).discharge = (s.hall h).discharge ∨ (f (s.hall h)).discharge = none) :
    (s.modHall h f).Bare full h := by
  refine ⟨(State.Moves.of_modHall s h f d).apart p.apart, p.clear.of_modHall h f, ?_, p.out⟩
  rw [State.inc_modHall_same]
  exact l

theorem State.Bare.modInc {full : Prop} {s : State} {h : HallId} (p : s.Bare full h) (f : Incident → Incident)
    (l : (f (s.inc h)).alloc = (s.inc h).alloc) : (s.modInc h f).Bare full h :=
  p.modHall _ (l.trans p.list) (Or.inl rfl)

theorem State.Bare.sound_modInc {full : Prop} {s : State} {h : HallId} (p : s.Bare full h) (f : Incident → Incident)
    (l : (f (s.inc h)).alloc = (s.inc h).alloc) (st : ¬ (f (s.inc h)).state = .waiting) : (s.modInc h f).Sound full :=
  p.apart.sound_modHall p.clear p.out _ (l.trans p.list) st (Or.inl rfl)

theorem State.Bare.sound_enterInhibited {full : Prop} {s : State} {h : HallId} (p : s.Bare full h) :
    (s.enterInhibited h).Sound full := p.sound_modInc _ rfl (by simp)

theorem State.Bare.sound_enterWaiting {full : Prop} {s : State} {h : HallId} (p : s.Bare full h) :
    (s.enterWaiting h).Sound full := p.apart.sound_enterWaiting p.clear p.out p.list

theorem State.Bare.sound_singleAttempt {full : Prop} {s : State} {h : HallId} (p : s.Bare full h) :
    (s.singleAttempt h).Sound full := p.apart.sound_singleAttempt p.clear p.out p.list

/-! ## Confirmation and manual events (R45, R49) -/

theorem State.Bare.recordConfirmation {full : Prop} {s : State} {h : HallId} (p : s.Bare full h) (c : Cause) :
    (s.recordConfirmation h c).Bare full h := by
  have q := p.modHall
    (fun x => { x with inc := { x.inc with cause := some c, confNumber := some s.confCounter }, wait := some ⟨0, 0, false⟩ })
    p.list (Or.inl rfl)
  have moves : State.Moves h (s.modHall h fun x =>
      { x with inc := { x.inc with cause := some c, confNumber := some s.confCounter }, wait := some ⟨0, 0, false⟩ })
      (s.recordConfirmation h c) :=
    ⟨rfl, fun _ _ => rfl, Or.inl rfl, fun _ => Or.inl rfl, fun _ => Or.inl rfl, rfl⟩
  exact ⟨moves.apart q.apart, ⟨q.clear.banks, q.clear.mans⟩, q.list, q.out⟩

/-- A confirmation keeps the laws (R49). -/
theorem State.Bare.sound_confirm {full : Prop} {s : State} {h : HallId} (p : s.Bare full h) (c : Cause) :
    (s.confirm h c).Sound full := by
  have q := p.recordConfirmation c
  unfold State.confirm
  dsimp only
  split
  · exact (q.modInc _ rfl).sound_enterInhibited
  · exact q.sound_singleAttempt

/-- A QUIET hall's opening leaves it bare (R44). -/
theorem State.Sound.bare_openIncident {full : Prop} {s : State} (w : s.Sound full) {h : HallId}
    (st : s.hallState h = .quiet) : (s.openIncident h).Bare full h := by
  have c : s.Clear h := w.clear (by simp [HallState.allots, st]) (by simp [st]) (by simp [st])
  refine ⟨(State.Moves.of_modHall s h _ (Or.inr rfl)).apart (w.apart (by simp [st])), c.of_modHall h _, ?_,
    w.out (by simp [st])⟩
  rw [State.openIncident, State.inc_modHall_same]
  rfl

theorem State.Sound.openOnAlarm {full : Prop} {s : State} (w : s.Sound full) (h : HallId) :
    (s.openOnAlarm h).Sound full := by
  unfold State.openOnAlarm
  split
  · rename_i c
    have p := w.bare_openIncident c.1
    have e : s.openIncident h = (s.openIncident h).modInc h id := (State.modInc_id rfl).symm
    rw [e]
    refine p.sound_modInc id rfl ?_
    rw [State.openIncident, State.inc_modHall_same]
    simp [Incident.opened]
  · exact w

theorem State.Sound.testConfirmation {full : Prop} {s : State} (w : s.Sound full) (h : HallId) :
    (s.testConfirmation h).Sound full := by
  unfold State.testConfirmation
  split
  · rename_i st
    split
    · exact (w.bare (Or.inl st)).sound_confirm _
    · exact w
  · exact w

/-! ## Changes of a hall that keeps its allocation -/

/-- A hall with an allocation goes to another state that asks for the same grip. -/
theorem State.Sound.modHall_allots {full : Prop} {s : State} (w : s.Sound full) {h : HallId} (f : Hall → Hall)
    (a : (s.hallState h).allots) (a' : (f (s.hall h)).inc.state.allots)
    (g : (f (s.hall h)).inc.state.grip h = (s.hallState h).grip h) (l : (f (s.hall h)).inc.alloc = (s.inc h).alloc)
    (d : (f (s.hall h)).discharge = (s.hall h).discharge ∨ (f (s.hall h)).discharge = none) :
    (s.modHall h f).Sound full := by
  have old := w.allotted a
  have n := w.out (HallState.ne_waiting_of_allots a)
  have inc : (s.modHall h f).inc h = (f (s.hall h)).inc := State.inc_modHall_same s h f
  have st : (s.modHall h f).hallState h = (f (s.hall h)).inc.state := congrArg Incident.state inc
  have list : ((s.modHall h f).inc h).allocBanks = (s.inc h).allocBanks := by
    unfold Incident.allocBanks
    rw [inc, l]
  have apart := (State.Moves.of_modHall s h f d).apart (w.apart (HallState.ne_discharging_of_allots a))
  refine apart.sound_of_not_waiting (State.Allotted.hallLaw apart (by rw [st]; exact a') ?_ n) n
  rw [st, g]
  obtain ⟨banks, lies, carries, once⟩ := old
  exact ⟨by rw [list]; exact banks, by rw [list]; exact lies, by rw [list]; exact carries, by rw [list]; exact once⟩

/-- COUNTDOWN and HELD ask for the same. -/
theorem State.Sound.modHall_counting {full : Prop} {s : State} (w : s.Sound full) {h : HallId} (f : Hall → Hall)
    (a : s.hallState h = .countdown ∨ s.hallState h = .held)
    (a' : (f (s.hall h)).inc.state = .countdown ∨ (f (s.hall h)).inc.state = .held)
    (l : (f (s.hall h)).inc.alloc = (s.inc h).alloc)
    (d : (f (s.hall h)).discharge = (s.hall h).discharge) : (s.modHall h f).Sound full := by
  refine w.modHall_allots f ?_ ?_ ?_ l (Or.inl d)
  · unfold HallState.allots
    tauto
  · unfold HallState.allots
    tauto
  · unfold HallState.grip
    rw [if_neg (by obtain e | e := a' <;> simp [e]), if_neg (by obtain e | e := a <;> simp [e])]

theorem State.Moves.of_enterSelecting (s : State) (h : HallId) : State.Moves h s (s.enterSelecting h) := by
  refine ⟨State.frame_of_still (State.still_enterSelecting s h),
    fun g n => State.hall_enterSelecting_other s (fun e => n e.symm), Or.inl (by rw [State.hall_enterSelecting_same]),
    fun b => Or.inl (by simp only [State.bank, State.banks_enterSelecting]), fun m => ?_, by simp⟩
  rw [State.man_enterSelecting]
  split
  · rename_i e
    rw [e]
    exact Or.inr ⟨Or.inr rfl, Or.inr rfl⟩
  · exact Or.inl rfl

/-- A countdown that has run leads a hall to SELECTING (R102). -/
theorem State.Sound.enterSelecting {full : Prop} {s : State} (w : s.Sound full) {h : HallId}
    (a : s.hallState h = .countdown ∨ s.hallState h = .held) : (s.enterSelecting h).Sound full := by
  have al : (s.hallState h).allots := by
    unfold HallState.allots
    tauto
  have claims : (s.hallState h).grip h = .claimed h := by
    unfold HallState.grip
    rw [if_neg (by obtain e | e := a <;> simp [e])]
  obtain ⟨banks, lies, carries, once⟩ := w.allotted al
  rw [claims] at lies carries
  have apart := (State.Moves.of_enterSelecting s h).apart (w.apart (HallState.ne_discharging_of_allots al))
  have n := w.out (HallState.ne_waiting_of_allots al)
  have out : ¬ h ∈ (s.enterSelecting h).waitList := by rwa [State.waitList_enterSelecting]
  have list : ((s.enterSelecting h).inc h).allocBanks = (s.inc h).allocBanks :=
    congrArg (fun x => x.inc.allocBanks) (State.hall_enterSelecting_same s h)
  have manifoldOf : ∀ b, (s.enterSelecting h).manifoldOf b = s.manifoldOf b :=
    (State.Moves.of_enterSelecting s h).manifoldOf
  have selects : ∀ m, (s.man m).state = .claimed h → ((s.enterSelecting h).man m).state = .selecting h := by
    intro m e
    rw [State.man_enterSelecting, if_pos e]
    rfl
  refine apart.sound_of_not_waiting (State.Allotted.hallLaw apart ?_ ?_ out) out
  · rw [State.hallState_enterSelecting]
    exact Or.inr (Or.inr rfl)
  · rw [State.hallState_enterSelecting]
    refine ⟨fun b => ?_, fun b k => ?_, fun m e => ?_, by rw [list]; exact once⟩
    · rw [list, State.bank, State.banks_enterSelecting]
      exact banks b
    · rw [manifoldOf]
      rw [list] at k
      exact selects _ (lies b k)
    · have held : s.holder m = some h := by
        unfold State.holder at e ⊢
        rw [State.man_enterSelecting] at e
        split at e
        · rename_i k
          rw [k]
          rfl
        · exact e
      obtain ⟨c, b, hb, hm⟩ := carries m held
      exact ⟨selects m c, b, by rw [list]; exact hb, by rw [manifoldOf]; exact hm⟩

/-! ## Countdown and hold (chapter 5) -/

theorem State.hallState_modInc (s : State) (h : HallId) {f : Incident → Incident}
    (e : (f (s.inc h)).state = (s.inc h).state) : (s.modInc h f).hallState h = s.hallState h := by
  rw [State.hallState, State.inc_modInc_same]
  exact e

theorem State.Sound.modFlags {full : Prop} {s : State} (w : s.Sound full) (h : HallId) (f : Flags → Flags) :
    (s.modFlags h f).Sound full := w.modInc h (fun i => { i with flags := f i.flags }) rfl rfl rfl

theorem State.hallState_modFlags (s : State) (h : HallId) (f : Flags → Flags) :
    (s.modFlags h f).hallState h = s.hallState h :=
  State.hallState_modInc s h rfl

theorem State.Sound.leaveHeld {full : Prop} {s : State} (w : s.Sound full) (h : HallId) :
    (s.leaveHeld h).Sound full := by
  unfold State.leaveHeld
  split
  · exact w.modHall h _ rfl rfl rfl rfl
  · exact w

theorem State.hallState_leaveHeld (s : State) (h : HallId) : (s.leaveHeld h).hallState h = s.hallState h := by
  unfold State.leaveHeld
  split
  · rw [State.hallState, State.inc_modHall_same]
    rfl
  · rfl

theorem State.Sound.resumeCountdown {full : Prop} {s : State} (w : s.Sound full) {h : HallId}
    (a : s.hallState h = .countdown ∨ s.hallState h = .held) (n : Nat) : (s.resumeCountdown h n).Sound full :=
  w.modHall_counting _ a (Or.inl rfl) rfl rfl

theorem State.hallState_resumeCountdown (s : State) (h : HallId) (n : Nat) :
    (s.resumeCountdown h n).hallState h = .countdown := by
  rw [State.resumeCountdown_eq, State.hallState_counting]

theorem State.Sound.expireToWaiting {full : Prop} {s : State} (w : s.Sound full) {h : HallId}
    (a : (s.hallState h).allots) : (s.expireToWaiting h).Sound full := by
  have spent : (s.setCountdownSpent h).Sound full := w.modFlags h _
  have st : (s.setCountdownSpent h).hallState h = s.hallState h := State.hallState_modFlags s h _
  exact (spent.bare_returnAll (st ▸ a)).sound_enterWaiting.reexamine

theorem State.Sound.countdownExpires {full : Prop} {s : State} (w : s.Sound full) {h : HallId}
    (st : s.hallState h = .countdown) : (s.countdownExpires h).Sound full := by
  have a : (s.hallState h).allots := Or.inl st
  have again : (s.setPartial h).hallState h = .countdown := (State.hallState_modFlags s h _).trans st
  unfold State.countdownExpires
  split
  · exact w.expireToWaiting a
  · split
    · exact w.enterSelecting (Or.inl st)
    · split
      · exact State.Sound.enterSelecting (w.modFlags h _) (Or.inl again)
      · exact w.expireToWaiting a

theorem State.Sound.takeCountdownExpiry {full : Prop} {s : State} (w : s.Sound full) (h : HallId) :
    (s.takeCountdownExpiry h).Sound full := by
  unfold State.takeCountdownExpiry
  split
  · rename_i st
    exact w.countdownExpires st
  · exact w

theorem State.Sound.holdBegins {full : Prop} {s : State} (w : s.Sound full) (h : HallId) :
    (s.holdBegins h).Sound full := by
  unfold State.holdBegins
  split
  · rename_i c
    exact w.modHall_counting _ (Or.inl c.1) (Or.inr rfl) rfl rfl
  · exact w

theorem State.Sound.holdEnds {full : Prop} {s : State} (w : s.Sound full) (h : HallId) :
    (s.holdEnds h).Sound full := by
  unfold State.holdEnds
  split
  · rename_i st
    exact (w.leaveHeld h).resumeCountdown (Or.inr ((State.hallState_leaveHeld s h).trans st)) _
  · exact w

theorem State.Sound.demandMoved {full : Prop} {s : State} (w : s.Sound full) (h : HallId) (before : Bool) :
    (s.demandMoved h before).Sound full := by
  unfold State.demandMoved
  split
  · exact w.holdBegins h
  · split
    · exact w.holdEnds h
    · exact w

theorem State.Sound.takeBudgetOverride {full : Prop} {s : State} (w : s.Sound full) (h : HallId) :
    (s.takeBudgetOverride h).Sound full := by
  unfold State.takeBudgetOverride
  split
  · rename_i st
    refine State.Sound.resumeCountdown (State.Sound.modFlags (w.modInc h _ rfl rfl rfl) h _) (Or.inr ?_) _
    exact (State.hallState_modFlags _ h _).trans
      ((State.hallState_modInc s h rfl).trans st)
  · exact w

theorem State.Sound.leaveHeldByManual {full : Prop} {s : State} (w : s.Sound full) (h : HallId) :
    (s.leaveHeldByManual h).Sound full := by
  unfold State.leaveHeldByManual
  split
  · exact w
  · exact w.leaveHeld h

theorem State.hallState_leaveHeldByManual (s : State) (h : HallId) :
    (s.leaveHeldByManual h).hallState h = s.hallState h := by
  unfold State.leaveHeldByManual
  split
  · rfl
  · exact State.hallState_leaveHeld s h

theorem State.Sound.manualRelease {full : Prop} {s : State} (w : s.Sound full) {h : HallId}
    (a : s.hallState h = .countdown ∨ s.hallState h = .held) : (s.manualRelease h).Sound full := by
  have marked : ((s.setManualSeen h).setManualOverride h).Sound full :=
    State.Sound.modFlags (w.modInc h (fun i => { i with manualSeen := true }) rfl rfl rfl) h _
  have st : (((s.setManualSeen h).setManualOverride h).leaveHeldByManual h).hallState h = s.hallState h := by
    rw [State.hallState_leaveHeldByManual]
    exact (State.hallState_modFlags _ h _).trans (State.hallState_modInc s h rfl)
  have released := fun n => (marked.leaveHeldByManual h).resumeCountdown (st.symm ▸ a) n
  unfold State.manualRelease
  dsimp only
  split
  · exact (released _).countdownExpires (State.hallState_resumeCountdown _ h _)
  · exact released _

/-- A manual event keeps the laws (R45, R99). -/
theorem State.Sound.manualEvent {full : Prop} {s : State} (w : s.Sound full) (h : HallId) (c : Cause) :
    (s.manualEvent h c).Sound full := by
  have seen : (s.setManualSeen h).Sound full := w.modInc h _ rfl rfl rfl
  unfold State.manualEvent
  cases st : s.hallState h
  case quiet => exact ((w.bare_openIncident st).modInc _ rfl).sound_confirm c
  case alert => exact ((w.bare (Or.inl st)).modInc _ rfl).sound_confirm c
  case countdown => exact w.manualRelease (Or.inl st)
  case held => exact w.manualRelease (Or.inr st)
  all_goals exact seen

theorem State.Sound.takeZones {full : Prop} {s : State} (w : s.Sound full) (h : HallId) :
    (s.takeZones h).Sound full := by
  have opened := w.openOnAlarm h
  have latched : ((s.openOnAlarm h).latchZones h).Sound full := opened.modInc h _ rfl rfl rfl
  unfold State.takeZones
  dsimp only
  split
  · exact opened
  · split
    · exact latched.manualEvent h _
    · exact latched.testConfirmation h

/-! ## Isolation and LOCKOUT, stand-down and retry, the wait limit, a selector's timeout -/

/-- Isolation or LOCKOUT comes into force (R51). -/
theorem State.Sound.withholdBegins {full : Prop} {s : State} (w : s.Sound full) (h : HallId) (late : Bool) :
    (s.withholdBegins h late).Sound full := by
  have marked : (if late = true then s.setLateLockout h else s).Sound full := by
    split
    · exact w.modFlags h _
    · exact w
  unfold State.withholdBegins
  cases st : s.hallState h
  case waiting => exact (w.bare_leaveWaitList st).sound_enterInhibited.reexamine
  case countdown => exact (w.bare_returnAll (Or.inl st)).sound_enterInhibited.reexamine
  case held =>
    have a : ((s.leaveHeld h).hallState h).allots := by
      rw [State.hallState_leaveHeld, st]
      exact Or.inr (Or.inl rfl)
    exact ((w.leaveHeld h).bare_returnAll a).sound_enterInhibited.reexamine
  case selecting => exact marked
  case discharging => exact marked
  case soak => exact marked
  all_goals exact w

theorem State.Sound.withholdEnds {full : Prop} {s : State} (w : s.Sound full) (h : HallId) :
    (s.withholdEnds h).Sound full := by
  unfold State.withholdEnds
  split
  · rename_i c
    exact (w.bare (Or.inr (Or.inl c.1))).sound_singleAttempt
  · exact w

theorem State.Sound.retry {full : Prop} {s : State} (w : s.Sound full) {h : HallId} (st : s.hallState h = .stalled) :
    (s.retry h).Sound full := by
  have p := w.bare (Or.inr (Or.inr st))
  unfold State.retry
  split
  · exact p.sound_enterInhibited
  · exact p.sound_singleAttempt

/-- The list of a hall after a return is part of its old list. -/
theorem State.allocBanks_returnAll_sublist (s : State) (h : HallId) :
    ((s.returnAll h).inc h).allocBanks.Sublist (s.inc h).allocBanks := by
  rw [State.inc_returnAll]
  exact List.filter_sublist.map _

/-- A stand-down of a hall that is not releasing (R58). -/
theorem State.Sound.standDown {full : Prop} {s : State} (w : s.Sound full) {h : HallId}
    (n : (s.hallState h).releasing = false) : (s.standDown h).Sound full := by
  unfold State.standDown
  split
  · exact w
  · have left := w.leaveHeld h
    have st := State.hallState_leaveHeld s h
    have moves := (State.Moves.of_leaveWaitList (s.leaveHeld h) h).trans
      (State.Moves.of_returnAll ((s.leaveHeld h).leaveWaitList h) h)
    have nd : ¬ (s.leaveHeld h).hallState h = .discharging := by
      intro e
      rw [← st, e] at n
      exact absurd n (by decide)
    have ns : ¬ (s.leaveHeld h).hallState h = .soak := by
      intro e
      rw [← st, e] at n
      exact absurd n (by decide)
    have returnable : ((s.leaveHeld h).leaveWaitList h).Returnable h := by
      by_cases a : ((s.leaveHeld h).hallState h).allots
      · have r := (left.allotted a).returnable
        exact ⟨r.banks, r.mans⟩
      · have r := (left.clear a nd ns).returnable
        exact ⟨r.banks, r.mans⟩
    have closed := moves.trans (State.Moves.of_modHall _ h
      (fun x => { x with
        inc := { x.inc with closing := some (closingOf x.inc.state), isOpen := false, state := .quiet, countdown := none }
        wait := none
        stay := ⟨0, false⟩ }) (Or.inl rfl))
    have apart := closed.apart (left.apart nd)
    have out : ¬ h ∈ (((s.leaveHeld h).leaveWaitList h).returnAll h).waitList := by
      rw [State.waitList_returnAll]
      simp [State.leaveWaitList]
    have once : ((((s.leaveHeld h).leaveWaitList h).returnAll h).inc h).allocBanks.Nodup :=
      (State.allocBanks_returnAll_sublist _ h).nodup (left.halls h).once
    refine (apart.sound_of_not_waiting (State.Clear.hallLaw apart (returnable.clear.of_modHall h _) (Or.inr ?_) ?_)
      out).reexamine
    · rw [State.hallState, State.inc_modHall_same]
      exact ⟨Or.inl rfl, once⟩
    · rw [State.hallState, State.inc_modHall_same]
      exact ⟨fun k => absurd k out, fun k => absurd k (by simp)⟩

theorem State.Sound.takeWaitLimit {full : Prop} {s : State} (w : s.Sound full) (h : HallId) :
    (s.takeWaitLimit h).Sound full := by
  unfold State.takeWaitLimit
  split
  · exact w
  · split
    · exact w
    · exact State.Sound.reexamine (w.modHall h _ rfl rfl rfl rfl)

theorem State.Sound.takeSelectorTimeout {full : Prop} {s : State} (w : s.Sound full) (m : ManId) :
    (s.takeSelectorTimeout m).Sound full := by
  unfold State.takeSelectorTimeout
  split
  · split
    · rename_i st
      exact State.Sound.reexamine ((w.bare_returnAll (Or.inr (Or.inr st))).sound_modInc _ rfl (by simp))
    · exact w
  · exact w

end Sys2Proof.Machine
end

section
/-! The firing slots and the queue (R115 to R118): what a slot's change does to the banks in the slots, and the offers of
the slots to the queue. -/

namespace Sys2Proof

/-! ## The two slots -/

/-- The fellow of a slot. -/
def SlotId.other : SlotId → SlotId
  | .s1 => .s2
  | .s2 => .s1

theorem SlotId.eq_or_other (i j : SlotId) : j = i ∨ j = i.other := by cases i <;> cases j <;> simp [SlotId.other]

theorem SlotId.ne_other (i : SlotId) : ¬ i = i.other := by cases i <;> simp [SlotId.other]

end Sys2Proof

namespace Sys2Proof.Machine

/-- The banks in the slots, from either slot. -/
theorem State.slotBanks_perm (s : State) (i : SlotId) :
    s.slotBanks.Perm ((s.slots.get i).bank.toList ++ (s.slots.get i.other).bank.toList) := by
  cases i
  · exact List.Perm.refl _
  · exact List.perm_append_comm

theorem State.inMarking_iff (s : State) (i : SlotId) (b : BankId) :
    s.inMarking b ↔ s.slots.get i = .marking b ∨ s.slots.get i.other = .marking b := by
  constructor
  · rintro ⟨j, e⟩
    obtain rfl | rfl := SlotId.eq_or_other i j
    · exact Or.inl e
    · exact Or.inr e
  · rintro (e | e)
    · exact ⟨_, e⟩
    · exact ⟨_, e⟩

theorem State.inPulsing_iff (s : State) (i : SlotId) (b : BankId) :
    s.inPulsing b ↔ (∃ ms, s.slots.get i = .pulsing b ms) ∨ ∃ ms, s.slots.get i.other = .pulsing b ms := by
  constructor
  · rintro ⟨j, ms, e⟩
    obtain rfl | rfl := SlotId.eq_or_other i j
    · exact Or.inl ⟨ms, e⟩
    · exact Or.inr ⟨ms, e⟩
  · rintro (⟨ms, e⟩ | ⟨ms, e⟩)
    · exact ⟨_, ms, e⟩
    · exact ⟨_, ms, e⟩

theorem State.mem_slotBanks_of_marking {s : State} {b : BankId} (k : s.inMarking b) : b ∈ s.slotBanks := by
  obtain ⟨i, e⟩ := k
  rw [(s.slotBanks_perm i).mem_iff, e]
  simp [Slot.bank]

/-- A bank in a slot awaits its mark or pulses. -/
theorem State.mem_slotBanks_iff (s : State) (b : BankId) : b ∈ s.slotBanks ↔ s.inMarking b ∨ s.inPulsing b := by
  have one : ∀ x : Slot, b ∈ x.bank.toList ↔ x = .marking b ∨ ∃ ms, x = .pulsing b ms := by
    intro x
    cases x <;> simp [Slot.bank, eq_comm]
  rw [(s.slotBanks_perm .s1).mem_iff, List.mem_append, one, one, s.inMarking_iff .s1, s.inPulsing_iff .s1]
  tauto

/-- One slot replaced: its fellow stays. -/
structure State.SlotSet (i : SlotId) (x : Slot) (s t : State) : Prop where
  same : t.slots.get i = x
  other : t.slots.get i.other = s.slots.get i.other

theorem State.slotSet_of_set {s t : State} {i : SlotId} {x : Slot} (e : t.slots = s.slots.set i x) :
    State.SlotSet i x s t := by
  refine ⟨?_, ?_⟩
  · rw [e, PerSlot.get_set_same]
  · rw [e, PerSlot.get_set_other _ _ (SlotId.ne_other i)]

section
variable {i : SlotId} {x : Slot} {s t : State} (e : State.SlotSet i x s t)
include e

theorem State.SlotSet.slotBanks : t.slotBanks.Perm (x.bank.toList ++ (s.slots.get i.other).bank.toList) := by
  have p := t.slotBanks_perm i
  rwa [e.same, e.other] at p

theorem State.SlotSet.inMarking (b : BankId) :
    t.inMarking b ↔ x = .marking b ∨ s.slots.get i.other = .marking b := by
  rw [t.inMarking_iff i, e.same, e.other]

theorem State.SlotSet.inPulsing (b : BankId) :
    t.inPulsing b ↔ (∃ ms, x = .pulsing b ms) ∨ ∃ ms, s.slots.get i.other = .pulsing b ms := by
  rw [t.inPulsing_iff i, e.same, e.other]

end

/-! ## Facts of the queue -/

theorem State.Sound.nodup_slots {full : Prop} {s : State} (w : s.Sound full) (i : SlotId) :
    (s.queue ++ ((s.slots.get i).bank.toList ++ (s.slots.get i.other).bank.toList)).Nodup :=
  ((s.slotBanks_perm i).append_left s.queue).nodup_iff.1 w.queue.1

theorem State.Sound.not_marking_of_queue {full : Prop} {s : State} (w : s.Sound full) {b : BankId} (k : b ∈ s.queue) :
    ¬ s.inMarking b := fun m =>
  (List.nodup_append.1 w.queue.1).2.2 b k b (State.mem_slotBanks_of_marking m) rfl

/-! ## The offers of the slots (R117) -/

/-- The head of the queue in an empty slot, its mark not yet requested. -/
theorem State.queueLaw_of_head {s t : State} {b : BankId} {rest : List BankId} {i : SlotId} (w : s.queueLaw)
    (q : s.queue = b :: rest) (free : s.slots.get i = .empty) (bank : ∀ c, t.bank c = s.bank c) (tq : t.queue = rest)
    (sl : State.SlotSet i (.marking b) s t) : t.queueLaw := by
  obtain ⟨once, firing⟩ := w
  have old := s.slotBanks_perm i
  rw [free] at old
  refine ⟨?_, fun c => ?_⟩
  · rw [tq, (sl.slotBanks.append_left rest).nodup_iff]
    rw [q, (old.append_left (b :: rest)).nodup_iff] at once
    exact (List.perm_middle.nodup_iff).2 once
  · have m := firing c
    simp only [bank]
    rw [m, q, tq, sl.inMarking, s.inMarking_iff i, free]
    simp only [List.mem_cons, reduceCtorEq, false_or, Slot.marking.injEq]
    rw [eq_comm (a := b)]
    tauto

/-- A request of a mark for a bank newly in MARKING keeps the laws of the store and of the marks. -/
theorem State.marksLaw_requestMark {s t : State} {b : BankId} (w : s.marksLaw) (store : s.storeLaw)
    (n : ¬ s.inMarking b) (marking : ∀ c, t.inMarking c ↔ s.inMarking c ∨ c = b) (wr : t.write = s.write)
    (mq : t.markQueue = s.markQueue) : (t.requestMark b).marksLaw := by
  obtain ⟨under, once, apart⟩ := w
  obtain ⟨e, r⟩ | ⟨x, e, r⟩ := State.requestMark_cases t b <;> rw [r]
  · have empty := store.2 (wr ▸ e)
    refine ⟨fun c => ?_, ?_, fun c _ => ?_⟩
    · show t.inMarking c ↔ some (StoreWrite.setMark b) = some (.setMark c) ∨ c ∈ t.markQueue
      rw [marking, under, ← wr, e, mq, empty]
      simp [eq_comm]
    · show t.markQueue.Nodup
      rw [mq, empty]
      exact List.nodup_nil
    · show ¬ c ∈ t.markQueue
      simp [mq, empty]
  · refine ⟨fun c => ?_, ?_, fun c k => ?_⟩
    · show t.inMarking c ↔ t.write = some (.setMark c) ∨ c ∈ t.markQueue ++ [b]
      rw [marking, under, wr, mq, List.mem_append, List.mem_singleton]
      tauto
    · show (t.markQueue ++ [b]).Nodup
      rw [mq, List.nodup_append]
      refine ⟨once, by simp, ?_⟩
      rintro c hc d hd rfl
      rw [List.mem_singleton] at hd
      exact n ((under b).2 (Or.inr (hd ▸ hc)))
    · show ¬ c ∈ t.markQueue ++ [b]
      have k' : s.write = some (.setMark c) := wr ▸ k
      rw [mq, List.mem_append, List.mem_singleton]
      rintro (h | rfl)
      · exact apart c k' h
      · exact n ((under c).2 (Or.inl k'))

theorem State.storeLaw_requestMark {t : State} (w : t.storeLaw) (b : BankId) : (t.requestMark b).storeLaw := by
  obtain ⟨copy, empty⟩ := w
  obtain ⟨e, r⟩ | ⟨x, e, r⟩ := State.requestMark_cases t b <;> rw [r]
  · rw [e] at copy
    exact ⟨copy, fun k => absurd k (by simp)⟩
  · exact ⟨copy, fun k => absurd (e.symm.trans k) (by simp)⟩

theorem State.clearing_requestMark (t : State) (b c : BankId) :
    (t.requestMark b).write = some (.clearMark c) ↔ t.write = some (.clearMark c) := by
  obtain ⟨e, r⟩ | ⟨x, e, r⟩ := State.requestMark_cases t b <;> rw [r]
  simp [e]

/-- The head of the queue in a slot, its mark not yet requested. -/
def State.placed (s : State) (b : BankId) (rest : List BankId) (i : SlotId) : State :=
  { s with queue := rest, slots := s.slots.set i (.marking b) }

theorem State.slotSet_placed (s : State) (b : BankId) (rest : List BankId) (i : SlotId) :
    State.SlotSet i (.marking b) s (s.placed b rest i) := State.slotSet_of_set rfl

theorem State.inPulsing_placed {s : State} {i : SlotId} (free : s.slots.get i = .empty) (b : BankId)
    (rest : List BankId) (c : BankId) : (s.placed b rest i).inPulsing c ↔ s.inPulsing c := by
  rw [(s.slotSet_placed b rest i).inPulsing, s.inPulsing_iff i, free]
  simp

theorem State.inMarking_placed {s : State} {i : SlotId} (free : s.slots.get i = .empty) (b : BankId)
    (rest : List BankId) (c : BankId) : (s.placed b rest i).inMarking c ↔ s.inMarking c ∨ c = b := by
  rw [(s.slotSet_placed b rest i).inMarking, s.inMarking_iff i, free]
  simp only [Slot.marking.injEq, reduceCtorEq, false_or, eq_comm (a := b)]
  tauto

/-- A request of a mark touches the write and the queue of marks alone. -/
theorem State.requestMark_eq (t : State) (b : BankId) :
    ∃ x l, t.requestMark b = { t with write := x, markQueue := l } := by
  obtain ⟨-, r⟩ | ⟨x, -, r⟩ := State.requestMark_cases t b
  · exact ⟨_, _, r⟩
  · exact ⟨_, _, r⟩

theorem State.Sound.requestMark {full : Prop} {s t : State} (w : s.Sound full) (b : BankId) (same : State.SameHalls s t)
    (queue : t.queueLaw) (store : t.storeLaw)
    (preferences : ∀ h, (t.preference h).Nodup ∧ (t.nvPlan.halls.get h).preference.Nodup)
    (marked : full → t.initiatorLaw ∧ (∀ c, t.inPulsing c → t.nvSpent.get c = true ∧ t.initiators.get c = true) ∧
      (t.requestMark b).marksLaw ∧ t.spentLaw) : (t.requestMark b).Sound full := by
  have store' := State.storeLaw_requestMark store b
  have clearing := State.clearing_requestMark t b
  have marks' : full → (t.requestMark b).marksLaw := fun k => (marked k).2.2.1
  obtain ⟨x, l, r⟩ := State.requestMark_eq t b
  rw [r] at store' clearing marks' ⊢
  have same' : State.SameHalls s { t with write := x, markQueue := l } :=
    ⟨same.bank, same.man, same.manifoldOf, same.hallState, same.list, same.rank, same.timer, same.waits, same.pulsing⟩
  refine same'.sound w queue preferences store' fun k => ?_
  obtain ⟨initiators, pulse, -, spent⟩ := marked k
  refine ⟨initiators, pulse, marks' k, fun c => (spent c).trans ?_⟩
  rw [clearing]

/-- An offer of the slots keeps the laws (R117, R118). -/
theorem State.Sound.takeHead {full : Prop} {s : State} (w : s.Sound full) : s.takeHead.Sound full := by
  obtain e | ⟨b, rest, i, q, free, e⟩ := State.takeHead_cases s <;> rw [e]
  · exact w
  · have pulsing := State.inPulsing_placed free b rest
    have fresh : ¬ s.inMarking b := w.not_marking_of_queue (by rw [q]; exact List.mem_cons_self)
    refine State.Sound.requestMark (t := s.placed b rest i) w b
      ⟨fun _ => rfl, fun _ => rfl, fun _ => rfl, fun _ => rfl, fun _ => rfl, fun _ => rfl, fun _ => Or.inl, rfl,
        fun c => (pulsing c).1⟩
      (State.queueLaw_of_head w.queue q free (fun _ => rfl) rfl (s.slotSet_placed b rest i)) w.store w.preferences
      fun k => ?_
    obtain ⟨initiators, pulse, marks, spent⟩ := w.marked k
    exact ⟨fun c j => (pulsing c).2 (initiators c j), fun c p => pulse c ((pulsing c).1 p),
      State.marksLaw_requestMark marks w.store fresh (State.inMarking_placed free b rest) rfl rfl, spent⟩

theorem State.Sound.fillSlots {full : Prop} {s : State} (w : s.Sound full) : s.fillSlots.Sound full :=
  w.takeHead.takeHead

end Sys2Proof.Machine
end

section
/-! The release of one hall keeps the laws: the entry to DISCHARGING, the pulses, flow, the discharge period and the vent
(R109 to R125). Each moves that hall's banks on toward SPENT and its manifolds among themselves. -/

namespace Sys2Proof.Machine

/-! ## A step of one hall's release -/

/-- From `s` to `t` banks of hall `h` went on toward SPENT and its manifolds changed; nothing else of the tables moved. -/
structure State.Advances (h : HallId) (s t : State) : Prop where
  manifoldOf : ∀ b, t.manifoldOf b = s.manifoldOf b
  others : ∀ g, ¬ g = h → t.hall g = s.hall g
  banks : ∀ b, t.bank b = s.bank b ∨
    ((s.bank b = .reserved h ∨ s.bank b = .firing h) ∧ (t.bank b = .firing h ∨ t.bank b = .spent))
  mans : ∀ m, (t.man m).state = (s.man m).state ∨ ((s.man m).state.within h ∧ (t.man m).state.within h)
  waits : t.waitList = s.waitList
  pulsing : ∀ b, t.inPulsing b → s.inPulsing b ∨ s.bank b = .firing h
  rank : (t.inc h).confNumber = (s.inc h).confNumber

section
variable {h : HallId} {s t : State} (a : State.Advances h s t)
include a

theorem State.Advances.reserved_iff {g : HallId} (n : ¬ g = h) (b : BankId) :
    t.bank b = .reserved g ↔ s.bank b = .reserved g := by
  obtain e | ⟨x | x, y | y⟩ := a.banks b
  · rw [e]
  all_goals simp [x, y, Ne.symm n]

theorem State.Advances.firing_iff {g : HallId} (n : ¬ g = h) (b : BankId) :
    t.bank b = .firing g ↔ s.bank b = .firing g := by
  obtain e | ⟨x | x, y | y⟩ := a.banks b
  · rw [e]
  all_goals simp [x, y, Ne.symm n]

theorem State.Advances.spent {b : BankId} (e : s.bank b = .spent) : t.bank b = .spent := by
  obtain k | ⟨x | x, -⟩ := a.banks b
  · exact k.trans e
  · simp [e] at x
  · simp [e] at x

theorem State.Advances.man_of_holder {g : HallId} (n : ¬ g = h) {m : ManId} (e : s.holder m = some g) :
    (t.man m).state = (s.man m).state := by
  obtain k | ⟨x | x, -⟩ := a.mans m
  · exact k
  · exact absurd (x.symm.trans e) (by simp)
  · exact absurd (x.symm.trans e) (by simp [Ne.symm n])

theorem State.Advances.holder {g : HallId} (n : ¬ g = h) {m : ManId} (e : s.holder m = some g) :
    t.holder m = some g := by
  unfold State.holder
  rw [a.man_of_holder n e]
  exact e

theorem State.Advances.holder_back {g : HallId} (n : ¬ g = h) {m : ManId} (e : t.holder m = some g) :
    s.holder m = some g := by
  obtain k | ⟨-, y | y⟩ := a.mans m
  · unfold State.holder at e ⊢
    rw [← k]
    exact e
  · exact absurd (y.symm.trans e) (by simp)
  · exact absurd (y.symm.trans e) (by simp [Ne.symm n])

/-- The laws of another hall are kept. -/
theorem State.Advances.hallLaw {g : HallId} (n : ¬ g = h) (w : s.HallLaw g) : t.HallLaw g := by
  have hall := a.others g n
  have inc := State.inc_of_hall hall
  have st := State.hallState_of_hall hall
  refine ⟨by rw [a.waits, st]; exact w.waits, fun b e => ?_, fun b e => ?_, fun m e => ?_,
    ⟨fun c b l => ?_, fun c b l => ?_, fun c => ?_⟩, fun e => ?_, by rw [inc]; exact w.once⟩
  · obtain ⟨x, y, z⟩ := w.reserved b ((a.reserved_iff n b).1 e)
    rw [st, inc, a.manifoldOf]
    exact ⟨x, y, a.holder n z⟩
  · obtain ⟨x, y, z⟩ := w.firing b ((a.firing_iff n b).1 e)
    rw [st, inc, a.manifoldOf]
    exact ⟨x, y, a.holder n z⟩
  · have back := a.holder_back n e
    have old := w.held m back
    have state := a.man_of_holder n back
    have spent : ∀ P : BankId → Prop, (∃ b, P b ∧ s.bank b = .spent ∧ s.manifoldOf b = m) →
        ∃ b, P b ∧ t.bank b = .spent ∧ s.manifoldOf b = m :=
      fun P ⟨b, p, q, r⟩ => ⟨b, p, a.spent q, r⟩
    unfold State.holder at back
    unfold State.heldLaw at old ⊢
    rw [state]
    cases c : (s.man m).state <;> rw [c] at back old <;>
      simp only [ManState.holder, Option.some.injEq, reduceCtorEq] at back <;> subst back <;>
      simp only [st, inc, a.manifoldOf, a.reserved_iff n, a.firing_iff n]
    · exact old
    · exact old
    · exact ⟨old.1, spent _ old.2⟩
    · exact ⟨old.1, spent _ old.2⟩
  · rw [a.reserved_iff n]
    rw [st] at c
    rw [inc] at l
    exact w.list.1 c b l
  · rw [a.firing_iff n, a.manifoldOf]
    rw [st] at c
    rw [inc] at l
    exact (w.list.2.1 c b l).imp id fun k => ⟨a.spent k.1, a.holder n k.2⟩
  · rw [st] at c
    rw [inc]
    exact w.list.2.2 c
  · rw [hall] at e
    obtain ⟨d, all⟩ := w.timer e
    refine ⟨st.trans d, fun b l => ?_⟩
    rw [inc] at l
    obtain ⟨sp, np⟩ := all b l
    refine ⟨a.spent sp, fun p => ?_⟩
    obtain p | p := a.pulsing b p
    · exact np p
    · simp [sp] at p

/-- A step of one hall's release keeps the laws with that hall's own law, and those of the queue, the pulses, the store and
the marks. -/
theorem State.Advances.sound {full : Prop} (w : s.Sound full) (own : t.HallLaw h) (queue : t.queueLaw)
    (pulsed : ∀ b, t.pulsedLaw b)
    (preferences : ∀ g, (t.preference g).Nodup ∧ (t.nvPlan.halls.get g).preference.Nodup) (store : t.storeLaw)
    (marked : full → t.MarkLaw) : t.Sound full := by
  refine ⟨?_, fun g => ?_, queue, pulsed, preferences, store, marked⟩
  · have rank : ∀ g, (t.inc g).confNumber = (s.inc g).confNumber := by
      intro g
      by_cases n : g = h
      · rw [n]
        exact a.rank
      · rw [State.inc_of_hall (a.others g n)]
    rw [a.waits]
    exact w.ranked.imp fun {f g} r => (State.ranksBefore_congr (rank f) (rank g)).trans r
  · by_cases n : g = h
    · rw [n]
      exact own
    · exact a.hallLaw n (w.halls g)

end

/-- A state with the fields of another that the store's and the marks' laws speak of. -/
theorem State.MarkLaw.of_same {s t : State} (w : s.MarkLaw) (ini : t.initiators = s.initiators)
    (nv : t.nvSpent = s.nvSpent) (wr : t.write = s.write) (mq : t.markQueue = s.markQueue) (sl : t.slots = s.slots)
    (spent : ∀ b, t.bank b = .spent ↔ s.bank b = .spent) : t.MarkLaw := by
  obtain ⟨initiators, pulsing, marks, law⟩ := w
  refine ⟨?_, ?_, ?_, fun b => ?_⟩
  · unfold State.initiatorLaw
    rw [ini, sl]
    exact initiators
  · unfold State.inPulsing
    rw [nv, ini, sl]
    exact pulsing
  · unfold State.marksLaw State.inMarking
    rw [sl, wr, mq]
    exact marks
  · rw [spent, nv, wr]
    exact law b

/-! ## The entry to DISCHARGING (R8, R56, R116) -/

/-- The banks that join the queue at the entry to DISCHARGING. -/
def State.joining (s : State) (h : HallId) : List BankId := (s.inc h).allocBanks.filter fun b => s.bank b == .reserved h

/-- The hall in DISCHARGING with its banks in the queue, the slots not yet offered. -/
def State.fired (s : State) (h : HallId) : State :=
  { (s.modInc h fun i => { i with state := .discharging }) with
    banks := s.banks.mapId fun b (x : BankState) => x.fire h ((s.joining h).contains b)
    queue := s.queue ++ s.joining h }

theorem State.enterDischarging_eq (s : State) (h : HallId) : s.enterDischarging h = (s.fired h).fillSlots := rfl

theorem State.hall_fired (s : State) (h : HallId) :
    (s.fired h).hall h = { s.hall h with inc := { s.inc h with state := .discharging } } :=
  PerHall.get_set_same s.halls h _

theorem State.inc_fired (s : State) (h : HallId) : (s.fired h).inc h = { s.inc h with state := .discharging } :=
  congrArg Hall.inc (State.hall_fired s h)

theorem State.bank_fired (s : State) (h : HallId) (b : BankId) :
    (s.fired h).bank b = if b ∈ (s.inc h).allocBanks ∧ s.bank b = .reserved h then .firing h else s.bank b := by
  have e : (s.fired h).bank b = (s.bank b).fire h ((s.joining h).contains b) := PerBank.get_mapId _ _ _
  rw [e, BankState.fire]
  refine if_congr ?_ rfl rfl
  rw [List.contains_iff_mem, State.joining, List.mem_filter, beq_iff_eq]
  tauto

theorem State.joining_of_allotted {s : State} {h : HallId} {x : ManState} (l : s.Allotted h x) :
    s.joining h = (s.inc h).allocBanks := by
  unfold State.joining
  rw [List.filter_eq_self]
  intro b k
  rw [beq_iff_eq]
  exact (l.banks b).2 k

theorem State.Allotted.bank_fired {s : State} {h : HallId} {x : ManState} (l : s.Allotted h x) (b : BankId) :
    (s.fired h).bank b = if b ∈ (s.inc h).allocBanks then .firing h else s.bank b := by
  rw [State.bank_fired]
  refine if_congr ⟨fun k => k.1, fun k => ⟨k, (l.banks b).2 k⟩⟩ rfl rfl

theorem State.advances_fired (s : State) (h : HallId) : State.Advances h s (s.fired h) := by
  refine ⟨fun _ => rfl, fun g n => PerHall.get_set_other s.halls _ fun e => n e.symm, fun b => ?_,
    fun _ => Or.inl rfl, rfl,
    fun _ => Or.inl, by rw [State.inc_fired]⟩
  rw [State.bank_fired]
  split
  · rename_i k
    exact Or.inr ⟨Or.inl k.2, Or.inl rfl⟩
  · exact Or.inl rfl

/-- The entry to DISCHARGING from SELECTING keeps the laws. -/
theorem State.Sound.enterDischarging {full : Prop} {s : State} (w : s.Sound full) {h : HallId}
    (st : s.hallState h = .selecting) : (s.enterDischarging h).Sound full := by
  rw [State.enterDischarging_eq]
  have al : (s.hallState h).allots := Or.inr (Or.inr st)
  have l := w.allotted al
  rw [st] at l
  have bank := l.bank_fired
  have inc := State.inc_fired s h
  have banks : ((s.fired h).inc h).allocBanks = (s.inc h).allocBanks := by
    rw [inc]
    rfl
  have state : (s.fired h).hallState h = .discharging := congrArg Incident.state inc
  have firing : ∀ b, (s.fired h).bank b = .firing h ↔ b ∈ (s.inc h).allocBanks := by
    intro b
    rw [bank]
    split
    · rename_i k
      exact ⟨fun _ => k, fun _ => rfl⟩
    · rename_i k
      exact ⟨fun e => absurd e ((w.apart (by simp [st])).firing b), fun e => absurd e k⟩
  have spent : ∀ b, (s.fired h).bank b = .spent ↔ s.bank b = .spent := by
    intro b
    rw [bank]
    split
    · rename_i k
      simp [(l.banks b).2 k]
    · exact Iff.rfl
  have adv := State.advances_fired s h
  have own : (s.fired h).HallLaw h := by
    refine ⟨?_, fun b e => ?_, fun b e => ?_, fun m e => ?_, ⟨fun c => ?_, fun _ b k => Or.inl ?_, fun c => ?_⟩,
      fun e => ?_, by rw [banks]; exact l.once⟩
    · rw [state]
      exact ⟨fun k => absurd k (w.out (by simp [st])), fun k => absurd k (by simp)⟩
    · rw [bank] at e
      split at e
      · simp at e
      · rename_i k
        exact absurd ((l.banks b).1 e) k
    · have k := (firing b).1 e
      rw [banks]
      refine ⟨state, k, ?_⟩
      exact congrArg ManState.holder (l.lies b k)
    · obtain ⟨c, b, hb, hm⟩ := l.carries m e
      have c' : ((s.fired h).man m).state = .selecting h := c
      unfold State.heldLaw
      rw [c']
      exact Or.inr ⟨state, b, (firing b).2 hb, hm⟩
    · simp [state] at c
    · rw [banks] at k
      exact (firing b).2 k
    · simp [state] at c
    · rw [State.hall_fired] at e
      dsimp only at e
      rw [(w.apart (by simp [st])).timer] at e
      exact absurd e (by simp)
  refine (adv.sound w own ⟨?_, fun b => ?_⟩ (fun b p => ?_) w.preferences w.store fun k => ?_).fillSlots
  · show ((s.queue ++ s.joining h) ++ s.slotBanks).Nodup
    rw [State.joining_of_allotted l, List.append_assoc]
    refine (List.perm_append_comm_assoc s.queue (s.inc h).allocBanks s.slotBanks).nodup_iff.2 ?_
    rw [List.nodup_append]
    refine ⟨l.once, w.queue.1, ?_⟩
    rintro b hb c hc rfl
    have r := (l.banks b).2 hb
    rw [List.mem_append, State.mem_slotBanks_iff] at hc
    obtain k | k | k := hc
    · obtain ⟨g, e⟩ := (w.queue.2 b).2 (Or.inl k)
      simp [r] at e
    · obtain ⟨g, e⟩ := (w.queue.2 b).2 (Or.inr k)
      simp [r] at e
    · have e := (w.pulsed b k).1
      simp [r] at e
  · show (∃ g, (s.fired h).bank b = .firing g) ↔ b ∈ s.queue ++ s.joining h ∨ s.inMarking b
    rw [List.mem_append, State.joining_of_allotted l, bank]
    have old := w.queue.2 b
    split
    · rename_i k
      exact ⟨fun _ => Or.inl (Or.inr k), fun _ => ⟨h, rfl⟩⟩
    · rename_i k
      rw [old]
      tauto
  · obtain ⟨e, g, m, lb, d⟩ := w.pulsed b p
    have n : ¬ h = g := by
      rintro rfl
      simp [st] at d
    refine ⟨(spent b).2 e, g, m, ?_, ?_⟩
    · rw [State.inc_of_hall (adv.others g (Ne.symm n))]
      exact lb
    · rw [State.hallState_of_hall (adv.others g (Ne.symm n))]
      exact d
  · exact (w.marked k).of_same rfl rfl rfl rfl rfl spent

end Sys2Proof.Machine
end

section
/-! The release goes on under the laws: selectors, the pulse of a marked bank (R118 to R121), its end (R119, R123), flow
(R122), the discharge period (R124) and the vent (R125). -/

namespace Sys2Proof.Machine

/-! ## Changes that the laws do not see -/

/-- A manifold's record changed in what the laws do not speak of. -/
theorem State.Sound.modMan {full : Prop} {s : State} (w : s.Sound full) (m : ManId) (f : Manifold → Manifold)
    (e : (f (s.man m)).state = (s.man m).state) : (s.modMan m f).Sound full := by
  refine w.of_same ⟨⟨fun _ => rfl, fun n => ?_, fun _ => rfl, fun _ => rfl, fun _ => rfl, fun _ => rfl, fun _ => Or.inl, rfl,
    fun _ => id⟩, rfl, rfl, fun _ => Iff.rfl, fun _ => id⟩ ⟨rfl, rfl, rfl, rfl, rfl, rfl⟩
  rw [State.man_modMan]
  split
  · rename_i k
    rw [← k]
    exact e
  · rfl

/-! ## Selectors (R109 to R112) -/

theorem Manifold.state_stopSelectorTimer (x : Manifold) : x.stopSelectorTimer.state = x.state := by
  unfold Manifold.stopSelectorTimer
  cases x.timer <;> rfl

theorem State.Sound.modSelector {full : Prop} {s : State} (w : s.Sound full) (m : ManId) (h : HallId)
    (f : Selector → Selector) : (s.modSelector m h f).Sound full := w.of_core rfl

theorem State.Sound.provenCloses {full : Prop} {s : State} (w : s.Sound full) (m : ManId) (h : HallId) :
    (s.provenCloses m h).Sound full := by
  have proved : ((s.modSelector m h fun x => { x with proven := true }).modMan m Manifold.stopSelectorTimer).Sound full :=
    State.Sound.modMan (w.modSelector m h _) m _ (Manifold.state_stopSelectorTimer _)
  unfold State.provenCloses
  split
  · dsimp only
    split
    · rename_i c
      exact proved.enterDischarging c.1
    · exact proved
  · exact w

theorem State.Sound.provenOpens {full : Prop} {s : State} (w : s.Sound full) (m : ManId) (h : HallId) :
    (s.provenOpens m h).Sound full := by
  unfold State.provenOpens
  split
  · split
    · exact w.modFlags _ _
    · exact w
  · exact w

/-! ## Flow (R122) -/

theorem State.Sound.flowCloses {full : Prop} {s : State} (w : s.Sound full) (m : ManId) :
    (s.flowCloses m).Sound full := by
  unfold State.flowCloses
  split
  · exact w.modMan m _ rfl
  · exact w

theorem State.Sound.takeFlowTimeout {full : Prop} {s : State} (w : s.Sound full) (m : ManId) :
    (s.takeFlowTimeout m).Sound full := by
  unfold State.takeFlowTimeout
  split
  · exact State.Sound.modFlags (w.modMan m _ rfl) _ _
  · exact w

/-! ## The pulse of a marked bank (R118, R121) -/

theorem State.markingSlot_some {s : State} {b : BankId} {i : SlotId} (e : s.markingSlot b = some i) :
    s.slots.get i = .marking b := by
  unfold State.markingSlot at e
  split at e
  · cases e
    assumption
  · split at e
    · cases e
      assumption
    · cases e

theorem State.markingSlot_none {s : State} {b : BankId} (e : s.markingSlot b = none) : ¬ s.inMarking b := by
  rintro ⟨i, k⟩
  unfold State.markingSlot at e
  split at e
  · cases e
  · split at e
    · cases e
    · cases i <;> contradiction

/-- What the first pulse makes of a manifold (R121). -/
def Manifold.charged (x : Manifold) (timeout : Nat) : Manifold :=
  match x.state with
  | .selecting h => { x with state := .charged h, timer := .flow (Timer.startSeconds timeout) }
  | _ => x

theorem State.modMan_congr {s : State} {m : ManId} {f g : Manifold → Manifold} (e : f (s.man m) = g (s.man m)) :
    s.modMan m f = s.modMan m g := by
  unfold State.modMan
  rw [show f (s.mans.get m) = g (s.mans.get m) from e]

theorem State.modMan_id {s : State} {m : ManId} {f : Manifold → Manifold} (e : f (s.man m) = s.man m) :
    s.modMan m f = s := by
  unfold State.modMan
  rw [show f (s.mans.get m) = s.mans.get m from e, PerMan.set_get]

theorem State.chargeManifold_eq (s : State) (m : ManId) :
    s.chargeManifold m = s.modMan m fun x => x.charged (s.manPlan m).flowTimeout := by
  unfold State.chargeManifold
  split
  · rename_i h e
    refine State.modMan_congr ?_
    simp only [Manifold.charged, e]
  · rename_i k
    symm
    refine State.modMan_id ?_
    unfold Manifold.charged
    split
    · rename_i h e
      exact absurd e (k h)
    · rfl

/-- The state with the pulse of a bank begun in a slot (R118, R119, R121, R133). -/
def State.pulsed (s : State) (b : BankId) (i : SlotId) : State :=
  State.modMan
    { s with
      slots := s.slots.set i (.pulsing b Config.pulseMs)
      banks := s.banks.set b .spent
      initiators := s.initiators.set b true
      bankCircuits := s.bankCircuits.set b { s.bankCircuits.get b with driven := true, run := none }
      measuring := s.measuring.filter fun x => !(x.circuit == .bank b) }
    (s.manifoldOf b) fun x => x.charged (s.manPlan (s.manifoldOf b)).flowTimeout

theorem State.pulseBegins_cases (s : State) (b : BankId) :
    (¬ s.inMarking b ∧ s.pulseBegins b = s) ∨
    ∃ i, s.slots.get i = .marking b ∧ s.markingSlot b = some i ∧ s.pulseBegins b = s.pulsed b i := by
  unfold State.pulseBegins
  split
  · rename_i e
    exact Or.inl ⟨State.markingSlot_none e, rfl⟩
  · rename_i i e
    refine Or.inr ⟨i, State.markingSlot_some e, e, ?_⟩
    rw [State.chargeManifold_eq]
    unfold State.pulsed State.markDriven State.abandonMeasurement State.setInitiator State.setBank State.setSlot
    rfl

/-! ## Completions of writes (R179) -/

/-- The state with a write stored and the next mark's write begun. -/
def State.stored (s : State) (w : StoreWrite) : State :=
  { s with
    nvPlan := w.applyPlan s.nvPlan
    nvSpent := w.applySpent s.nvSpent
    write := s.markQueue.head?.map .setMark
    markQueue := s.markQueue.tail }

theorem State.completeWrite_eq {s : State} {w : StoreWrite} (e : s.write = some w) : s.completeWrite = s.stored w := by
  obtain ⟨n, -⟩ | ⟨x, k, q, r⟩ | ⟨x, b, rest, k, q, r⟩ := State.completeWrite_cases s
  · rw [n] at e
    cases e
  · obtain rfl : x = w := Option.some.inj (k.symm.trans e)
    rw [r, State.stored, q]
    rfl
  · obtain rfl : x = w := Option.some.inj (k.symm.trans e)
    rw [r, State.stored, q]
    rfl

theorem State.sameHalls_stored (s : State) (w : StoreWrite) : State.SameHalls s (s.stored w) :=
  ⟨fun _ => rfl, fun _ => rfl, fun _ => rfl, fun _ => rfl, fun _ => rfl, fun _ => rfl, fun _ => Or.inl, rfl, fun _ => id⟩

/-- Once a write is stored, the working copy is the store's content (R175). -/
theorem State.nvPlan_stored {s : State} {w : StoreWrite} (law : s.storeLaw) (e : s.write = some w) :
    (s.stored w).nvPlan = s.work := by
  obtain ⟨copy, -⟩ := law
  rw [e] at copy
  exact copy.symm

theorem State.storeLaw_stored {s : State} {w : StoreWrite} (law : s.storeLaw) (e : s.write = some w) :
    (s.stored w).storeLaw := by
  have copy := State.nvPlan_stored law e
  unfold State.storeLaw
  rw [copy]
  have wr : (s.stored w).write = s.markQueue.head?.map .setMark := rfl
  rw [wr]
  cases q : s.markQueue with
  | nil => exact ⟨rfl, fun _ => by simp [State.stored, q]⟩
  | cons b rest => exact ⟨rfl, fun k => absurd k (by simp)⟩

theorem State.preferences_stored {full : Prop} {s : State} {w : StoreWrite} (law : s.Sound full) (e : s.write = some w)
    (h : HallId) : ((s.stored w).preference h).Nodup ∧ ((s.stored w).nvPlan.halls.get h).preference.Nodup := by
  rw [State.nvPlan_stored law.store e]
  exact ⟨(law.preferences h).1, (law.preferences h).1⟩

/-- The marks under way after a completion are those that waited (R180). -/
theorem State.marks_stored (s : State) (w : StoreWrite) (b : BankId) :
    (s.stored w).write = some (.setMark b) ∨ b ∈ (s.stored w).markQueue ↔ b ∈ s.markQueue := by
  unfold State.stored
  cases s.markQueue with
  | nil => simp
  | cons c rest => simp [eq_comm]

theorem State.marksOnce_stored {s : State} (w : StoreWrite) (once : s.markQueue.Nodup) :
    (s.stored w).markQueue.Nodup ∧
    ∀ b, (s.stored w).write = some (.setMark b) → ¬ b ∈ (s.stored w).markQueue := by
  unfold State.stored
  cases q : s.markQueue with
  | nil => simp
  | cons c rest =>
    rw [q, List.nodup_cons] at once
    refine ⟨once.2, fun b e => ?_⟩
    obtain rfl : c = b := by simpa using e
    exact once.1

theorem State.clearing_stored (s : State) (w : StoreWrite) (b : BankId) :
    ¬ (s.stored w).write = some (.clearMark b) := by
  unfold State.stored
  cases s.markQueue <;> simp

/-- A completed write that is not of a spent mark (R179). -/
theorem State.Sound.stored {full : Prop} {s : State} {w : StoreWrite} (law : s.Sound full) (e : s.write = some w)
    (n : ∀ b, ¬ w = .setMark b) : (s.stored w).Sound full := by
  refine (State.sameHalls_stored s w).sound law law.queue (State.preferences_stored law e)
    (State.storeLaw_stored law.store e) fun k => ?_
  obtain ⟨initiators, pulse, ⟨under, once, -⟩, spent⟩ := law.marked k
  obtain ⟨once', apart⟩ := State.marksOnce_stored w once
  have marks : ∀ b, s.bank b = .spent ↔ (w.applySpent s.nvSpent).get b = true := by
    intro b
    have old := spent b
    rw [e] at old
    rw [old]
    cases w with
    | setMark c => exact absurd rfl (n c)
    | clearMark c =>
      show _ ↔ (s.nvSpent.set c false).get b = true
      rw [PerBank.get_set]
      by_cases k : c = b
      · simp [k]
      · simp [k]
    | plan _ => simp [StoreWrite.applySpent]
    | bankIsolated _ _ => simp [StoreWrite.applySpent]
    | hallIsolated _ _ => simp [StoreWrite.applySpent]
    | lockMode _ => simp [StoreWrite.applySpent]
  refine ⟨initiators, fun b p => ⟨(marks b).1 (law.pulsed b p).1, (pulse b p).2⟩, ⟨fun b => ?_, once', apart⟩, fun b => ?_⟩
  · rw [State.marks_stored]
    refine (under b).trans ⟨fun k => k.resolve_left ?_, Or.inr⟩
    rw [e]
    exact fun k => n b (Option.some.inj k)
  · exact (marks b).trans ⟨fun k => ⟨k, State.clearing_stored s w b⟩, fun k => k.1⟩

theorem State.Sound.takeWriteCompletion {full : Prop} {s : State} (w : s.Sound full) :
    s.takeWriteCompletion.Sound full := by
  unfold State.takeWriteCompletion
  split
  · exact w
  · exact w
  · rename_i x n e
    rw [State.completeWrite_eq e]
    exact w.stored e n

end Sys2Proof.Machine
end

section
/-! The pulse of a marked bank, its end, the discharge period and the vent keep the laws (R117 to R125). -/

namespace Sys2Proof.Machine

/-! ## A hall in DISCHARGING, by its manifolds and banks -/

/-- A manifold held by a hall in DISCHARGING is SELECTING under a FIRING bank, or CHARGED over a SPENT one (R14, R15). -/
theorem State.Sound.held_discharging {full : Prop} {s : State} (w : s.Sound full) {h : HallId} {m : ManId}
    (d : s.hallState h = .discharging) (e : s.holder m = some h) :
    ((s.man m).state = .selecting h ∧ ∃ b, s.bank b = .firing h ∧ s.manifoldOf b = m) ∨
    ((s.man m).state = .charged h ∧ ∃ b, b ∈ (s.inc h).allocBanks ∧ s.bank b = .spent ∧ s.manifoldOf b = m) := by
  have l := (w.halls h).held m e
  unfold State.heldLaw at l
  unfold State.holder at e
  cases c : (s.man m).state <;> rw [c] at e l <;> simp only [ManState.holder, Option.some.injEq, reduceCtorEq] at e
    <;> subst e <;> simp [d] at l
  · exact Or.inl ⟨rfl, l⟩
  · exact Or.inr ⟨rfl, l⟩

/-- A discharge timer that runs leaves no bank of the hall FIRING. -/
theorem State.Sound.not_firing_of_timer {full : Prop} {s : State} (w : s.Sound full) {h : HallId}
    (r : (s.hall h).discharge.isSome = true) (b : BankId) : ¬ s.bank b = .firing h := by
  intro e
  have k := (((w.halls h).timer r).2 b ((w.halls h).firing b e).2.1).1
  simp [e] at k

/-- A bank in a slot, pulsing or not, is not in the other slot nor in the queue. -/
theorem State.Sound.alone {full : Prop} {s : State} (w : s.Sound full) {b : BankId} {i : SlotId}
    (e : (s.slots.get i).bank = some b) : ¬ b ∈ s.queue ∧ ¬ (s.slots.get i.other).bank = some b := by
  have once := w.nodup_slots i
  rw [e, List.nodup_append] at once
  obtain ⟨-, slots, apart⟩ := once
  refine ⟨fun k => apart b k b (by simp) rfl, fun k => ?_⟩
  rw [k] at slots
  simp at slots

/-! ## The pulse begins (R118, R121) -/

theorem Manifold.state_charged_of_selecting {x : Manifold} {h : HallId} (e : x.state = .selecting h) (n : Nat) :
    (x.charged n).state = .charged h := by simp only [Manifold.charged, e]

theorem Manifold.charged_of_charged {x : Manifold} {h : HallId} (e : x.state = .charged h) (n : Nat) :
    x.charged n = x := by simp only [Manifold.charged, e]

theorem State.bank_pulsed (s : State) (b : BankId) (i : SlotId) (c : BankId) :
    (s.pulsed b i).bank c = if b = c then .spent else s.bank c := PerBank.get_set _ _ _ _

theorem State.slotSet_pulsed (s : State) (b : BankId) (i : SlotId) :
    State.SlotSet i (.pulsing b Config.pulseMs) s (s.pulsed b i) := State.slotSet_of_set rfl

theorem State.man_pulsed_same (s : State) (b : BankId) (i : SlotId) :
    (s.pulsed b i).man (s.manifoldOf b) =
      (s.man (s.manifoldOf b)).charged (s.manPlan (s.manifoldOf b)).flowTimeout := by
  unfold State.pulsed
  rw [State.man_modMan, if_pos rfl]
  rfl

theorem State.man_pulsed_other (s : State) (b : BankId) (i : SlotId) {m : ManId} (n : ¬ s.manifoldOf b = m) :
    (s.pulsed b i).man m = s.man m := by
  unfold State.pulsed
  rw [State.man_modMan, if_neg n]
  rfl

/-- The tables of a state in which the marked bank of a hall in DISCHARGING pulses. -/
structure State.Pulsed (s : State) (b : BankId) (i : SlotId) (h : HallId) (t : State) : Prop where
  marked : s.slots.get i = .marking b
  fires : s.bank b = .firing h
  slots : State.SlotSet i (.pulsing b Config.pulseMs) s t
  bank : ∀ c, t.bank c = if b = c then .spent else s.bank c
  own : (t.man (s.manifoldOf b)).state = .charged h
  other : ∀ m, ¬ s.manifoldOf b = m → t.man m = s.man m
  halls : t.halls = s.halls
  waits : t.waitList = s.waitList
  queue : t.queue = s.queue
  work : t.work = s.work

theorem State.Sound.pulsed_of {full : Prop} {s : State} (w : s.Sound full) {b : BankId} {i : SlotId} {h : HallId}
    (e : s.slots.get i = .marking b) (f : s.bank b = .firing h) (x : StoreWrite) :
    State.Pulsed s b i h ((s.stored x).pulsed b i) := by
  obtain ⟨d, -, held⟩ := (w.halls h).firing b f
  have slots := State.slotSet_pulsed (s.stored x) b i
  refine ⟨e, f, ⟨slots.same, slots.other⟩, State.bank_pulsed (s.stored x) b i, ?_,
    fun m n => State.man_pulsed_other (s.stored x) b i n, rfl, rfl, rfl, rfl⟩
  refine (congrArg Manifold.state (State.man_pulsed_same (s.stored x) b i)).trans ?_
  obtain ⟨k, -⟩ | ⟨k, -⟩ := w.held_discharging d held
  · exact Manifold.state_charged_of_selecting k _
  · exact (congrArg Manifold.state (Manifold.charged_of_charged k _)).trans k

section
variable {full : Prop} {s t : State} {b : BankId} {i : SlotId} {h : HallId} (p : State.Pulsed s b i h t)
include p

theorem State.Pulsed.hall (g : HallId) : t.hall g = s.hall g := State.hall_of_halls p.halls g

theorem State.Pulsed.manifoldOf (c : BankId) : t.manifoldOf c = s.manifoldOf c := by
  unfold State.manifoldOf State.bankPlan
  rw [p.work]

theorem State.Pulsed.bank_other {c : BankId} (n : ¬ b = c) : t.bank c = s.bank c := by rw [p.bank, if_neg n]

theorem State.Pulsed.spent : t.bank b = .spent := by rw [p.bank, if_pos rfl]

theorem State.Pulsed.firing_iff (g : HallId) (c : BankId) : t.bank c = .firing g ↔ s.bank c = .firing g ∧ ¬ b = c := by
  rw [p.bank]
  split
  · rename_i n
    simp [n]
  · rename_i n
    simp [n]

theorem State.Pulsed.inPulsing (c : BankId) (k : t.inPulsing c) : c = b ∨ s.inPulsing c := by
  obtain ⟨ms, e⟩ | k := (p.slots.inPulsing c).1 k
  · cases e
    exact Or.inl rfl
  · exact Or.inr ((s.inPulsing_iff i c).2 (Or.inr k))

theorem State.Pulsed.inMarking (w : s.Sound full) (c : BankId) : t.inMarking c ↔ s.inMarking c ∧ ¬ c = b := by
  have alone := (w.alone (i := i) (b := b) (by rw [p.marked]; rfl)).2
  rw [p.slots.inMarking, s.inMarking_iff i, p.marked]
  constructor
  · rintro (k | k)
    · cases k
    · refine ⟨Or.inr k, ?_⟩
      rintro rfl
      rw [k] at alone
      exact alone rfl
  · rintro ⟨k | k, n⟩
    · cases k
      exact absurd rfl n
    · exact Or.inr k

theorem State.Pulsed.advances (w : s.Sound full) : State.Advances h s t := by
  refine ⟨p.manifoldOf, fun g _ => p.hall g, fun c => ?_, fun m => ?_, p.waits, fun c k => ?_,
    by rw [State.inc_of_hall (p.hall h)]⟩
  · by_cases n : b = c
    · subst n
      exact Or.inr ⟨Or.inr p.fires, Or.inr p.spent⟩
    · exact Or.inl (p.bank_other n)
  · by_cases n : s.manifoldOf b = m
    · subst n
      refine Or.inr ⟨Or.inr ((w.halls h).firing b p.fires).2.2, Or.inr ?_⟩
      rw [p.own]
      rfl
    · rw [p.other m n]
      exact Or.inl rfl
  · obtain rfl | k := p.inPulsing c k
    · exact Or.inr p.fires
    · exact Or.inl k

/-- The hall of the pulsing bank keeps its law. -/
theorem State.Pulsed.hallLaw (w : s.Sound full) : t.HallLaw h := by
  have own := w.halls h
  obtain ⟨d, lb, held⟩ := own.firing b p.fires
  have inc := State.inc_of_hall (p.hall h)
  have st := State.hallState_of_hall (p.hall h)
  have holder : ∀ m, t.holder m = some h ↔ s.holder m = some h := by
    intro m
    by_cases n : s.manifoldOf b = m
    · subst n
      rw [held, State.holder, p.own]
      exact Iff.rfl
    · unfold State.holder
      rw [p.other m n]
  have charged : ∀ m, (∃ c, c ∈ (s.inc h).allocBanks ∧ s.bank c = .spent ∧ s.manifoldOf c = m) →
      ∃ c, c ∈ (s.inc h).allocBanks ∧ t.bank c = .spent ∧ s.manifoldOf c = m := by
    rintro m ⟨c, l, e, k⟩
    refine ⟨c, l, ?_, k⟩
    rw [p.bank]
    split
    · rfl
    · exact e
  refine ⟨by rw [p.waits, st]; exact own.waits, fun c e => ?_, fun c e => ?_, fun m e => ?_,
    ⟨fun k => ?_, fun _ c l => ?_, fun k => ?_⟩,
    fun r => ?_, by rw [inc]; exact own.once⟩
  · rw [p.bank] at e
    split at e
    · simp at e
    · obtain ⟨k, -⟩ := own.reserved c e
      simp [d] at k
  · rw [p.firing_iff] at e
    rw [st, inc, p.manifoldOf, holder]
    exact own.firing c e.1
  · have e' := (holder m).1 e
    unfold State.heldLaw
    by_cases n : s.manifoldOf b = m
    · subst n
      rw [p.own]
      dsimp only
      simp only [st, inc, p.manifoldOf]
      exact ⟨d, b, lb, p.spent, rfl⟩
    · rw [p.other m n]
      obtain ⟨k, c, f, q⟩ | ⟨k, c⟩ := w.held_discharging d e' <;> rw [k] <;> dsimp only <;>
        simp only [st, inc, p.manifoldOf]
      · exact Or.inr ⟨d, c, (p.firing_iff h c).2 ⟨f, fun x => n (x ▸ q)⟩, q⟩
      · exact ⟨d, charged m c⟩
  · rw [st, d] at k
    simp at k
  · rw [p.firing_iff, p.manifoldOf, holder]
    rw [inc] at l
    by_cases n : b = c
    · subst n
      exact Or.inr ⟨p.spent, held⟩
    · rw [p.bank_other n]
      exact (own.list.2.1 d c l).imp (fun k => ⟨k, n⟩) id
  · rw [st, d] at k
    simp at k
  · rw [p.hall h] at r
    exact absurd p.fires (w.not_firing_of_timer r b)

theorem State.Pulsed.queueLaw (w : s.Sound full) : t.queueLaw := by
  obtain ⟨once, firing⟩ := w.queue
  refine ⟨?_, fun c => ?_⟩
  · have same := p.slots.slotBanks
    have old := s.slotBanks_perm i
    rw [p.marked] at old
    rw [p.queue]
    exact ((same.trans old.symm).append_left s.queue).nodup_iff.2 once
  · have alone := w.alone (i := i) (b := b) (by rw [p.marked]; rfl)
    simp only [p.firing_iff, exists_and_right, p.inMarking w, p.queue]
    rw [firing c]
    constructor
    · rintro ⟨k | k, n⟩
      · exact Or.inl k
      · exact Or.inr ⟨k, fun x => n x.symm⟩
    · rintro (k | ⟨k, n⟩)
      · exact ⟨Or.inl k, fun x => alone.1 (x ▸ k)⟩
      · exact ⟨Or.inr k, fun x => n x.symm⟩

theorem State.Pulsed.pulsedLaw (w : s.Sound full) (c : BankId) : t.pulsedLaw c := by
  obtain ⟨d, lb, held⟩ := (w.halls h).firing b p.fires
  intro k
  rw [p.manifoldOf]
  by_cases n : c = b
  · subst n
    refine ⟨p.spent, h, p.own, ?_⟩
    rw [State.inc_of_hall (p.hall h), State.hallState_of_hall (p.hall h)]
    exact ⟨lb, d⟩
  · obtain ⟨e, g, m, l, dg⟩ := w.pulsed c ((p.inPulsing c k).resolve_left n)
    refine ⟨(p.bank_other (fun x => n x.symm)).trans e, g, ?_, ?_⟩
    · by_cases q : s.manifoldOf b = s.manifoldOf c
      · rw [q] at held
        have gh : h = g := by
          rw [State.holder, m] at held
          exact (Option.some.inj held).symm
        rw [← q, ← gh]
        exact p.own
      · rw [p.other _ q]
        exact m
    · rw [State.inc_of_hall (p.hall g), State.hallState_of_hall (p.hall g)]
      exact ⟨l, dg⟩

end

theorem State.storeLaw_of_fields {s t : State} (w : s.storeLaw) (wk : t.work = s.work) (nv : t.nvPlan = s.nvPlan)
    (wr : t.write = s.write) (mq : t.markQueue = s.markQueue) : t.storeLaw := by
  unfold State.storeLaw
  rw [wk, nv, wr, mq]
  exact w

/-- SPENT_MARK_COMPLETION keeps the laws (R118, R179). -/
theorem State.Sound.takeMarkCompletion {full : Prop} {s : State} (w : s.Sound full) :
    s.takeMarkCompletion.Sound full := by
  unfold State.takeMarkCompletion
  split
  case h_2 => exact w
  case h_1 b e =>
    rw [State.completeWrite_eq e]
    have store := State.storeLaw_stored w.store e
    have preferences := State.preferences_stored w e
    obtain ⟨n, r⟩ | ⟨i, k, -, r⟩ := State.pulseBegins_cases (s.stored (.setMark b)) b <;> rw [r]
    · refine (State.sameHalls_stored s _).sound w w.queue preferences store fun f => ?_
      exact absurd (((w.marked f).marks.1 b).2 (Or.inl e)) n
    · obtain ⟨h, f⟩ := (w.queue.2 b).2 (Or.inr ⟨i, k⟩)
      have p := w.pulsed_of k f (.setMark b)
      refine (p.advances w).sound w (p.hallLaw w) (p.queueLaw w) (p.pulsedLaw w) preferences store fun full => ?_
      obtain ⟨initiators, pulse, ⟨under, once, apart⟩, spent⟩ := w.marked full
      obtain ⟨once', apart'⟩ := State.marksOnce_stored (.setMark b) once
      have nv : ((s.stored (.setMark b)).pulsed b i).nvSpent = s.nvSpent.set b true := rfl
      have ini : ((s.stored (.setMark b)).pulsed b i).initiators = s.initiators.set b true := rfl
      refine ⟨fun c j => ?_, fun c q => ?_, ⟨fun c => ?_, once', apart'⟩, fun c => ?_⟩
      · by_cases n : b = c
        · subst n
          exact ⟨i, _, p.slots.same⟩
        · rw [ini, PerBank.get_set_other _ _ n] at j
          refine (p.slots.inPulsing c).2 (((s.inPulsing_iff i c).1 (initiators c j)).imp ?_ id)
          rintro ⟨ms, x⟩
          rw [p.marked] at x
          cases x
      · rw [nv, ini]
        obtain rfl | q := p.inPulsing c q
        · simp
        · rw [PerBank.get_set, PerBank.get_set]
          split
          · exact ⟨rfl, rfl⟩
          · exact pulse c q
      · rw [p.inMarking w]
        refine Iff.trans ?_ (State.marks_stored s (.setMark b) c).symm
        rw [under]
        constructor
        · rintro ⟨x | x, n⟩
          · rw [e] at x
            cases x
            exact absurd rfl n
          · exact x
        · intro x
          refine ⟨Or.inr x, ?_⟩
          rintro rfl
          exact apart c e x
      · have clearing : ¬ ((s.stored (.setMark b)).pulsed b i).write = some (.clearMark c) :=
          State.clearing_stored s (.setMark b) c
        rw [p.bank, nv, PerBank.get_set]
        split
        · exact ⟨fun _ => ⟨rfl, clearing⟩, fun _ => rfl⟩
        · rw [spent c, e]
          simp [clearing]

/-! ## The end of a pulse (R119, R123) -/

/-- The state with the pulse of a slot ended, the slot not yet offered. -/
def State.unpulsed (s : State) (b : BankId) (i : SlotId) : State :=
  { s with
    initiators := s.initiators.set b false
    bankCircuits := s.bankCircuits.set b { s.bankCircuits.get b with driven := false }
    slots := s.slots.set i .empty }

theorem State.Sound.unpulsed {full : Prop} {s : State} (w : s.Sound full) {b : BankId} {i : SlotId} {ms : Nat}
    (e : s.slots.get i = .pulsing b ms) : (s.unpulsed b i).Sound full := by
  have sl : State.SlotSet i .empty s (s.unpulsed b i) := State.slotSet_of_set rfl
  have alone := w.alone (i := i) (b := b) (by rw [e]; rfl)
  have pulsing : ∀ c, (s.unpulsed b i).inPulsing c ↔ s.inPulsing c ∧ ¬ b = c := by
    intro c
    rw [sl.inPulsing, s.inPulsing_iff i, e]
    constructor
    · rintro (⟨ms, k⟩ | ⟨ms, k⟩)
      · cases k
      · refine ⟨Or.inr ⟨ms, k⟩, ?_⟩
        rintro rfl
        rw [k] at alone
        exact alone.2 rfl
    · rintro ⟨⟨ms, k⟩ | k, n⟩
      · cases k
        exact absurd rfl n
      · exact Or.inr k
  have marking : ∀ c, (s.unpulsed b i).inMarking c ↔ s.inMarking c := by
    intro c
    rw [sl.inMarking, s.inMarking_iff i, e]
    simp
  have same : State.SameHalls s (s.unpulsed b i) :=
    ⟨fun _ => rfl, fun _ => rfl, fun _ => rfl, fun _ => rfl, fun _ => rfl, fun _ => rfl, fun _ => Or.inl, rfl,
      fun c k => ((pulsing c).1 k).1⟩
  refine same.sound w ⟨?_, fun c => ?_⟩ w.preferences w.store fun k => ?_
  · have once := w.nodup_slots i
    rw [e] at once
    refine (sl.slotBanks.append_left s.queue).nodup_iff.2 (once.sublist ?_)
    exact (List.sublist_append_right _ _).append_left s.queue
  · rw [marking]
    exact w.queue.2 c
  · obtain ⟨initiators, pulse, ⟨under, rest⟩, spent⟩ := w.marked k
    have ini : (s.unpulsed b i).initiators = s.initiators.set b false := rfl
    refine ⟨fun c j => ?_, fun c p => ?_, ⟨fun c => (marking c).trans (under c), rest⟩, spent⟩
    · rw [ini, PerBank.get_set] at j
      split at j
      · cases j
      · rename_i n
        exact (pulsing c).2 ⟨initiators c j, n⟩
    · obtain ⟨p, n⟩ := (pulsing c).1 p
      rw [ini, PerBank.get_set_other _ _ n]
      exact pulse c p

theorem State.lastPulseEnded_iff (s : State) (h : HallId) :
    s.lastPulseEnded h = true ↔ ∀ b, b ∈ (s.inc h).allocBanks → ¬ s.bank b = .firing h ∧ ¬ s.inPulsing b := by
  have pulses : ∀ x : Slot, x.pulses (s.inc h).allocBanks = false ↔
      ∀ b, b ∈ (s.inc h).allocBanks → ¬ ∃ ms, x = .pulsing b ms := by
    intro x
    cases x with
    | empty => simp [Slot.pulses]
    | marking c => simp [Slot.pulses]
    | pulsing c n =>
      simp only [Slot.pulses, List.contains_eq_mem, decide_eq_false_iff_not, Slot.pulsing.injEq]
      exact ⟨fun k b l ⟨ms, e, _⟩ => k (e ▸ l), fun k l => k c l ⟨n, rfl, rfl⟩⟩
  unfold State.lastPulseEnded
  simp only [Bool.and_eq_true, Bool.not_eq_true', pulses, List.all_eq_true, beq_eq_false_iff_ne, ne_eq,
    s.inPulsing_iff .s1]
  constructor
  · rintro ⟨⟨f, a⟩, b⟩ c l
    exact ⟨f c l, fun k => k.elim (a c l) (b c l)⟩
  · intro k
    exact ⟨⟨fun c l => (k c l).1, fun c l x => (k c l).2 (Or.inl x)⟩, fun c l x => (k c l).2 (Or.inr x)⟩

/-- The start of a discharge timer keeps the laws (R123). -/
theorem State.Sound.startDischarge {full : Prop} {s : State} (w : s.Sound full) (b : BankId) :
    (s.startDischarge b).Sound full := by
  unfold State.startDischarge
  split
  · exact w
  · rename_i h _
    split
    · rename_i c
      obtain ⟨d, -, last⟩ := c
      have all := (s.lastPulseEnded_iff h).1 last
      refine w.modHall_timer h _ rfl rfl rfl fun _ => Or.inr ⟨d, fun b l => ⟨?_, (all b l).2⟩⟩
      exact (((w.halls h).list.2.1 d b l).resolve_left (all b l).1).1
    · exact w

theorem State.takePulseEnd_eq {s : State} {i : SlotId} {b : BankId} {ms : Nat} (e : s.slots.get i = .pulsing b ms) :
    s.takePulseEnd i = ((s.unpulsed b i).startDischarge b).fillSlots := by
  unfold State.takePulseEnd
  rw [e]
  rfl

/-- PULSE_END keeps the laws (R119, R123). -/
theorem State.Sound.takePulseEnd {full : Prop} {s : State} (w : s.Sound full) (i : SlotId) :
    (s.takePulseEnd i).Sound full := by
  cases e : s.slots.get i with
  | pulsing b ms =>
    rw [State.takePulseEnd_eq e]
    exact ((w.unpulsed e).startDischarge b).fillSlots
  | marking b =>
    unfold State.takePulseEnd
    rw [e]
    exact w
  | empty =>
    unfold State.takePulseEnd
    rw [e]
    exact w

/-! ## The discharge period ends (R124) -/

/-- A held manifold at the end of the discharge period. -/
def Manifold.vented (x : Manifold) (h : HallId) (time : Nat) : Manifold :=
  { x with state := .venting h, timer := .vent (Timer.startSeconds time) }

theorem State.ventManifold_eq (s : State) (h : HallId) (m : ManId) :
    s.ventManifold h m =
      if s.holder m = some h then
        (s.modMan m fun x => x.vented h (s.manPlan m).ventTime).modFlags h fun f =>
          { f with noFlow := f.noFlow || !(s.man m).flowConfirmed }
      else s := by
  unfold State.ventManifold
  split
  · dsimp only
    cases (s.man m).flowConfirmed
    · rw [if_neg Bool.false_ne_true]
      simp only [Bool.not_false, Bool.or_true]
      rfl
    · rw [if_pos rfl]
      symm
      refine State.modInc_id ?_
      simp only [Bool.not_true, Bool.or_false]
  · rfl

@[simp] theorem State.still_ventManifold (s : State) (h : HallId) (m : ManId) : (s.ventManifold h m).still = s.still := by
  rw [State.ventManifold_eq]
  split <;> rfl

@[simp] theorem State.banks_ventManifold (s : State) (h : HallId) (m : ManId) : (s.ventManifold h m).banks = s.banks := by
  rw [State.ventManifold_eq]
  split <;> rfl

@[simp] theorem State.waitList_ventManifold (s : State) (h : HallId) (m : ManId) :
    (s.ventManifold h m).waitList = s.waitList := by
  rw [State.ventManifold_eq]
  split <;> rfl

theorem State.man_ventManifold (s : State) (h : HallId) (m n : ManId) :
    (s.ventManifold h m).man n =
      if m = n ∧ s.holder n = some h then (s.man n).vented h (s.manPlan n).ventTime else s.man n := by
  have vented := State.man_modMan s m n fun x => x.vented h (s.manPlan m).ventTime
  rw [State.ventManifold_eq]
  by_cases e : m = n
  · subst e
    rw [if_pos rfl] at vented
    by_cases k : s.holder m = some h
    · rw [if_pos k, if_pos ⟨rfl, k⟩]
      exact vented
    · rw [if_neg k, if_neg fun x => k x.2]
  · rw [if_neg e] at vented
    rw [if_neg (fun x => e x.1 : ¬ (m = n ∧ s.holder n = some h))]
    split
    · exact vented
    · rfl

theorem State.hall_ventManifold (s : State) (h : HallId) (m : ManId) :
    (s.ventManifold h m).hall h =
      { s.hall h with
        inc :=
          { s.inc h with
            flags :=
              { (s.inc h).flags with
                noFlow := (s.inc h).flags.noFlow || decide (s.holder m = some h ∧ (s.man m).flowConfirmed = false) } } } := by
  rw [State.ventManifold_eq]
  by_cases k : s.holder m = some h
  · rw [if_pos k]
    refine (State.hall_modHall_same _ h _).trans ?_
    cases c : (s.man m).flowConfirmed <;> simp [k, State.inc, State.hall, State.modMan]
  · rw [if_neg k]
    simp [k, State.inc, State.hall]

theorem State.hall_ventManifold_other (s : State) {h g : HallId} (m : ManId) (n : ¬ h = g) :
    (s.ventManifold h m).hall g = s.hall g := by
  rw [State.ventManifold_eq]
  split
  · exact State.hall_modHall_other _ _ n
  · rfl

/-- A hall at the end of its discharge period. -/
def Hall.soaks (x : Hall) : Hall := { x with inc := { x.inc with state := .soak }, discharge := none }

/-- The discharge period of a hall over: SOAK, and its manifolds vented. -/
def State.soaked (s : State) (h : HallId) : State := ((s.modHall h Hall.soaks).ventManifold h .m1).ventManifold h .m2

theorem State.takeDischargeExpiry_eq (s : State) (h : HallId) :
    s.takeDischargeExpiry h =
      if s.hallState h = .discharging ∧ (s.hall h).discharge.isSome = true then s.soaked h else s := rfl

@[simp] theorem State.still_soaked (s : State) (h : HallId) : (s.soaked h).still = s.still := by
  rw [State.soaked, State.still_ventManifold, State.still_ventManifold]
  rfl

@[simp] theorem State.banks_soaked (s : State) (h : HallId) : (s.soaked h).banks = s.banks := by
  rw [State.soaked, State.banks_ventManifold, State.banks_ventManifold]
  rfl

@[simp] theorem State.waitList_soaked (s : State) (h : HallId) : (s.soaked h).waitList = s.waitList := by
  rw [State.soaked, State.waitList_ventManifold, State.waitList_ventManifold]
  rfl

theorem State.man_soaked (s : State) (h : HallId) (m : ManId) :
    (s.soaked h).man m =
      if s.holder m = some h then (s.man m).vented h (s.manPlan m).ventTime else s.man m := by
  have first := State.man_ventManifold (s.modHall h Hall.soaks) h .m1
  have second := State.man_ventManifold ((s.modHall h Hall.soaks).ventManifold h .m1) h .m2 m
  have plan : ((s.modHall h Hall.soaks).ventManifold h .m1).manPlan m = s.manPlan m := by
    unfold State.manPlan
    rw [State.work_of_still (State.still_ventManifold _ h .m1)]
    rfl
  rw [State.soaked, second, plan]
  cases m with
  | m1 =>
    rw [if_neg (by simp), first]
    exact if_congr (by simp [State.holder, State.man]) rfl rfl
  | m2 =>
    have same : ((s.modHall h Hall.soaks).ventManifold h .m1).man .m2 = s.man .m2 := (first .m2).trans (if_neg (by simp))
    rw [same]
    exact if_congr (by simp [State.holder, same]) rfl rfl

theorem State.hall_soaked_other (s : State) {h g : HallId} (n : ¬ h = g) : (s.soaked h).hall g = s.hall g := by
  rw [State.soaked, State.hall_ventManifold_other _ _ n, State.hall_ventManifold_other _ _ n,
    State.hall_modHall_other _ _ n]

/-- The record of the hall in SOAK: NO_FLOW where a manifold it held has no confirmed flow (R124). -/
theorem State.hall_soaked (s : State) (h : HallId) :
    ∃ missed : Bool,
      (s.soaked h).hall h =
        { s.hall h with
          inc := { s.inc h with state := .soak, flags := { (s.inc h).flags with noFlow := missed } }
          discharge := none } ∧
      (missed = true ↔
        (s.inc h).flags.noFlow = true ∨ ∃ m, s.holder m = some h ∧ (s.man m).flowConfirmed = false) := by
  have kept : ((s.modHall h Hall.soaks).ventManifold h .m1).man .m2 = s.man .m2 :=
    (State.man_ventManifold (s.modHall h Hall.soaks) h .m1 .m2).trans (if_neg (by simp))
  have holder2 : ((s.modHall h Hall.soaks).ventManifold h .m1).holder .m2 = s.holder .m2 :=
    congrArg (fun x => x.state.holder) kept
  have base : (s.modHall h Hall.soaks).hall h = (s.hall h).soaks := State.hall_modHall_same s h _
  have first := State.hall_ventManifold (s.modHall h Hall.soaks) h .m1
  have second := State.hall_ventManifold ((s.modHall h Hall.soaks).ventManifold h .m1) h .m2
  rw [show ((s.modHall h Hall.soaks).ventManifold h .m1).inc h = _ from congrArg Hall.inc first, first, kept, holder2,
    show (s.modHall h Hall.soaks).inc h = _ from congrArg Hall.inc base, base] at second
  refine ⟨_, second, ?_⟩
  have each : (∃ m, s.holder m = some h ∧ (s.man m).flowConfirmed = false) ↔
      (s.holder .m1 = some h ∧ (s.man .m1).flowConfirmed = false) ∨
      (s.holder .m2 = some h ∧ (s.man .m2).flowConfirmed = false) :=
    ⟨fun ⟨m, k⟩ => by cases m <;> simp [k], fun k => k.elim (fun x => ⟨_, x⟩) fun x => ⟨_, x⟩⟩
  rw [each, Bool.or_eq_true, Bool.or_eq_true, decide_eq_true_eq, decide_eq_true_eq, or_assoc]
  exact Iff.rfl

end Sys2Proof.Machine
end

section
/-! The end of the discharge period and of the vent keep the laws (R124, R125). -/

namespace Sys2Proof.Machine

/-! ## The discharge period ends -/

theorem State.advances_soaked (s : State) (h : HallId) : State.Advances h s (s.soaked h) := by
  have still := State.still_soaked s h
  have slots := State.slots_of_still still
  obtain ⟨missed, hall, -⟩ := State.hall_soaked s h
  refine ⟨fun b => ?_, fun g n => State.hall_soaked_other s fun e => n e.symm, fun b => Or.inl ?_, fun m => ?_,
    State.waitList_soaked s h, fun b => Or.inl ∘ ?_, ?_⟩
  · unfold State.manifoldOf State.bankPlan
    rw [State.work_of_still still]
  · rw [State.bank, State.banks_soaked]
    rfl
  · rw [State.man_soaked]
    split
    · rename_i k
      exact Or.inr ⟨Or.inr k, Or.inr rfl⟩
    · exact Or.inl rfl
  · unfold State.inPulsing
    rw [slots]
    exact id
  · exact congrArg (fun x => x.inc.confNumber) hall

/-- The end of the discharge period keeps the laws (R124). -/
theorem State.Sound.soaked {full : Prop} {s : State} (w : s.Sound full) {h : HallId}
    (d : s.hallState h = .discharging) (r : (s.hall h).discharge.isSome = true) : (s.soaked h).Sound full := by
  have still := State.still_soaked s h
  have adv := State.advances_soaked s h
  obtain ⟨-, all⟩ := (w.halls h).timer r
  obtain ⟨missed, hall, -⟩ := State.hall_soaked s h
  have list : ((s.soaked h).inc h).allocBanks = (s.inc h).allocBanks :=
    (congrArg (fun x => x.inc.allocBanks) hall).trans rfl
  have st : (s.soaked h).hallState h = .soak := congrArg (fun x => x.inc.state) hall
  have bank : ∀ b, (s.soaked h).bank b = s.bank b := by
    intro b
    rw [State.bank, State.banks_soaked]
    rfl
  have noFiring := w.not_firing_of_timer r
  have own : (s.soaked h).HallLaw h := by
    refine ⟨?_, fun b e => ?_, fun b e => ?_, fun m e => ?_, ⟨fun k => ?_, fun k => ?_, fun k => ?_⟩, fun k => ?_,
      by rw [list]; exact (w.halls h).once⟩
    · rw [adv.waits, st]
      exact ⟨fun k => absurd k (w.out (by simp [d])), fun k => absurd k (by simp)⟩
    · obtain ⟨k, -⟩ := (w.halls h).reserved b ((bank b).symm.trans e)
      simp [d] at k
    · exact absurd ((bank b).symm.trans e) (noFiring b)
    · by_cases held : s.holder m = some h
      · unfold State.heldLaw
        rw [State.man_soaked, if_pos held]
        obtain ⟨-, b, f, -⟩ | ⟨-, b, l, sp, o⟩ := w.held_discharging d held
        · exact absurd f (noFiring b)
        · exact ⟨st, b, by rw [list]; exact l, (bank b).trans sp, (adv.manifoldOf b).trans o⟩
      · rw [State.holder, State.man_soaked, if_neg held] at e
        exact absurd e held
    · simp [st] at k
    · simp [st] at k
    · simp [st] at k
    · rw [hall] at k
      exact absurd k (by simp)
  refine adv.sound w own ?_ (fun b p => ?_) (fun g => ?_) ?_ fun k => ?_
  · unfold State.queueLaw State.slotBanks State.inMarking
    simp only [bank, State.queue_of_still still, State.slots_of_still still]
    exact w.queue
  · have p' : s.inPulsing b := by
      unfold State.inPulsing at p ⊢
      rwa [State.slots_of_still still] at p
    obtain ⟨e, g, m, l, dg⟩ := w.pulsed b p'
    have n : ¬ g = h := by
      rintro rfl
      exact (all b l).2 p'
    have kept : ¬ s.holder (s.manifoldOf b) = some h := by
      rw [State.holder, m]
      exact fun x => n (Option.some.inj x)
    refine ⟨(bank b).trans e, g, ?_, ?_⟩
    · rw [adv.manifoldOf, State.man_soaked, if_neg kept]
      exact m
    · rw [State.inc_of_hall (adv.others g n), State.hallState_of_hall (adv.others g n)]
      exact ⟨l, dg⟩
  · have o := State.outer_of_still still
    unfold State.preference State.hallPlan
    rw [State.work_of_outer o, State.nvPlan_of_outer o]
    exact w.preferences g
  · have o := State.outer_of_still still
    exact State.storeLaw_of_fields w.store (State.work_of_outer o) (State.nvPlan_of_outer o) (State.write_of_still still)
      (State.markQueue_of_still still)
  · have o := State.outer_of_still still
    exact (w.marked k).of_same (State.initiators_of_outer o) (State.nvSpent_of_outer o) (State.write_of_still still)
      (State.markQueue_of_still still) (State.slots_of_still still) fun b => by rw [bank]

theorem State.Sound.takeDischargeExpiry {full : Prop} {s : State} (w : s.Sound full) (h : HallId) :
    (s.takeDischargeExpiry h).Sound full := by
  rw [State.takeDischargeExpiry_eq]
  split
  · rename_i c
    exact w.soaked c.1 c.2
  · exact w

/-! ## The vent ends (R125) -/

theorem State.Moves.of_freeManifold {s : State} {h : HallId} {m : ManId} (e : s.holder m = some h) :
    State.Moves h s (s.freeManifold m) := by
  have hall : (s.freeManifold m).halls = s.halls := by
    rw [State.freeManifold_eq e]
    rfl
  refine ⟨State.frame_of_still (State.still_freeManifold s m), fun g _ => State.hall_of_halls hall g,
    Or.inl (by rw [State.hall_of_halls hall]), fun b => Or.inl (by simp only [State.bank, State.banks_freeManifold]),
    fun n => ?_, by rw [State.waitList_freeManifold]⟩
  rw [State.man_freeManifold]
  split
  · rename_i k
    subst k
    exact Or.inr ⟨Or.inr e, Or.inl rfl⟩
  · exact Or.inl rfl

/-- A manifold that its hall has vented becomes FREE (R125). -/
theorem State.Sound.freeVented {full : Prop} {s : State} (w : s.Sound full) {h : HallId} {m : ManId}
    (e : (s.man m).state = .venting h) : (s.freeManifold m).Sound full := by
  have holds : s.holder m = some h := by rw [State.holder, e]; rfl
  have soaks : s.hallState h = .soak := by
    have l := (w.halls h).held m holds
    unfold State.heldLaw at l
    rw [e] at l
    exact l.1
  have moves := State.Moves.of_freeManifold holds
  have a := moves.apart (w.apart (h := h) (by simp [soaks]))
  have halls : (s.freeManifold m).halls = s.halls := by
    rw [State.freeManifold_eq holds]
    rfl
  have inc := State.inc_of_hall (State.hall_of_halls halls h)
  have st := State.hallState_of_hall (State.hall_of_halls halls h)
  have bank : ∀ b, (s.freeManifold m).bank b = s.bank b := fun b => by simp only [State.bank, State.banks_freeManifold]
  have out : ¬ h ∈ (s.freeManifold m).waitList := by
    rw [State.waitList_freeManifold]
    exact w.out (by simp [soaks])
  refine a.sound_of_not_waiting ⟨⟨fun k => absurd k out, fun k => ?_⟩, fun b k => ?_, fun b k => absurd k (a.firing b),
    fun n k => ?_, ⟨fun k => ?_, fun k => ?_, fun k => ?_⟩, fun k => ?_, by rw [inc]; exact (w.halls h).once⟩ out
  · simp [st, soaks] at k
  · obtain ⟨x, -⟩ := (w.halls h).reserved b ((bank b).symm.trans k)
    simp [soaks] at x
  · by_cases q : m = n
    · rw [State.holder, State.man_freeManifold, if_pos q] at k
      exact absurd k (by simp [ManState.holder])
    · have same : (s.freeManifold m).man n = s.man n := by rw [State.man_freeManifold, if_neg q]
      rw [State.holder, same] at k
      have l := (w.halls h).held n k
      unfold State.heldLaw at l ⊢
      rw [same]
      unfold State.holder at *
      cases c : (s.man n).state <;> rw [c] at k l <;> simp only [ManState.holder, Option.some.injEq, reduceCtorEq] at k <;>
        subst k <;> simp only [st, inc, bank, moves.manifoldOf] <;> exact l
  · simp [st, soaks] at k
  · simp [st, soaks] at k
  · simp [st, soaks] at k
  · rw [a.timer] at k
    exact absurd k (by simp)

/-- A hall in SOAK with its last manifold freed is DISCHARGED (R125). -/
theorem State.Sound.dischargedIfDone {full : Prop} {s : State} (w : s.Sound full) (h : HallId) :
    (s.dischargedIfDone h).Sound full := by
  unfold State.dischargedIfDone
  split
  · rename_i c
    obtain ⟨st, none⟩ := c
    have clear : s.Clear h := by
      refine ⟨fun b e => ?_, fun m e => ?_⟩
      · obtain ⟨x, -⟩ := (w.halls h).reserved b e
        simp [st] at x
      · have all := List.any_eq_false.1 none m (manId_mem_all m)
        simp [e] at all
    have out := w.out (h := h) (by simp [st])
    have a := (State.Moves.of_modInc s h fun i => { i with state := .discharged }).apart (w.apart (h := h) (by simp [st]))
    have inc := State.inc_modInc_same s h fun i => { i with state := .discharged }
    refine a.sound_of_not_waiting (State.Clear.hallLaw a ⟨clear.banks, clear.mans⟩ (Or.inr ?_) ?_) out
    · unfold State.hallState
      rw [inc]
      exact ⟨Or.inr rfl, (w.halls h).once⟩
    · unfold State.hallState
      rw [inc]
      exact ⟨fun k => absurd k out, fun k => absurd k (by simp)⟩
  · exact w

theorem State.Sound.takeVentExpiry {full : Prop} {s : State} (w : s.Sound full) (m : ManId) :
    (s.takeVentExpiry m).Sound full := by
  unfold State.takeVentExpiry
  split
  · rename_i h x e _
    exact ((w.freeVented e).dischargedIfDone h).reexamine
  · exact w

end Sys2Proof.Machine
end

section
/-! Withdrawal and replacement (R82 to R85): what each step leaves of the banks, the list and the manifolds, and that the
laws are kept, hall by hall and event by event. -/

namespace Sys2Proof.Machine

/-! ## Steps 1 and 2 of R82: the unfit banks dropped, the replacement taken -/

theorem State.bank_dropUnfit (s : State) (h : HallId) (unfit : List BankId) (b : BankId) :
    (s.dropUnfit h unfit).bank b = if b ∈ unfit ∧ s.bank b = .reserved h then .ready else s.bank b := by
  have e : (s.dropUnfit h unfit).bank b = (s.bank b).giveBack h (unfit.contains b) := PerBank.get_mapId _ _ _
  rw [e]
  simp only [BankState.giveBack, List.contains_iff_mem]

theorem State.hall_dropUnfit (s : State) (h : HallId) (unfit : List BankId) :
    (s.dropUnfit h unfit).hall h =
      { s.hall h with
        inc := { s.inc h with alloc := (s.inc h).alloc.filter fun e => !unfit.contains e.bank } } :=
  PerHall.get_set_same s.halls h _

theorem State.allocBanks_dropUnfit (s : State) (h : HallId) (unfit : List BankId) :
    ((s.dropUnfit h unfit).inc h).allocBanks = (s.inc h).allocBanks.filter fun b => !unfit.contains b := by
  have e : ((s.dropUnfit h unfit).inc h).alloc = (s.inc h).alloc.filter fun e => !unfit.contains e.bank :=
    congrArg (fun x => x.inc.alloc) (State.hall_dropUnfit s h unfit)
  unfold Incident.allocBanks
  rw [e, List.filter_map]
  rfl

theorem State.bank_replace (s : State) (h : HallId) (unfit : List BankId) (b : BankId) :
    (s.replace h unfit).bank b = if b ∈ s.replacementTakes h unfit then .reserved h else s.bank b :=
  State.bank_reserveAll s h _ b

theorem State.man_replace (s : State) (h : HallId) (unfit : List BankId) (m : ManId) :
    (s.replace h unfit).man m = (s.man m).claim h ((s.replacementTakes h unfit).any fun b => s.manifoldOf b == m) :=
  State.man_reserveAll s h _ m

theorem State.hall_replace (s : State) (h : HallId) (unfit : List BankId) :
    (s.replace h unfit).hall h =
      { s.hall h with
        inc := { s.inc h with alloc := (s.inc h).alloc ++ s.entriesFor (s.replacementTakes h unfit) } } :=
  PerHall.get_set_same s.halls h _

theorem State.allocBanks_replace (s : State) (h : HallId) (unfit : List BankId) :
    ((s.replace h unfit).inc h).allocBanks = (s.inc h).allocBanks ++ s.replacementTakes h unfit := by
  have e : ((s.replace h unfit).inc h).alloc = (s.inc h).alloc ++ s.entriesFor (s.replacementTakes h unfit) :=
    congrArg (fun x => x.inc.alloc) (State.hall_replace s h unfit)
  unfold Incident.allocBanks
  rw [e, List.map_append, State.entriesFor_banks]

theorem State.hallState_replaced (s : State) (h : HallId) (unfit : List BankId) :
    ((s.dropUnfit h unfit).replace h unfit).hallState h = s.hallState h := by
  refine (congrArg (fun x => x.inc.state) (State.hall_replace _ h unfit)).trans ?_
  exact congrArg (fun x => x.inc.state) (State.hall_dropUnfit s h unfit)

/-- A bank that a replacement takes is eligible, and in SELECTING it lies on a manifold that the hall holds (R83). -/
theorem State.mem_replacementTakes {s : State} {h : HallId} {unfit : List BankId} {b : BankId}
    (k : b ∈ s.replacementTakes h unfit) :
    s.eligible h b = true ∧ ¬ b ∈ unfit ∧ ¬ b ∈ s.protectedFrom h ∧
      (s.hallState h = .selecting → s.holder (s.manifoldOf b) = some h) := by
  have may := walk_may _ _ _ _ _ k
  simp only [Bool.and_eq_true, Bool.not_eq_true', List.contains_eq_mem, decide_eq_false_iff_not, Bool.or_eq_true,
    beq_eq_false_iff_ne, beq_iff_eq, ne_eq] at may
  obtain ⟨⟨⟨e, p⟩, u⟩, held⟩ := may
  exact ⟨e, u, p, fun st => held.resolve_left fun n => n st⟩

theorem State.nodup_replacementTakes {s : State} {h : HallId} (once : (s.preference h).Nodup) (unfit : List BankId) :
    (s.replacementTakes h unfit).Nodup := (walk_sublist _ _ _ _ _).nodup once

/-! ## The list and the manifolds before they are settled -/

/-- The hall's list is exactly the banks RESERVED to it, on manifolds that it holds in the state `x`; it may hold others,
in that state, with no bank left on them. -/
structure State.Loose (h : HallId) (x : ManState) (s : State) : Prop where
  banks : ∀ b, s.bank b = .reserved h ↔ b ∈ (s.inc h).allocBanks
  lies : ∀ b, b ∈ (s.inc h).allocBanks → (s.man (s.manifoldOf b)).state = x
  grips : ∀ m, s.holder m = some h → (s.man m).state = x
  once : (s.inc h).allocBanks.Nodup

theorem State.Allotted.loose {s : State} {h : HallId} {x : ManState} (l : s.Allotted h x) : s.Loose h x :=
  ⟨l.banks, l.lies, fun m e => (l.carries m e).1, l.once⟩

theorem State.Loose.returnable {s : State} {h : HallId} {x : HallState} (l : s.Loose h (x.grip h)) :
    s.Returnable h := by
  refine ⟨fun b => (l.banks b).1, fun m e => ?_⟩
  rw [l.grips m e]
  unfold HallState.grip
  split
  · exact Or.inr rfl
  · exact Or.inl rfl

theorem State.Loose.dropUnfit {s : State} {h : HallId} {x : ManState} (l : s.Loose h x) (unfit : List BankId) :
    (s.dropUnfit h unfit).Loose h x := by
  have list := State.allocBanks_dropUnfit s h unfit
  refine ⟨fun b => ?_, fun b k => ?_, l.grips, by rw [list]; exact l.once.filter _⟩
  · rw [list, State.bank_dropUnfit, List.mem_filter, ← l.banks]
    by_cases u : b ∈ unfit <;> by_cases r : s.bank b = .reserved h <;> simp [u, r]
  · rw [list] at k
    exact l.lies b (List.mem_filter.1 k).1

/-- The claim of a taken bank's FREE manifold. -/
theorem Manifold.state_claim (x : Manifold) (h : HallId) (taken : Bool) :
    (x.claim h taken).state = if taken = true ∧ x.state = .free then .claimed h else x.state := by
  unfold Manifold.claim
  split <;> rfl

theorem State.Loose.replace {s : State} {h : HallId} (l : s.Loose h ((s.hallState h).grip h))
    (pref : (s.preference h).Nodup) (unfit : List BankId) :
    (s.replace h unfit).Loose h ((s.hallState h).grip h) := by
  have list := State.allocBanks_replace s h unfit
  have ready : ∀ b, b ∈ s.replacementTakes h unfit → s.bank b = .ready := fun b k =>
    ((s.eligible_iff h b).1 (State.mem_replacementTakes k).1).1
  have held : ∀ m, s.holder m = some h → ((s.replace h unfit).man m).state = (s.hallState h).grip h := by
    intro m e
    have g := l.grips m e
    rw [State.man_replace, Manifold.state_claim, if_neg, g]
    rintro ⟨-, free⟩
    rw [State.holder, free] at e
    exact absurd e (by simp [ManState.holder])
  have claims : ∀ m, ¬ s.holder m = some h → (s.replace h unfit).holder m = some h →
      (s.man m).state = .free ∧ ∃ b, b ∈ s.replacementTakes h unfit ∧ s.manifoldOf b = m := by
    intro m n e
    rw [State.holder, State.man_replace, Manifold.state_claim] at e
    split at e
    · rename_i c
      obtain ⟨t, free⟩ := c
      rw [List.any_eq_true] at t
      obtain ⟨b, k, o⟩ := t
      exact ⟨free, b, k, beq_iff_eq.1 o⟩
    · exact absurd e n
  have taken : ∀ b, b ∈ s.replacementTakes h unfit →
      ((s.replace h unfit).man (s.manifoldOf b)).state = (s.hallState h).grip h := by
    intro b k
    obtain ⟨el, -, -, inSel⟩ := State.mem_replacementTakes k
    obtain ⟨-, -, -, -, -, -, -, free | own⟩ := (s.eligible_iff h b).1 el
    · have notSel : ¬ s.hallState h = .selecting := by
        intro st
        have o := inSel st
        rw [State.holder, free] at o
        exact absurd o (by simp [ManState.holder])
      have any : ((s.replacementTakes h unfit).any fun c => s.manifoldOf c == s.manifoldOf b) = true :=
        List.any_eq_true.2 ⟨b, k, beq_self_eq_true _⟩
      rw [State.man_replace, Manifold.state_claim, if_pos ⟨any, free⟩, HallState.grip, if_neg notSel]
    · exact held _ own
  refine ⟨fun b => ?_, fun b k => ?_, fun m e => ?_, ?_⟩
  · rw [list, State.bank_replace, List.mem_append, ← l.banks]
    split
    · rename_i k
      exact ⟨fun _ => Or.inr k, fun _ => rfl⟩
    · rename_i k
      exact ⟨Or.inl, fun o => o.resolve_right k⟩
  · rw [list, List.mem_append] at k
    obtain k | k := k
    · refine held (s.manifoldOf b) ?_
      rw [State.holder, l.lies b k, HallState.holder_grip]
    · exact taken b k
  · by_cases n : s.holder m = some h
    · exact held m n
    · obtain ⟨-, b, k, rfl⟩ := claims m n e
      exact taken b k
  · rw [list, List.nodup_append]
    refine ⟨l.once, State.nodup_replacementTakes pref unfit, ?_⟩
    rintro b hb c hc rfl
    have r := (l.banks b).2 hb
    rw [ready b hc] at r
    cases r

theorem State.Moves.of_dropUnfit (s : State) (h : HallId) (unfit : List BankId) :
    State.Moves h s (s.dropUnfit h unfit) := by
  refine ⟨rfl, fun g n => State.hall_dropUnfit_other s unfit fun e => n e.symm,
    Or.inl (congrArg (fun x : Hall => x.discharge) (State.hall_dropUnfit s h unfit) :), fun b => ?_, fun _ => Or.inl rfl, rfl⟩
  rw [State.bank_dropUnfit]
  split
  · rename_i k
    exact Or.inr ⟨Or.inr k.2, Or.inl rfl⟩
  · exact Or.inl rfl

theorem State.Moves.of_replace (s : State) (h : HallId) (unfit : List BankId) :
    State.Moves h s (s.replace h unfit) := by
  refine ⟨rfl, fun g n => State.hall_replace_other s unfit fun e => n e.symm,
    Or.inl (congrArg (fun x : Hall => x.discharge) (State.hall_replace s h unfit) :), fun b => ?_, fun m => ?_, rfl⟩
  · rw [State.bank_replace]
    split
    · rename_i k
      exact Or.inr ⟨Or.inl ((s.eligible_iff h b).1 (State.mem_replacementTakes k).1).1, Or.inr rfl⟩
    · exact Or.inl rfl
  · rw [State.man_replace, Manifold.state_claim]
    split
    · rename_i k
      rw [k.2]
      exact Or.inr ⟨Or.inl rfl, Or.inr rfl⟩
    · exact Or.inl rfl

/-! ## Step 3: manifolds left empty are released (R16) -/

theorem State.reservedOn_iff (s : State) (h : HallId) (m : ManId) :
    s.reservedOn h m = true ↔ ∃ b, s.bank b = .reserved h ∧ s.manifoldOf b = m := by
  unfold State.reservedOn
  rw [List.any_eq_true]
  constructor
  · rintro ⟨b, -, k⟩
    simp only [Bool.and_eq_true, beq_iff_eq] at k
    exact ⟨b, k⟩
  · rintro ⟨b, e, o⟩
    exact ⟨b, bankId_mem_all b, by simp [e, o]⟩

@[simp] theorem State.banks_releaseIfEmpty (s : State) (h : HallId) (m : ManId) :
    (s.releaseIfEmpty h m).banks = s.banks := by
  unfold State.releaseIfEmpty
  split <;> simp

@[simp] theorem State.waitList_releaseIfEmpty (s : State) (h : HallId) (m : ManId) :
    (s.releaseIfEmpty h m).waitList = s.waitList := by
  unfold State.releaseIfEmpty
  split <;> simp

@[simp] theorem State.measuring_releaseIfEmpty (s : State) (h : HallId) (m : ManId) :
    (s.releaseIfEmpty h m).measuring = s.measuring := by
  unfold State.releaseIfEmpty
  split <;> simp

@[simp] theorem State.reservedOn_releaseIfEmpty (s : State) (h : HallId) (m n : ManId) :
    (s.releaseIfEmpty h m).reservedOn h n = s.reservedOn h n := by
  unfold State.reservedOn State.bank State.manifoldOf State.bankPlan
  rw [State.banks_releaseIfEmpty, State.work_of_still (State.still_releaseIfEmpty s h m)]

/-- Both manifolds settled: each that the hall holds CLAIMED or SELECTING with no RESERVED bank on it is FREE. -/
theorem State.manifoldsFreed_settle (s : State) (h : HallId) :
    s.manifoldsFreed ((s.releaseIfEmpty h .m1).releaseIfEmpty h .m2) h fun m =>
      ((s.man m).state = .claimed h ∨ (s.man m).state = .selecting h) ∧ s.reservedOn h m = false := by
  have second : (s.releaseIfEmpty h .m1).releaseIfEmpty h .m2 =
      if s.reservedOn h .m2 = true then s.releaseIfEmpty h .m1 else (s.releaseIfEmpty h .m1).releaseManifold h .m2 := by
    rw [State.releaseIfEmpty, State.reservedOn_releaseIfEmpty]
  have first : s.releaseIfEmpty h .m1 = if s.reservedOn h .m1 = true then s else s.releaseManifold h .m1 := rfl
  rw [second, first]
  intro m
  cases m <;> cases r1 : s.reservedOn h .m1 <;> cases r2 : s.reservedOn h .m2 <;>
    simp +contextual [r1, r2, State.man_releaseManifold, State.selectors_releaseManifold,
      State.selCircuits_releaseManifold]

theorem State.hall_releaseManifold (s : State) (h g : HallId) (m : ManId) :
    (s.releaseManifold h m).hall g = s.hall g := by
  unfold State.releaseManifold
  split
  · rename_i c
    rw [State.freeManifold_eq (State.holder_of_pending c)]
    rfl
  · rfl

theorem State.hall_releaseIfEmpty (s : State) (h g : HallId) (m : ManId) :
    (s.releaseIfEmpty h m).hall g = s.hall g := by
  unfold State.releaseIfEmpty
  split
  · rfl
  · exact State.hall_releaseManifold s h g m

/-- The state with both manifolds settled, the estimate not yet recorded. -/
def State.emptied (s : State) (h : HallId) : State := (s.releaseIfEmpty h .m1).releaseIfEmpty h .m2

theorem State.settleAllocation_eq (s : State) (h : HallId) :
    s.settleAllocation h =
      (s.emptied h).modInc h fun i =>
        i.estimated ((s.emptied h).estimateFor h ((s.emptied h).inc h).alloc) ((s.emptied h).hallPlan h).maximum :=
  State.recordEstimate_eq _ h

theorem State.hall_emptied (s : State) (h g : HallId) : (s.emptied h).hall g = s.hall g := by
  rw [State.emptied, State.hall_releaseIfEmpty, State.hall_releaseIfEmpty]

@[simp] theorem State.banks_emptied (s : State) (h : HallId) : (s.emptied h).banks = s.banks := by
  rw [State.emptied, State.banks_releaseIfEmpty, State.banks_releaseIfEmpty]

@[simp] theorem State.waitList_emptied (s : State) (h : HallId) : (s.emptied h).waitList = s.waitList := by
  rw [State.emptied, State.waitList_releaseIfEmpty, State.waitList_releaseIfEmpty]

@[simp] theorem State.still_emptied (s : State) (h : HallId) : (s.emptied h).still = s.still := by
  rw [State.emptied, State.still_releaseIfEmpty, State.still_releaseIfEmpty]

theorem State.Moves.of_emptied (s : State) (h : HallId) : State.Moves h s (s.emptied h) := by
  refine ⟨State.frame_of_still (State.still_emptied s h), fun g _ => State.hall_emptied s h g,
    Or.inl (by rw [State.hall_emptied]), fun b => Or.inl (by simp only [State.bank, State.banks_emptied]), fun m => ?_,
    by rw [State.waitList_emptied]⟩
  obtain ⟨freed, kept⟩ := State.manifoldsFreed_settle s h m
  by_cases c : ((s.man m).state = .claimed h ∨ (s.man m).state = .selecting h) ∧ s.reservedOn h m = false
  · refine Or.inr ⟨Or.inr (State.holder_of_pending c.1), Or.inl ?_⟩
    exact congrArg (fun x : Manifold => x.state.holder) (freed c).1
  · exact Or.inl (congrArg Manifold.state (kept c).1)

/-- Settled, the hall holds just the manifolds that carry its banks. -/
theorem State.Loose.emptied {s : State} {h : HallId} {x : HallState} (l : s.Loose h (x.grip h)) :
    (s.emptied h).Allotted h (x.grip h) := by
  have moves := State.Moves.of_emptied s h
  have inc := State.inc_of_hall (State.hall_emptied s h h)
  have bank : ∀ b, (s.emptied h).bank b = s.bank b := fun b => by simp only [State.bank, State.banks_emptied]
  have pending : ∀ m, s.holder m = some h → (s.man m).state = .claimed h ∨ (s.man m).state = .selecting h :=
    l.returnable.mans
  have kept : ∀ b, b ∈ (s.inc h).allocBanks → (s.emptied h).man (s.manifoldOf b) = s.man (s.manifoldOf b) := by
    intro b k
    refine ((State.manifoldsFreed_settle s h _).2 ?_).1
    rintro ⟨-, r⟩
    rw [(s.reservedOn_iff h _).2 ⟨b, (l.banks b).2 k, rfl⟩] at r
    cases r
  refine ⟨fun b => by rw [bank, inc]; exact l.banks b, fun b k => ?_, fun m e => ?_, by rw [inc]; exact l.once⟩
  · rw [inc] at k
    rw [moves.manifoldOf, kept b k]
    exact l.lies b k
  · obtain ⟨freed, same⟩ := State.manifoldsFreed_settle s h m
    by_cases c : ((s.man m).state = .claimed h ∨ (s.man m).state = .selecting h) ∧ s.reservedOn h m = false
    · have free : ((s.emptied h).man m).state = .free := congrArg Manifold.state (freed c).1
      rw [State.holder, free] at e
      exact absurd e (by simp [ManState.holder])
    · have e' : (s.emptied h).man m = s.man m := (same c).1
      rw [State.holder, e'] at e
      have r : s.reservedOn h m = true := by
        by_contra r
        exact c ⟨pending m e, by simpa using r⟩
      obtain ⟨b, rb, o⟩ := (s.reservedOn_iff h m).1 r
      rw [e', inc]
      exact ⟨l.grips m e, b, (l.banks b).1 rb, (moves.manifoldOf b).trans o⟩

/-! ## The outcomes keep the laws (R84, R85) -/

/-- Withdrawn and replaced, not yet settled: the laws of all but the hall, and its list and manifolds. -/
structure State.Withdrawn (full : Prop) (h : HallId) (s : State) : Prop where
  apart : s.Apart full h
  loose : s.Loose h ((s.hallState h).grip h)
  allots : (s.hallState h).allots
  out : ¬ h ∈ s.waitList

theorem State.Sound.withdrawn {full : Prop} {s : State} (w : s.Sound full) {h : HallId} (a : (s.hallState h).allots)
    (unfit : List BankId) : ((s.dropUnfit h unfit).replace h unfit).Withdrawn full h := by
  have moves := (State.Moves.of_dropUnfit s h unfit).trans (State.Moves.of_replace (s.dropUnfit h unfit) h unfit)
  have st := State.hallState_replaced s h unfit
  have mid : (s.dropUnfit h unfit).hallState h = s.hallState h :=
    congrArg (fun x => x.inc.state) (State.hall_dropUnfit s h unfit)
  refine ⟨moves.apart (w.apart (HallState.ne_discharging_of_allots a)), ?_, by rw [st]; exact a,
    w.out (HallState.ne_waiting_of_allots a)⟩
  have dropped := (w.allotted a).loose.dropUnfit unfit
  rw [← mid] at dropped
  have replaced := dropped.replace (w.preferences h).1 unfit
  rw [mid, ← st] at replaced
  exact replaced

theorem State.Withdrawn.modFlags {full : Prop} {s : State} {h : HallId} (p : s.Withdrawn full h) (f : Flags → Flags) :
    (s.modFlags h f).Withdrawn full h := by
  have inc := State.inc_modInc_same s h fun i => { i with flags := f i.flags }
  have list : ((s.modFlags h f).inc h).allocBanks = (s.inc h).allocBanks := by
    rw [State.modFlags, inc]
    rfl
  have st := State.hallState_modFlags s h f
  obtain ⟨apart, ⟨banks, lies, grips, once⟩, allots, out⟩ := p
  refine ⟨(State.Moves.of_modInc s h _).apart apart, ?_, by rw [st]; exact allots, out⟩
  rw [st]
  exact ⟨by rw [list]; exact banks, by rw [list]; exact lies, grips, by rw [list]; exact once⟩

theorem State.hallState_emptied (s : State) (h : HallId) : (s.emptied h).hallState h = s.hallState h :=
  State.hallState_of_hall (State.hall_emptied s h h)

theorem State.hallState_settleAllocation (s : State) (h : HallId) :
    (s.settleAllocation h).hallState h = s.hallState h := by
  rw [State.settleAllocation_eq, State.hallState_modInc _ _ rfl, State.hallState_emptied]

theorem State.Withdrawn.settle {full : Prop} {s : State} {h : HallId} (p : s.Withdrawn full h) :
    (s.settleAllocation h).Sound full := by
  rw [State.settleAllocation_eq]
  have st := State.hallState_emptied s h
  have apart := (State.Moves.of_emptied s h).apart p.apart
  have out : ¬ h ∈ (s.emptied h).waitList := by
    rw [State.waitList_emptied]
    exact p.out
  have sound : (s.emptied h).Sound full := by
    refine apart.sound_of_not_waiting (State.Allotted.hallLaw apart ?_ ?_ out) out
    · rw [st]
      exact p.allots
    · rw [st]
      exact p.loose.emptied
  exact sound.modInc h _ rfl rfl rfl

/-- The release goes on (R85). -/
theorem State.Withdrawn.goOn {full : Prop} {s : State} {h : HallId} (p : s.Withdrawn full h)
    (st : s.hallState h = .selecting) : (s.goOn h).Sound full := by
  unfold State.goOn
  dsimp only
  split
  · exact p.settle.enterDischarging ((State.hallState_settleAllocation s h).trans st)
  · exact p.settle

theorem State.Withdrawn.shortfallInSelecting {full : Prop} {s : State} {h : HallId} (p : s.Withdrawn full h)
    (st : s.hallState h = .selecting) : (s.shortfallInSelecting h).Sound full := by
  have twice : ∀ f g : Flags → Flags, ((s.modFlags h f).modFlags h g).hallState h = .selecting := by
    intro f g
    rw [State.hallState_modFlags, State.hallState_modFlags, st]
  unfold State.shortfallInSelecting
  split
  · exact p.goOn st
  · split
    · exact ((p.modFlags _).modFlags _).goOn (twice _ _)
    · have q := (p.modFlags fun f => { f with shortfall := true }).modFlags fun f => { f with countdownSpent := true }
      exact (q.apart.bare_returnAll q.loose.returnable (fun b => (q.loose.banks b).2) q.out).sound_enterWaiting

theorem State.Withdrawn.shortfallInCountdown {full : Prop} {s : State} {h : HallId} (p : s.Withdrawn full h) :
    (s.shortfallInCountdown h).Sound full := by
  unfold State.shortfallInCountdown
  dsimp only
  split
  · exact p.settle.modFlags h _
  · exact p.settle

/-- The withdrawal of a hall's unfit banks keeps the laws (R82 to R85). -/
theorem State.Sound.withdrawHall {full : Prop} {s : State} (w : s.Sound full) {h : HallId}
    (a : (s.hallState h).allots) (unfit : List BankId) : (State.withdrawHall unfit s h).Sound full := by
  have p := w.withdrawn a (unfit.filter fun b => s.bank b == .reserved h)
  unfold State.withdrawHall
  dsimp only
  split
  · rename_i st
    exact p.shortfallInSelecting ((State.hallState_replaced s h _).trans st)
  · exact p.shortfallInCountdown

end Sys2Proof.Machine
end

section
/-! A whole withdrawal (R82), the events of the contacts and of the circuits, and the changes of the links keep the laws. -/

namespace Sys2Proof.Machine

/-! ## The halls of a withdrawal, in rank order (R82) -/

theorem insertAll_perm (before : HallId → HallId → Bool) (l acc : List HallId) :
    (l.foldl (fun l h => insertAt (fun g => before g h) h l) acc).Perm (l ++ acc) := by
  induction l generalizing acc with
  | nil => exact List.Perm.refl _
  | cons h rest ih =>
    refine (ih _).trans ?_
    exact ((insertAt_perm _ h acc).append_left rest).trans List.perm_middle

theorem State.hallsOf_perm (s : State) (unfit : List BankId) :
    (s.hallsOf unfit).Perm (HallId.all.filter fun h => unfit.any fun b => s.bank b == .reserved h) := by
  have p := insertAll_perm (fun g h => s.ranksBefore g h)
    (HallId.all.filter fun h => unfit.any fun b => s.bank b == .reserved h) []
  rwa [List.append_nil] at p

theorem State.mem_hallsOf_iff (s : State) (unfit : List BankId) (h : HallId) :
    h ∈ s.hallsOf unfit ↔ ∃ b, b ∈ unfit ∧ s.bank b = .reserved h := by
  rw [(s.hallsOf_perm unfit).mem_iff, List.mem_filter, List.any_eq_true]
  simp only [beq_iff_eq]
  exact ⟨fun k => k.2, fun k => ⟨hallId_mem_all h, k⟩⟩

theorem State.nodup_hallsOf (s : State) (unfit : List BankId) : (s.hallsOf unfit).Nodup :=
  (s.hallsOf_perm unfit).nodup_iff.2 ((by decide : HallId.all.Nodup).filter _)

theorem State.hall_goOn_other (s : State) {h g : HallId} (n : ¬ h = g) : (s.goOn h).hall g = s.hall g := by
  unfold State.goOn
  dsimp only
  split
  · rw [State.hall_enterDischarging_other _ n, State.hall_settleAllocation_other _ n]
  · rw [State.hall_settleAllocation_other _ n]

theorem State.hall_shortfallInSelecting_other (s : State) {h g : HallId} (n : ¬ h = g) :
    (s.shortfallInSelecting h).hall g = s.hall g := by
  unfold State.shortfallInSelecting
  split
  · exact State.hall_goOn_other s n
  · split
    · rw [State.hall_goOn_other _ n, State.hall_setPartial_other _ n, State.hall_setShortfall_other _ n]
    · rw [State.hall_enterWaiting_other _ n, State.hall_returnAll_other _ n, State.hall_setCountdownSpent_other _ n,
        State.hall_setShortfall_other _ n]

theorem State.hall_shortfallInCountdown_other (s : State) {h g : HallId} (n : ¬ h = g) :
    (s.shortfallInCountdown h).hall g = s.hall g := by
  unfold State.shortfallInCountdown
  dsimp only
  split
  · rw [State.hall_setShortfall_other _ n, State.hall_settleAllocation_other _ n]
  · rw [State.hall_settleAllocation_other _ n]

/-- A withdrawal from one hall leaves every other hall's records. -/
theorem State.hall_withdrawHall_other (unfit : List BankId) (s : State) {h g : HallId} (n : ¬ h = g) :
    (State.withdrawHall unfit s h).hall g = s.hall g := by
  unfold State.withdrawHall
  dsimp only
  split
  · rw [State.hall_shortfallInSelecting_other _ n, State.hall_replace_other _ _ n, State.hall_dropUnfit_other _ _ n]
  · rw [State.hall_shortfallInCountdown_other _ n, State.hall_replace_other _ _ n, State.hall_dropUnfit_other _ _ n]

theorem State.Sound.withdrawHalls {full : Prop} {s : State} (w : s.Sound full) (unfit : List BankId) (l : List HallId)
    (once : l.Nodup) (a : ∀ h, h ∈ l → (s.hallState h).allots) : (l.foldl (State.withdrawHall unfit) s).Sound full := by
  induction l generalizing s with
  | nil => exact w
  | cons h rest ih =>
    obtain ⟨out, once⟩ := List.nodup_cons.1 once
    refine ih (w.withdrawHall (a h List.mem_cons_self) unfit) once fun g k => ?_
    have n : ¬ h = g := by
      rintro rfl
      exact out k
    rw [State.hallState_of_hall (State.hall_withdrawHall_other unfit s n)]
    exact a g (List.mem_cons_of_mem h k)

/-- A withdrawal keeps the laws (R82). -/
theorem State.Sound.withdraw {full : Prop} {s : State} (w : s.Sound full) (unfit : List BankId) :
    (s.withdraw unfit).Sound full := by
  refine (w.withdrawHalls unfit _ (s.nodup_hallsOf unfit) fun h k => ?_).reexamine
  obtain ⟨b, -, e⟩ := (s.mem_hallsOf_iff unfit h).1 k
  exact ((w.halls h).reserved b e).1

/-! ## Contacts (chapter 8) -/

theorem State.Sound.lowPressureMoved {full : Prop} {s : State} (w : s.Sound full) (b : BankId) (closed : Bool) :
    (s.lowPressureMoved b closed).Sound full := by
  unfold State.lowPressureMoved
  split
  · split
    · exact w.withdraw _
    · exact w
  · exact w.reexamine

/-- A change of a contact keeps the laws (R148). -/
theorem State.Sound.contactMoved {full : Prop} {s : State} (w : s.Sound full) (d r : Line) (closed : Bool) :
    (s.contactMoved d r closed).Sound full := by
  have moved : (s.modContact d r fun c => { c with debounced := closed }).Sound full := w.of_core rfl
  unfold State.contactMoved
  dsimp only
  cases assigned d r with
  | manual h =>
    dsimp only
    split
    · exact moved.manualEvent h _
    · exact moved
  | hold h => exact moved.demandMoved h _
  | lockout h =>
    dsimp only
    split
    · exact moved.withholdBegins h true
    · exact moved.withholdEnds h
  | proven m h =>
    dsimp only
    split
    · exact moved.provenCloses m h
    · exact moved.provenOpens m h
  | lowPressure b => exact moved.lowPressureMoved b closed
  | flow m =>
    dsimp only
    split
    · exact moved.flowCloses m
    · exact moved
  | reserveKey => exact moved.withdraw _
  | commissionKey => exact moved
  | unused => exact moved

theorem State.Sound.handChanges {full : Prop} {s : State} (w : s.Sound full) (d : Line) (sample : BitVec 8)
    (lines : List Line) : (State.handChanges d sample s lines).Sound full := by
  unfold State.handChanges
  induction lines generalizing s with
  | nil => exact w
  | cons r rest ih => exact ih (State.Sound.asEvent (w.contactMoved d r _))

theorem State.Sound.takeDriveDwell {full : Prop} {s : State} (w : s.Sound full) (sample : BitVec 8) :
    (s.takeDriveDwell sample).Sound full := by
  unfold State.takeDriveDwell
  split
  · exact w
  · refine State.Sound.handChanges ?_ _ _ _
    exact w.of_core rfl

theorem State.Sound.takeDarkDwell {full : Prop} {s : State} (w : s.Sound full) (sample : BitVec 8) :
    (s.takeDarkDwell sample).Sound full := by
  unfold State.takeDarkDwell
  split
  · exact w
  · exact w.of_core rfl

/-! ## Circuits (chapter 7) -/

theorem State.core_modCircuit (s : State) (c : CircuitId) (f : Circuit → Circuit) :
    (s.modCircuit c f).core = s.core := by cases c <;> rfl

theorem State.Sound.takeInterval {full : Prop} {s : State} (w : s.Sound full) : s.takeInterval.Sound full := by
  unfold State.takeInterval
  split
  · exact w
  · exact w.of_core rfl

theorem State.Sound.conditionMoved {full : Prop} {s : State} (w : s.Sound full) (c : CircuitId) (old new : Condition) :
    (s.conditionMoved c old new).Sound full := by
  unfold State.conditionMoved
  split
  · split
    · exact w
    · exact w.withdraw _
  · split
    · exact w.reexamine
    · exact w

theorem State.Sound.endMeasurement {full : Prop} {s : State} (w : s.Sound full) (x : Measurement) (last : LastCount)
    (k : Reading) : (s.endMeasurement x last k).Sound full := by
  have idle : ({ s with measuring := none } : State).Sound full := w.of_core rfl
  unfold State.endMeasurement
  dsimp only
  split
  · exact idle
  · exact State.Sound.conditionMoved (idle.of_core (State.core_modCircuit _ _ _)) _ _ _

theorem State.Sound.takeTrip {full : Prop} {s : State} (w : s.Sound full) (count : Nat) :
    (s.takeTrip count).Sound full := by
  unfold State.takeTrip
  split
  · exact w
  · exact w.endMeasurement _ _ _

theorem State.Sound.takeCounterPass {full : Prop} {s : State} (w : s.Sound full) : s.takeCounterPass.Sound full := by
  unfold State.takeCounterPass
  split
  · exact w
  · exact w.endMeasurement _ _ _

/-! ## Links (chapter 9) -/

theorem State.core_modLink (s : State) (h : HallId) (f : Link → Link) : (s.modLink h f).core = s.core := rfl

theorem State.core_modPort (s : State) (p : Port) (f : PortIo → PortIo) : (s.modPort p f).core = s.core := by
  cases p <;> rfl

theorem State.Sound.acceptDeclare {full : Prop} {s : State} (w : s.Sound full) (h : HallId) (zones : List Zone) :
    (s.acceptDeclare h zones).Sound full :=
  State.Sound.testConfirmation (w.of_core (State.core_modLink s h _)) h

theorem State.Sound.acceptCycle {full : Prop} {s : State} (w : s.Sound full) (h : HallId) (states : List ZoneState)
    (hold : Bool) (low high : Option Int) : (s.acceptCycle h states hold low high).Sound full :=
  (State.Sound.takeZones (w.of_core (State.core_modLink s h _)) h).demandMoved h _

theorem State.Sound.takeSilence {full : Prop} {s : State} (w : s.Sound full) (h : HallId) :
    (s.takeSilence h).Sound full := by
  unfold State.takeSilence
  split
  · exact State.Sound.demandMoved (w.of_core (State.core_modLink s h _)) h _
  · exact w

theorem State.Sound.foldl {full : Prop} {α : Type} {f : State → α → State}
    (keeps : ∀ s x, s.Sound full → (f s x).Sound full) {s : State} (w : s.Sound full) (l : List α) :
    (l.foldl f s).Sound full := by
  induction l generalizing s with
  | nil => exact w
  | cons x rest ih => exact ih (keeps s x w)

theorem State.Sound.acceptStart {full : Prop} {s : State} (w : s.Sound full) (ports : PerHall Bool) :
    (s.acceptStart ports).Sound full := by
  refine State.Sound.foldl (fun t h k => ?_) w HallId.all
  unfold State.startPort
  split
  · exact k.of_core ((State.core_modPort _ _ _).trans (State.core_modLink t h _))
  · exact k

theorem State.Sound.acceptStop {full : Prop} {s : State} (w : s.Sound full) (ports : PerHall Bool) :
    (s.acceptStop ports).Sound full := by
  refine State.Sound.foldl (fun t h k => ?_) w HallId.all
  unfold State.stopPort
  split
  · exact State.Sound.demandMoved (k.of_core ((State.core_modPort _ _ _).trans (State.core_modLink t h _))) h _
  · exact k

end Sys2Proof.Machine
end

section
/-! The commands of the station keep the laws: edits of the plan store (R177 to R183), isolation (R21, R22), RECHARGED
(R23), and every request that a port hands to its owner. -/

namespace Sys2Proof.Machine

/-! ## A bank out of use -/

/-- The two states agree but for a bank that is READY, or SPENT and not of the release on its manifold: that bank may have
become READY, or lie on another manifold. -/
structure State.Spares (b : BankId) (s t : State) : Prop where
  idle : s.bank b = .ready ∨ (s.bank b = .spent ∧ s.servesHolder b = false)
  own : t.bank b = .ready ∨ (t.bank b = .spent ∧ s.bank b = .spent)
  bank : ∀ c, ¬ c = b → t.bank c = s.bank c
  manifoldOf : ∀ c, ¬ c = b → t.manifoldOf c = s.manifoldOf c
  mans : t.mans = s.mans
  halls : t.halls = s.halls
  waits : t.waitList = s.waitList
  queue : t.queue = s.queue
  slots : t.slots = s.slots

section
variable {b : BankId} {s t : State} (e : State.Spares b s t)
include e

theorem State.Spares.reserved_iff (h : HallId) (c : BankId) : t.bank c = .reserved h ↔ s.bank c = .reserved h := by
  by_cases n : c = b
  · subst n
    obtain i | ⟨i, -⟩ := e.idle <;> obtain o | ⟨o, -⟩ := e.own <;> simp [i, o]
  · rw [e.bank c n]

theorem State.Spares.firing_iff (h : HallId) (c : BankId) : t.bank c = .firing h ↔ s.bank c = .firing h := by
  by_cases n : c = b
  · subst n
    obtain i | ⟨i, -⟩ := e.idle <;> obtain o | ⟨o, -⟩ := e.own <;> simp [i, o]
  · rw [e.bank c n]

/-- A SPENT bank of the release on its manifold is not the spared one. -/
theorem State.Spares.other {h : HallId} {c : BankId} (sp : s.bank c = .spent) (l : c ∈ (s.inc h).allocBanks)
    (held : s.holder (s.manifoldOf c) = some h) : ¬ c = b := by
  rintro rfl
  obtain i | ⟨-, i⟩ := e.idle
  · simp [i] at sp
  · unfold State.servesHolder at i
    simp [held, l] at i

theorem State.Spares.man (m : ManId) : t.man m = s.man m := by
  unfold State.man
  rw [e.mans]

theorem State.Spares.holder (m : ManId) : t.holder m = s.holder m := by
  unfold State.holder
  rw [e.man]

theorem State.Spares.hall (h : HallId) : t.hall h = s.hall h := State.hall_of_halls e.halls h

theorem State.Spares.manifoldOf_of {h : HallId} {c : BankId} (r : s.bank c = .reserved h ∨ s.bank c = .firing h) :
    t.manifoldOf c = s.manifoldOf c := by
  refine e.manifoldOf c ?_
  rintro rfl
  obtain i | ⟨i, -⟩ := e.idle <;> obtain r | r := r <;> simp [i] at r

theorem State.Spares.inPulsing (c : BankId) : t.inPulsing c ↔ s.inPulsing c := by
  unfold State.inPulsing
  rw [e.slots]

theorem State.Spares.inMarking (c : BankId) : t.inMarking c ↔ s.inMarking c := by
  unfold State.inMarking
  rw [e.slots]

theorem State.Spares.heldLaw {m : ManId} (w : s.heldLaw m) : t.heldLaw m := by
  have st : ∀ h, t.hallState h = s.hallState h := fun h => State.hallState_of_hall (e.hall h)
  have inc : ∀ h, t.inc h = s.inc h := fun h => State.inc_of_hall (e.hall h)
  have reserved : ∀ h, (∃ c, s.bank c = .reserved h ∧ s.manifoldOf c = m) →
      ∃ c, t.bank c = .reserved h ∧ t.manifoldOf c = m := fun h ⟨c, r, o⟩ =>
    ⟨c, (e.reserved_iff h c).2 r, (e.manifoldOf_of (Or.inl r)).trans o⟩
  have firing : ∀ h, (∃ c, s.bank c = .firing h ∧ s.manifoldOf c = m) →
      ∃ c, t.bank c = .firing h ∧ t.manifoldOf c = m := fun h ⟨c, r, o⟩ =>
    ⟨c, (e.firing_iff h c).2 r, (e.manifoldOf_of (Or.inr r)).trans o⟩
  have spent : ∀ h, s.holder m = some h →
      (∃ c, c ∈ (s.inc h).allocBanks ∧ s.bank c = .spent ∧ s.manifoldOf c = m) →
      ∃ c, c ∈ (s.inc h).allocBanks ∧ t.bank c = .spent ∧ t.manifoldOf c = m := by
    rintro h held ⟨c, l, sp, o⟩
    have n := e.other sp l (o ▸ held)
    exact ⟨c, l, (e.bank c n).trans sp, (e.manifoldOf c n).trans o⟩
  unfold State.heldLaw at w ⊢
  rw [e.man]
  cases x : (s.man m).state <;> rw [x] at w <;> simp only [st, inc]
  · exact ⟨w.1, reserved _ w.2⟩
  · exact w.imp (fun k => ⟨k.1, reserved _ k.2⟩) fun k => ⟨k.1, firing _ k.2⟩
  · exact ⟨w.1, spent _ (by rw [State.holder, x]; rfl) w.2⟩
  · exact ⟨w.1, spent _ (by rw [State.holder, x]; rfl) w.2⟩

theorem State.Spares.hallLaw {h : HallId} (w : s.HallLaw h) : t.HallLaw h := by
  have st := State.hallState_of_hall (e.hall h)
  have inc := State.inc_of_hall (e.hall h)
  refine ⟨by rw [e.waits, st]; exact w.waits, fun c r => ?_, fun c r => ?_, fun m k => ?_,
    ⟨fun k c l => ?_, fun k c l => ?_, fun k => ?_⟩, fun k => ?_, by rw [inc]; exact w.once⟩
  · have r' := (e.reserved_iff h c).1 r
    rw [st, inc, e.manifoldOf_of (Or.inl r'), e.holder]
    exact w.reserved c r'
  · have r' := (e.firing_iff h c).1 r
    rw [st, inc, e.manifoldOf_of (Or.inr r'), e.holder]
    exact w.firing c r'
  · rw [e.holder] at k
    exact e.heldLaw (w.held m k)
  · rw [st] at k
    rw [inc] at l
    exact (e.reserved_iff h c).2 (w.list.1 k c l)
  · rw [st] at k
    rw [inc] at l
    obtain f | ⟨sp, held⟩ := w.list.2.1 k c l
    · exact Or.inl ((e.firing_iff h c).2 f)
    · have n := e.other sp l held
      rw [e.bank c n, e.manifoldOf c n, e.holder]
      exact Or.inr ⟨sp, held⟩
  · rw [st] at k
    rw [inc]
    exact w.list.2.2 k
  · rw [e.hall] at k
    obtain ⟨d, all⟩ := w.timer k
    refine ⟨st.trans d, fun c l => ?_⟩
    rw [inc] at l
    obtain ⟨sp, np⟩ := all c l
    have held := ((w.list.2.1 d c l).resolve_left (by simp [sp])).2
    rw [e.bank c (e.other sp l held), e.inPulsing]
    exact ⟨sp, np⟩

/-- A bank out of use may change with the laws kept. -/
theorem State.Spares.sound {full : Prop} (w : s.Sound full)
    (preferences : ∀ h, (t.preference h).Nodup ∧ (t.nvPlan.halls.get h).preference.Nodup) (store : t.storeLaw)
    (marked : full → t.MarkLaw) : t.Sound full := by
  refine ⟨?_, fun h => e.hallLaw (w.halls h), ⟨?_, fun c => ?_⟩, fun c p => ?_, preferences, store, marked⟩
  · have rank : ∀ g, (t.inc g).confNumber = (s.inc g).confNumber := fun g => by rw [State.inc_of_hall (e.hall g)]
    rw [e.waits]
    exact w.ranked.imp fun {f g} r => (State.ranksBefore_congr (rank f) (rank g)).trans r
  · unfold State.slotBanks
    rw [e.queue, e.slots]
    exact w.queue.1
  · simp only [e.firing_iff, e.queue, e.inMarking]
    exact w.queue.2 c
  · obtain ⟨sp, g, m, l, d⟩ := w.pulsed c ((e.inPulsing c).1 p)
    have n := e.other sp l (by rw [State.holder, m]; rfl)
    refine ⟨(e.bank c n).trans sp, g, ?_, ?_⟩
    · rw [e.manifoldOf c n, e.man]
      exact m
    · rw [State.inc_of_hall (e.hall g), State.hallState_of_hall (e.hall g)]
      exact ⟨l, d⟩

end

/-! ## An edit of the store begins (R177) -/

theorem State.storeBusy_iff (s : State) : s.storeBusy = false ↔ s.write = none ∧ s.markQueue = [] := by
  unfold State.storeBusy
  cases s.write <;> simp

/-- The laws of the marks where an idle store begins a write that is no mark's. -/
theorem State.MarkLaw.begin {s t : State} {x : StoreWrite} (w : s.MarkLaw) (free : s.storeBusy = false)
    (n : ∀ b, ¬ x = .setMark b) (ini : t.initiators = s.initiators) (nv : t.nvSpent = s.nvSpent)
    (wr : t.write = some x) (mq : t.markQueue = s.markQueue) (sl : t.slots = s.slots)
    (spent : ∀ b, t.bank b = .spent ↔ s.bank b = .spent ∧ ¬ x = .clearMark b) : t.MarkLaw := by
  obtain ⟨none, empty⟩ := s.storeBusy_iff.1 free
  obtain ⟨initiators, pulsing, ⟨under, -, -⟩, law⟩ := w
  refine ⟨?_, ?_, ⟨fun b => ?_, ?_, fun b k => ?_⟩, fun b => ?_⟩
  · unfold State.initiatorLaw
    rw [ini, sl]
    exact initiators
  · unfold State.inPulsing
    rw [nv, ini, sl]
    exact pulsing
  · have old := under b
    rw [none, empty] at old
    unfold State.inMarking at old ⊢
    rw [sl, old, wr, mq, empty]
    simp [n b]
  · rw [mq, empty]
    exact List.nodup_nil
  · rw [wr] at k
    exact absurd (Option.some.inj k) (n b)
  · have old := law b
    rw [none] at old
    rw [spent, old, nv, wr]
    simp

/-- The law of the store where an idle store begins a write of what the working copy takes (R175). -/
theorem State.storeLaw_begin {s t : State} {x : StoreWrite} (w : s.storeLaw) (free : s.storeBusy = false)
    (wk : t.work = x.applyPlan s.work) (nv : t.nvPlan = s.nvPlan) (wr : t.write = some x) : t.storeLaw := by
  obtain ⟨none, -⟩ := s.storeBusy_iff.1 free
  obtain ⟨copy, -⟩ := w
  rw [none] at copy
  unfold State.storeLaw
  rw [wr, nv, wk, copy]
  exact ⟨rfl, fun k => absurd k (by simp)⟩

/-- An edit that moves no bank to another manifold. -/
theorem State.Sound.beginEdit {full : Prop} {s t : State} (w : s.Sound full) {x : StoreWrite}
    (free : s.storeBusy = false) (n : ∀ b, ¬ x = .setMark b) (c : ∀ b, ¬ x = .clearMark b)
    (e : t.core = ({ s with work := x.applyPlan s.work, write := some x } : State).core)
    (manifoldOf : ∀ b, ((x.applyPlan s.work).banks.get b).manifold = s.manifoldOf b)
    (pref : ∀ h, ((x.applyPlan s.work).halls.get h).preference.Nodup) : t.Sound full := by
  simp only [State.core, Prod.mk.injEq] at e
  obtain ⟨wk, nv, sp, wr, mq, ini, bk, mn, hl, wl, q, sl⟩ := e
  have bank : ∀ b, t.bank b = s.bank b := fun b => by simp only [State.bank, bk]
  have same : State.SameHalls s t := by
    refine ⟨bank, fun m => ?_, fun b => ?_, fun h => ?_, fun h => ?_, fun h => ?_, fun h => ?_, wl, fun b => ?_⟩
    · simp only [State.man, mn]
    · simp only [State.manifoldOf, State.bankPlan, wk]
      exact manifoldOf b
    · simp only [State.hallState, State.inc, hl]
    · simp only [State.inc, hl]
    · simp only [State.inc, hl]
    · simp only [State.hall, hl]
      exact Or.inl
    · simp only [State.inPulsing, sl, imp_self]
  refine same.sound w ?_ (fun h => ?_) (State.storeLaw_begin w.store free wk nv wr) fun k =>
    (w.marked k).begin free n ini sp wr mq sl fun b => ?_
  · unfold State.queueLaw State.slotBanks State.inMarking
    simp only [bank, q, sl]
    exact w.queue
  · unfold State.preference State.hallPlan
    rw [wk, nv]
    exact ⟨pref h, (w.preferences h).2⟩
  · rw [bank]
    simp [c b]

/-! ## The owners -/

theorem State.Sound.isolateBank {full : Prop} {s : State} (w : s.Sound full) (free : s.storeBusy = false) (b : BankId)
    (v : Bool) : (s.isolateBank b v).Sound full :=
  w.beginEdit (x := .bankIsolated b v) free (by simp) (by simp) rfl (fun _ => rfl) fun h => (w.preferences h).1

theorem State.Sound.isolateHall {full : Prop} {s : State} (w : s.Sound full) (free : s.storeBusy = false) (h : HallId)
    (v : Bool) : (s.isolateHall h v).Sound full :=
  w.beginEdit (x := .hallIsolated h v) free (by simp) (by simp) rfl (fun _ => rfl) fun g => (w.preferences g).1

theorem State.Sound.answerIsolate {full : Prop} {s : State} (w : s.Sound full) (x : Target) :
    (s.answerIsolate x).1.Sound full := by
  cases x with
  | bank b =>
    unfold State.answerIsolate
    dsimp only
    split
    · exact w
    · rename_i free
      split
      · exact w
      · split
        · exact w
        · exact w.isolateBank (by simpa using free) b true
  | hall h =>
    unfold State.answerIsolate
    dsimp only
    split
    · exact w
    · rename_i free
      split
      · exact w
      · split
        · exact w
        · exact (w.isolateHall (by simpa using free) h true).withholdBegins h false

theorem State.Sound.answerDeisolate {full : Prop} {s : State} (w : s.Sound full) (x : Target) :
    (s.answerDeisolate x).1.Sound full := by
  cases x with
  | bank b =>
    unfold State.answerDeisolate
    dsimp only
    split
    · exact w
    · rename_i free
      split
      · exact (w.isolateBank (by simpa using free) b false).reexamine
      · exact w
  | hall h =>
    unfold State.answerDeisolate
    dsimp only
    split
    · exact w
    · rename_i free
      split
      · exact (w.isolateHall (by simpa using free) h false).withholdEnds h
      · exact w

/-- A SPENT bank that serves no release becomes READY and its mark is cleared (R23). -/
theorem State.Sound.recharge {full : Prop} {s : State} (w : s.Sound full) (free : s.storeBusy = false) {b : BankId}
    (e : s.bank b = .spent) (n : s.servesHolder b = false) :
    ((s.setBank b .ready).beginWrite (.clearMark b)).Sound full := by
  have bank : ∀ c, ((s.setBank b .ready).beginWrite (.clearMark b)).bank c = if b = c then .ready else s.bank c :=
    fun c => PerBank.get_set s.banks b c .ready
  have spares : State.Spares b s ((s.setBank b .ready).beginWrite (.clearMark b)) :=
    ⟨Or.inr ⟨e, n⟩, Or.inl (by rw [bank, if_pos rfl]), fun c k => by rw [bank, if_neg fun x => k x.symm],
      fun _ _ => rfl, rfl, rfl, rfl, rfl, rfl⟩
  refine spares.sound w w.preferences (State.storeLaw_begin (x := .clearMark b) w.store free rfl rfl rfl) fun k =>
    (w.marked k).begin (x := .clearMark b) free (by simp) rfl rfl rfl rfl rfl fun c => ?_
  rw [bank, StoreWrite.clearMark.injEq]
  split
  · rename_i x
    simp [x]
  · rename_i x
    simp [x]

theorem State.Sound.answerRecharged {full : Prop} {s : State} (w : s.Sound full) (b : BankId) :
    (s.answerRecharged b).1.Sound full := by
  unfold State.answerRecharged
  split
  · exact w
  · rename_i free
    split
    · exact w
    · split
      · exact w
      · rename_i sp
        split
        · exact w
        · rename_i n
          rw [Bool.or_eq_true, not_or] at n
          exact (w.recharge (by simpa using free) (by simpa using sp) (by simpa using n.2)).reexamine

theorem State.Sound.answerStandDown {full : Prop} {s : State} (w : s.Sound full) (h : HallId) :
    (s.answerStandDown h).1.Sound full := by
  unfold State.answerStandDown
  split
  · exact w
  · rename_i n
    exact w.standDown (by simpa using n)

theorem State.Sound.answerRetry {full : Prop} {s : State} (w : s.Sound full) (h : HallId) :
    (s.answerRetry h).1.Sound full := by
  unfold State.answerRetry
  split
  · rename_i st
    exact w.retry st
  · exact w

/-! ## WRITE_PLAN and SET_LOCK (R176 to R178, R183) -/

theorem nodup_of_distinctBanks {l : List BankId} (e : distinctBanks l = true) : l.Nodup := by
  induction l with
  | nil => exact List.nodup_nil
  | cons b rest ih =>
    simp only [distinctBanks, Bool.and_eq_true, Bool.not_eq_true', List.contains_eq_mem, decide_eq_false_iff_not] at e
    exact List.nodup_cons.2 ⟨e.1, ih e.2⟩

theorem checked_some {α : Type} {valid : α → Bool} {r x : α} (e : checked valid r = some x) : valid x = true := by
  unfold checked at e
  split at e
  · cases e
    assumption
  · cases e

theorem hallPlanOf_valid {body : List Byte} {r : HallPlan} (e : hallPlanOf body = some r) : r.valid = true := by
  unfold hallPlanOf at e
  split at e
  · split at e
    · exact checked_some e
    · cases e
  · cases e

/-- An accepted hall record names no bank twice (R176). -/
theorem nodup_preference_of_planEditOf {kind : RecordKind} {number : Byte} {body : List Byte} {h : HallId} {r : HallPlan}
    (e : planEditOf kind number body = some (.hall h r)) : r.preference.Nodup := by
  unfold planEditOf at e
  rw [Option.bind_eq_some_iff] at e
  obtain ⟨name, -, e⟩ := e
  cases name with
  | site => simp at e
  | man m => simp at e
  | bank b => simp at e
  | hall g =>
    simp only [Option.map_eq_some_iff, PlanEdit.hall.injEq] at e
    obtain ⟨x, k, -, rfl⟩ := e
    have v := hallPlanOf_valid k
    unfold HallPlan.valid at v
    rw [Bool.and_eq_true] at v
    exact nodup_of_distinctBanks v.2

theorem State.core_circuitsForEdit (s : State) (e : PlanEdit) : (s.circuitsForEdit e).core = s.core := by
  cases e with
  | site _ => rfl
  | hall _ _ => rfl
  | bank b r => exact State.core_modCircuit s _ _
  | man m r => rfl

/-- The state with a plan record accepted, before the re-examination (R177). -/
def State.planWritten (s : State) (e : PlanEdit) : State :=
  { s.circuitsForEdit e with work := e.apply (s.circuitsForEdit e).work }.beginWrite (.plan e)

theorem State.acceptPlan_eq (s : State) (e : PlanEdit) :
    s.acceptPlan e = if e.reexamines = true then (s.planWritten e).reexamine else s.planWritten e := rfl

theorem State.core_planWritten (s : State) (e : PlanEdit) :
    (s.planWritten e).core = ({ s with work := e.apply s.work, write := some (.plan e) } : State).core := by
  cases e with
  | site _ => rfl
  | hall _ _ => rfl
  | bank b r => rfl
  | man m r => rfl

theorem State.Sound.planWritten {full : Prop} {s : State} (w : s.Sound full) (free : s.storeBusy = false) {e : PlanEdit}
    (allowed : s.ownerAllows e = true) (pref : ∀ h r, e = .hall h r → r.preference.Nodup) :
    (s.planWritten e).Sound full := by
  have core := State.core_planWritten s e
  cases e with
  | site r =>
    exact w.beginEdit (x := .plan (.site r)) free (by simp) (by simp) core (fun _ => rfl) fun h => (w.preferences h).1
  | man m r =>
    exact w.beginEdit (x := .plan (.man m r)) free (by simp) (by simp) core (fun _ => rfl) fun h => (w.preferences h).1
  | hall h r =>
    refine w.beginEdit (x := .plan (.hall h r)) free (by simp) (by simp) core (fun _ => rfl) fun g => ?_
    show ((s.work.halls.set h r).get g).preference.Nodup
    rw [PerHall.get_set]
    split
    · exact pref h r rfl
    · exact (w.preferences g).1
  | bank b r =>
    simp only [State.core, Prod.mk.injEq] at core
    obtain ⟨wk, nv, sp, wr, mq, ini, bk, mn, hl, wl, q, sl⟩ := core
    have bank : ∀ c, (s.planWritten (.bank b r)).bank c = s.bank c := fun c => by simp only [State.bank, bk]
    have idle : s.bank b = .ready ∨ (s.bank b = .spent ∧ s.servesHolder b = false) := by
      simpa [State.ownerAllows] using allowed
    have spares : State.Spares b s (s.planWritten (.bank b r)) := by
      refine ⟨idle, ?_, fun c _ => bank c, fun c n => ?_, mn, hl, wl, q, sl⟩
      · rw [bank]
        exact idle.imp id fun k => ⟨k.1, k.1⟩
      · simp only [State.manifoldOf, State.bankPlan, wk]
        exact congrArg BankPlan.manifold (PerBank.get_set_other _ _ fun x => n x.symm)
    refine spares.sound w (fun h => ?_) (State.storeLaw_begin (x := .plan (.bank b r)) w.store free wk nv wr) fun k =>
      (w.marked k).begin (x := .plan (.bank b r)) free (by simp) ini sp wr mq sl fun c => ?_
    · unfold State.preference State.hallPlan
      rw [wk, nv]
      exact w.preferences h
    · rw [bank]
      simp

theorem State.Sound.answerWritePlan {full : Prop} {s : State} (w : s.Sound full) (kind : RecordKind) (number : Byte)
    (body : List Byte) : (s.answerWritePlan kind number body).1.Sound full := by
  unfold State.answerWritePlan
  split
  · exact w
  · split
    · exact w
    · rename_i free
      split
      · exact w
      · rename_i e k
        split
        · rename_i allowed
          have written := w.planWritten (by simpa using free) allowed fun h r x => nodup_preference_of_planEditOf (x ▸ k)
          rw [State.acceptPlan_eq]
          split
          · exact written.reexamine
          · exact written
        · exact w

theorem State.Sound.answerSetLock {full : Prop} {s : State} (w : s.Sound full) (x : LockSetting) :
    (s.answerSetLock x).1.Sound full := by
  unfold State.answerSetLock
  split
  · exact w
  · rename_i free
    split
    · exact w
    · split
      · exact w
      · cases x with
        | overlay => exact w.of_core rfl
        | mode m =>
          dsimp only
          unfold State.changeLock
          split
          · exact w
          · exact w.beginEdit (x := .lockMode m) (by simpa using free) (by simp) (by simp) rfl (fun _ => rfl)
              fun h => (w.preferences h).1

/-- Every request keeps the laws (R160). -/
theorem State.Sound.carryOut {full : Prop} {s : State} (w : s.Sound full) (p : Port) (r : Request) :
    (s.carryOut p r).1.Sound full := by
  cases r with
  | declare zones =>
    cases p with
    | hall h => exact w.acceptDeclare h zones
    | station => exact w
  | cycle states hold low high =>
    cases p with
    | hall h => exact w.acceptCycle h states hold low high
    | station => exact w
  | readIncident h =>
    cases p with
    | hall g =>
      unfold State.carryOut
      dsimp only
      split <;> exact w
    | station => exact w
  | writePlan kind number body => exact w.answerWritePlan kind number body
  | setLock x => exact w.answerSetLock x
  | isolate x => exact w.answerIsolate x
  | deisolate x => exact w.answerDeisolate x
  | standDown h => exact w.answerStandDown h
  | retry h => exact w.answerRetry h
  | recharged b => exact w.answerRecharged b
  | linkStart ports => exact w.acceptStart ports
  | linkStop ports => exact w.acceptStop ports
  | readStatus => exact w
  | readBanks => exact w
  | readManifolds => exact w
  | readLink h => exact w
  | readCircuits part => exact w
  | readContacts => exact w
  | readPlan name => exact w

end Sys2Proof.Machine
end

section
/-! The laws of the tables through the ports, the restart, the passage of time and every step (O58, O59). -/

namespace Sys2Proof.Machine

/-! ## Ports (chapter 9) -/

theorem State.Sound.respond {full : Prop} {s : State} (w : s.Sound full) (p : Port) (kind : Byte) (payload : List Byte) :
    (s.respond p kind payload).1.Sound full := by
  unfold State.respond
  split
  · exact w
  · split
    · exact w
    · split
      · exact w
      · split
        · exact w
        · exact w.carryOut p _

theorem State.core_setInvalidSeen (s : State) (p : Port) : (s.setInvalidSeen p).core = s.core := by cases p <;> rfl

theorem State.core_noteAnswer (s : State) (p : Port) (a : Answer) : (s.noteAnswer p a).core = s.core := by
  unfold State.noteAnswer
  split
  · exact State.core_setInvalidSeen s p
  · rfl

theorem State.Sound.processFrame {full : Prop} {s : State} (w : s.Sound full) (p : Port) (kind seq : Byte)
    (payload : List Byte) : (s.processFrame p kind seq payload).Sound full := by
  have event : (s.asEvent fun t => (t.respond p kind payload).1).Sound full :=
    State.Sound.asEvent (w.respond p kind payload)
  unfold State.processFrame
  exact (event.of_core (State.core_noteAnswer _ p _)).of_core (State.core_modPort _ p _)

theorem State.core_discardBadCrc (s : State) (p : Port) : (s.discardBadCrc p).core = s.core := by cases p <;> rfl

theorem State.core_abandonOverlength (s : State) (p : Port) : (s.abandonOverlength p).core = s.core := by
  cases p <;> rfl

theorem State.Sound.completeFrame {full : Prop} {s : State} (w : s.Sound full) (p : Port) (body check : List Byte) :
    (s.completeFrame p body check).Sound full := by
  have hunts : (s.hunt p).Sound full := w.of_core (State.core_modPort s p _)
  unfold State.completeFrame
  split
  · split
    · exact hunts.processFrame p _ _ _
    · exact w.of_core (State.core_discardBadCrc s p)
  · exact hunts

theorem State.Sound.receiveByte {full : Prop} {s : State} (w : s.Sound full) (p : Port) (b : Byte) :
    (State.receiveByte p s b).Sound full := by
  have port : ∀ f : PortIo → PortIo, (s.modPort p f).Sound full := fun f => w.of_core (State.core_modPort s p f)
  unfold State.receiveByte
  split
  · split
    · split
      · exact port _
      · exact w
    · unfold State.takeFrameBytes
      split
      · exact port _
      · split
        · exact w.of_core (State.core_abandonOverlength s p)
        · split
          · exact w.completeFrame p _ _
          · exact port _
  · exact w

theorem State.Sound.frameArrives {full : Prop} {s : State} (w : s.Sound full) (p : Port) (kind seq : Byte)
    (payload : List Byte) : (s.frameArrives p kind seq payload).Sound full := by
  unfold State.frameArrives
  split
  · exact w.processFrame p kind seq payload
  · exact State.Sound.foldl (fun t b k => k.receiveByte p b) w _

theorem State.core_takeGap (s : State) (p : Port) : (s.takeGap p).core = s.core := by
  unfold State.takeGap
  split
  · exact State.core_modPort s p _
  · rfl

theorem State.core_takeBadCrc (s : State) (p : Port) : (s.takeBadCrc p).core = s.core := by
  unfold State.takeBadCrc
  split
  · exact State.core_discardBadCrc s p
  · rfl

theorem State.core_takeOverlength (s : State) (p : Port) : (s.takeOverlength p).core = s.core := by
  unfold State.takeOverlength
  split
  · exact State.core_abandonOverlength s p
  · rfl

theorem State.core_takeResponseEnd (s : State) (p : Port) : (s.takeResponseEnd p).core = s.core := by
  unfold State.takeResponseEnd
  split
  · exact State.core_modPort s p _
  · rfl

/-! ## The restart (R25, R65, R88, R129) -/

theorem State.bank_restart (s : State) (b : BankId) :
    s.restart.bank b = if s.nvSpent.get b = true then .spent else .ready := by
  show (s.nvSpent.mapId fun _ marked => bankAfterRestart marked).get b = _
  rw [PerBank.get_mapId]
  rfl

theorem State.man_restart (s : State) (m : ManId) :
    s.restart.man m = { state := .free, flowConfirmed := false, timer := .stopped } := PerMan.get_fill _ m

theorem State.hall_restart (s : State) (h : HallId) : s.restart.hall h = Hall.restarted := PerHall.get_fill _ h

theorem State.inc_restart (s : State) (h : HallId) : s.restart.inc h = Hall.restarted.inc :=
  congrArg Hall.inc (State.hall_restart s h)

theorem State.hallState_restart (s : State) (h : HallId) : s.restart.hallState h = .quiet :=
  congrArg Incident.state (State.inc_restart s h)

theorem State.slot_restart (s : State) (i : SlotId) : s.restart.slots.get i = .empty := PerSlot.get_fill _ i

theorem State.selector_restart (s : State) (m : ManId) (h : HallId) :
    s.restart.selector m h = { energised := false, proven := false } := by
  show (((PerMan.fill (PerHall.fill _)).get m).get h : Selector) = _
  rw [PerMan.get_fill, PerHall.get_fill]

theorem State.not_inPulsing_restart (s : State) (b : BankId) : ¬ s.restart.inPulsing b := by
  rintro ⟨i, ms, e⟩
  rw [State.slot_restart] at e
  cases e

theorem State.not_inMarking_restart (s : State) (b : BankId) : ¬ s.restart.inMarking b := by
  rintro ⟨i, e⟩
  rw [State.slot_restart] at e
  cases e

theorem State.not_holder_restart (s : State) (m : ManId) (h : HallId) : ¬ s.restart.holder m = some h := by
  rw [State.holder, State.man_restart]
  simp [ManState.holder]

theorem State.not_taken_restart (s : State) (b : BankId) (h : HallId) :
    ¬ s.restart.bank b = .reserved h ∧ ¬ s.restart.bank b = .firing h := by
  rw [State.bank_restart]
  split <;> simp

theorem State.hallLaw_restart (s : State) (h : HallId) : s.restart.HallLaw h := by
  have st := State.hallState_restart s h
  have inc := State.inc_restart s h
  refine ⟨?_, fun b e => absurd e (State.not_taken_restart s b h).1, fun b e => absurd e (State.not_taken_restart s b h).2,
    fun m e => absurd e (State.not_holder_restart s m h), ⟨fun k => ?_, fun k => ?_, fun k => ?_⟩, fun k => ?_, ?_⟩
  · rw [st]
    exact ⟨fun k => absurd k List.not_mem_nil, fun k => absurd k (by simp)⟩
  · simp [st] at k
  · simp [st] at k
  · simp [st] at k
  · rw [State.hall_restart] at k
    exact absurd k (by decide)
  · rw [inc]
    exact List.nodup_nil

theorem State.queueLaw_restart (s : State) : s.restart.queueLaw := by
  refine ⟨List.nodup_nil, fun b => ⟨fun k => ?_, fun k => ?_⟩⟩
  · obtain ⟨h, e⟩ := k
    exact absurd e (State.not_taken_restart s b h).2
  · exact absurd k (not_or.2 ⟨List.not_mem_nil, State.not_inMarking_restart s b⟩)

theorem State.markLaw_restart (s : State) : s.restart.MarkLaw := by
  refine ⟨fun b e => ?_, fun b p => absurd p (State.not_inPulsing_restart s b),
    ⟨fun b => ⟨fun k => absurd k (State.not_inMarking_restart s b), fun k => ?_⟩, List.nodup_nil, fun b k => ?_⟩, fun b => ?_⟩
  · exact absurd ((PerBank.get_fill false b).symm.trans e) Bool.false_ne_true
  · exact k.elim (fun x => absurd x (by simp [State.restart])) fun x => absurd x List.not_mem_nil
  · exact absurd k (by simp [State.restart])
  · rw [State.bank_restart]
    show _ ↔ s.nvSpent.get b = true ∧ ¬ none = some (StoreWrite.clearMark b)
    by_cases k : s.nvSpent.get b = true <;> simp [k]

theorem State.storeLaw_restart (s : State) : s.restart.storeLaw := ⟨rfl, fun _ => rfl⟩

/-- After a restart the laws of the tables hold, where no preference list of the store names a bank twice. -/
theorem State.sound_restart (full : Prop) (s : State) (pref : ∀ h, (s.nvPlan.halls.get h).preference.Nodup) :
    s.restart.Sound full :=
  ⟨List.Pairwise.nil, State.hallLaw_restart s, State.queueLaw_restart s,
    fun b p => absurd p (State.not_inPulsing_restart s b), fun h => ⟨pref h, pref h⟩, State.storeLaw_restart s,
    fun _ => State.markLaw_restart s⟩

/-! ## Time -/

theorem Slot.bank_tick (x : Slot) : x.tick.bank = x.bank := by cases x <;> rfl

theorem Slot.tick_marking_iff (x : Slot) (b : BankId) : x.tick = .marking b ↔ x = .marking b := by
  cases x <;> simp [Slot.tick]

theorem Slot.tick_pulsing_iff (x : Slot) (b : BankId) : (∃ ms, x.tick = .pulsing b ms) ↔ ∃ ms, x = .pulsing b ms := by
  cases x <;> simp [Slot.tick]

/-- What a millisecond leaves of a hall's record. -/
theorem Hall.tick_keeps (limit : Nat) (x : Hall) :
    (x.tick limit).inc.state = x.inc.state ∧ (x.tick limit).inc.alloc = x.inc.alloc ∧
      (x.tick limit).inc.confNumber = x.inc.confNumber ∧ (x.tick limit).discharge = x.discharge.map Timer.tick := by
  have stay : (x.tickStay limit).inc.state = x.inc.state ∧ (x.tickStay limit).inc.alloc = x.inc.alloc ∧
      (x.tickStay limit).inc.confNumber = x.inc.confNumber := by
    unfold Hall.tickStay
    split
    · unfold Hall.tickCountdown
      split
      · exact ⟨rfl, rfl, rfl⟩
      · split <;> exact ⟨rfl, rfl, rfl⟩
    · split
      · unfold Hall.tickHeld
        split
        · exact ⟨rfl, rfl, rfl⟩
        · split <;> exact ⟨rfl, rfl, rfl⟩
      · exact ⟨rfl, rfl, rfl⟩
  exact ⟨stay.1, stay.2.1, stay.2.2, rfl⟩

theorem State.Sound.advance {full : Prop} {s : State} (w : s.Sound full) : s.advance.Sound full := by
  have hall : ∀ h, s.advance.hall h = (s.hall h).tick (10 * (s.hallPlan h).holdLimit) := fun h => PerHall.get_mapId _ _ _
  have slot : ∀ i, s.advance.slots.get i = (s.slots.get i).tick := fun i => PerSlot.get_mapId _ _ _
  have pulsing : ∀ b, s.advance.inPulsing b ↔ s.inPulsing b := fun b =>
    exists_congr fun i => by rw [slot]; exact Slot.tick_pulsing_iff _ b
  refine w.of_same ⟨⟨fun _ => rfl, fun m => ?_, fun _ => rfl, fun h => ?_, fun h => ?_, fun h => ?_, fun h => ?_, rfl,
    fun b => (pulsing b).1⟩, rfl, ?_, fun b => ?_, fun b => (pulsing b).2⟩ ⟨rfl, rfl, rfl, rfl, rfl, rfl⟩
  · have man : s.advance.man m = { s.man m with timer := (s.man m).timer.tick } := PerMan.get_mapId _ s.mans m
    rw [man]
  · rw [State.hallState, show s.advance.inc h = _ from congrArg Hall.inc (hall h)]
    exact (Hall.tick_keeps _ _).1
  · rw [show s.advance.inc h = _ from congrArg Hall.inc (hall h)]
    unfold Incident.allocBanks
    rw [(Hall.tick_keeps _ _).2.1]
    rfl
  · rw [show s.advance.inc h = _ from congrArg Hall.inc (hall h)]
    exact (Hall.tick_keeps _ _).2.2.1
  · rw [hall, (Hall.tick_keeps _ _).2.2.2, Option.isSome_map]
    exact Or.inl
  · unfold State.slotBanks
    rw [slot, slot, Slot.bank_tick, Slot.bank_tick]
  · exact exists_congr fun i => by rw [slot]; exact Slot.tick_marking_iff _ b

theorem State.Sound.takeManifoldTimer {full : Prop} {s : State} (w : s.Sound full) (m : ManId) :
    (s.takeManifoldTimer m).Sound full := by
  unfold State.takeManifoldTimer
  cases (s.man m).timer with
  | stopped => exact w
  | selector _ => exact w.takeSelectorTimeout m
  | flow _ => exact w.takeFlowTimeout m
  | vent _ => exact w.takeVentExpiry m

theorem State.Sound.takeTimed {full : Prop} {s : State} (w : s.Sound full) (e : Timed) :
    (s.takeTimed e).Sound full := by
  cases e with
  | silence h => exact w.takeSilence h
  | countdown h => exact w.takeCountdownExpiry h
  | budget h => exact w.takeBudgetOverride h
  | waitLimit h => exact w.takeWaitLimit h
  | discharge h => exact w.takeDischargeExpiry h
  | manifold m => exact w.takeManifoldTimer m
  | pulse i => exact w.takePulseEnd i
  | gap p => exact w.of_core (State.core_takeGap s p)

/-- An idle millisecond keeps the laws. -/
theorem State.Sound.tick {full : Prop} {s : State} (w : s.Sound full) : s.tick.Sound full := by
  unfold State.tick
  dsimp only
  have ran : (s.advance.spendChoices (choicesFor s.advance.dueEvents)).Sound full := w.advance.of_core rfl
  refine State.Sound.foldl (fun t e k => ?_) ran _
  unfold State.takeIfDue
  split
  · exact State.Sound.asEvent (k.takeTimed e)
  · exact k

/-! ## Every step -/

/-- Every command keeps the laws. -/
theorem State.Sound.exec {full : Prop} {s t : State} (w : s.Sound full) {c : Instr} (e : exec c s = .next t) :
    t.Sound full := by
  cases c <;> obtain rfl := Host.Outcome.next.inj e
  case restart => exact State.sound_restart full s fun h => (w.preferences h).2
  case frameBadCrc p => exact w.of_core (State.core_takeBadCrc s p)
  case frameOverlength p => exact w.of_core (State.core_takeOverlength s p)
  case frameGap p => exact w.of_core (State.core_takeGap s p)
  case responseEnd p => exact w.of_core (State.core_takeResponseEnd s p)
  case silenceTimerExpiry h => exact State.Sound.asEvent (w.takeSilence h)
  case countdownExpiry h => exact State.Sound.asEvent (w.takeCountdownExpiry h)
  case budgetOverride h => exact State.Sound.asEvent (w.takeBudgetOverride h)
  case waitLimitElapsing h => exact State.Sound.asEvent (w.takeWaitLimit h)
  case selectorTimeout m => exact State.Sound.asEvent (w.takeSelectorTimeout m)
  case flowTimeout m => exact State.Sound.asEvent (w.takeFlowTimeout m)
  case dischargePeriodExpiry h => exact State.Sound.asEvent (w.takeDischargeExpiry h)
  case ventTimerExpiry m => exact State.Sound.asEvent (w.takeVentExpiry m)
  case pulseEnd i => exact State.Sound.asEvent (w.takePulseEnd i)
  case spentMarkCompletion => exact State.Sound.asEvent w.takeMarkCompletion
  case storeWriteCompletion => exact State.Sound.asEvent w.takeWriteCompletion
  case measurementInterval => exact State.Sound.asEvent w.takeInterval
  case comparatorTrip count => exact State.Sound.asEvent (w.takeTrip count)
  case counterPasses4095 => exact State.Sound.asEvent w.takeCounterPass
  case driveDwellEnd sample => exact w.takeDriveDwell sample
  case darkDwellEnd sample => exact w.takeDarkDwell sample
  case byteReceived p b => exact w.receiveByte p b
  all_goals exact w.frameArrives _ _ _ _

/-- Every step keeps the laws. -/
theorem State.Sound.step {full : Prop} {s t : State} (w : s.Sound full) (e : step s = .next t) : t.Sound full := by
  unfold Machine.step at e
  split at e
  · obtain rfl := Host.Outcome.next.inj e
    exact w.tick
  · rename_i c rest _
    have taken : ({ s with pending := rest } : State).Sound full := w.of_core rfl
    exact taken.exec e

end Sys2Proof.Machine

open Sys2Proof Sys2Proof.Machine in
/-- Settles O58: the laws of the tables, the pulses, the lists and the store are `Sound` without the marks, which every
step keeps. -/
theorem stepKeepsTableLaws : Obligations.StepKeepsTableLaws := by
  intro s t table pulsed lists store e
  exact t.sound_iff_tables.1 ((s.sound_iff_tables.2 ⟨table, pulsed, lists, store⟩).step e)

open Sys2Proof Sys2Proof.Machine in
/-- Settles O59: the laws with write-before-fire are `Sound` with the marks, which every step keeps. -/
theorem stepKeepsFireLaws : Obligations.StepKeepsFireLaws := by
  intro s t fire lists store e
  exact t.sound_iff_fire.1 ((s.sound_iff_fire.2 ⟨fire, lists, store⟩).step e)
end

section
/-! What a restart leaves: R25's table (O4), and every law of the system (O60). -/

namespace Sys2Proof.Machine

/-- The coordinator as delivered is one that has just been restarted. -/
theorem State.restart_reset : State.reset.restart = State.reset := rfl

/-! ## The laws of halls, selectors, circuits, manifolds and the matrix -/

theorem State.tableLaw_restart (s : State) : s.restart.tableLaw :=
  (s.restart.tableLaw_iff.2 ⟨List.Pairwise.nil, State.hallLaw_restart s, State.queueLaw_restart s⟩).1

theorem State.fireLaw_restart (s : State) : s.restart.fireLaw :=
  ⟨State.tableLaw_restart s, (State.markLaw_restart s).initiators,
    fun b p => absurd p (State.not_inPulsing_restart s b), (State.markLaw_restart s).marks,
    (State.markLaw_restart s).spent⟩

theorem State.pulsedLaw_restart (s : State) (b : BankId) : s.restart.pulsedLaw b :=
  fun p => absurd p (State.not_inPulsing_restart s b)

theorem State.listLaw_restart (s : State) (pref : ∀ h, (s.nvPlan.halls.get h).preference.Nodup) : s.restart.listLaw :=
  fun h => ⟨(State.hallLaw_restart s h).once, pref h, pref h⟩

theorem State.inhibitedLaw_restart (s : State) : s.restart.inhibitedLaw := by
  intro h
  rw [State.hallState_restart]
  exact ⟨fun k => by simp at k, fun k => by simp at k⟩

theorem State.holdLaw_restart (s : State) : s.restart.holdLaw := by
  intro h
  rw [State.hallState_restart]
  exact ⟨fun k => absurd rfl k, fun k => by simp at k⟩

theorem State.entryLaw_restart (s : State) : s.restart.entryLaw := by
  intro h k
  rw [State.hallState_restart] at k
  cases k

theorem State.recordLaw_restart (s : State) : s.restart.recordLaw := by
  intro h
  rw [State.hallState_restart, State.inc_restart]
  exact ⟨by decide, by decide⟩

theorem State.selectorLaw_restart (s : State) : s.restart.selectorLaw := by
  intro m h
  rw [State.selector_restart]
  exact ⟨fun k => absurd k Bool.false_ne_true, fun k => absurd k Bool.false_ne_true⟩

theorem State.bankCircuit_restart (s : State) (b : BankId) : s.restart.bankCircuits.get b = Circuit.fresh :=
  PerBank.get_fill _ b

theorem State.selCircuit_restart (s : State) (m : ManId) (h : HallId) :
    (s.restart.selCircuits.get m).get h = circuitAfterRestart ((s.nvPlan.mans.get m).reach.get h) := by
  show ((s.nvPlan.mans.mapId fun _ (r : ManPlan) => r.reach.mapId fun _ on => circuitAfterRestart on).get m).get h = _
  rw [PerMan.get_mapId, PerHall.get_mapId]

theorem State.drivenLaw_restart (s : State) : s.restart.drivenLaw := by
  refine ⟨fun b => ?_, fun m h x e => ?_⟩
  · rw [State.bankCircuit_restart]
    exact (PerBank.get_fill false b).symm
  · rw [State.selCircuit_restart] at e
    rw [State.selector_restart]
    unfold circuitAfterRestart at e
    split at e
    · cases e
      rfl
    · cases e

theorem State.manifoldLaw_restart (s : State) : s.restart.manifoldLaw := by
  intro m
  rw [State.man_restart]
  rfl

theorem State.contact_restart (s : State) (d r : Line) :
    s.restart.contact d r = { raw := false, debounced := false, count := 0 } := by
  show (((PerLine.fill (PerLine.fill _)).get d).get r : Contact) = _
  rw [PerLine.get_fill, PerLine.get_fill]

theorem State.return_restart (s : State) (r : Line) : s.restart.returns.get r = { faulted := false, clean := 0 } :=
  PerLine.get_fill _ r

theorem State.matrixLaw_restart (s : State) : s.restart.matrixLaw := by
  refine ⟨fun d r => ?_, fun r => ?_⟩
  · rw [State.contact_restart]
    exact ⟨Nat.zero_le 2, fun _ => ⟨rfl, rfl⟩, fun _ => rfl⟩
  · rw [State.return_restart]
    exact Nat.zero_le 2

theorem exec_restart (s : State) : exec .restart s = .next s.restart := rfl

end Sys2Proof.Machine

open Sys2Proof Sys2Proof.Machine in
/-- Settles O60: the delivered state is itself one that was just restarted, and after a restart nothing is under way. -/
theorem restartSatisfiesLaws : Obligations.RestartSatisfiesLaws := by
  have laws (s : State) :
      s.restart.waitListLaw ∧ s.restart.inhibitedLaw ∧ s.restart.holdLaw ∧ s.restart.entryLaw ∧ s.restart.recordLaw ∧
      s.restart.storeLaw ∧ s.restart.selectorLaw ∧ s.restart.drivenLaw ∧ s.restart.manifoldLaw ∧ s.restart.matrixLaw ∧
      s.restart.fireLaw ∧ (∀ b, s.restart.pulsedLaw b) ∧
      ((∀ h, (s.nvPlan.halls.get h).preference.Nodup) → s.restart.listLaw) :=
    ⟨(State.tableLaw_restart s).1, State.inhibitedLaw_restart s, State.holdLaw_restart s, State.entryLaw_restart s,
      State.recordLaw_restart s, State.storeLaw_restart s, State.selectorLaw_restart s, State.drivenLaw_restart s,
      State.manifoldLaw_restart s, State.matrixLaw_restart s, State.fireLaw_restart s, State.pulsedLaw_restart s,
      State.listLaw_restart s⟩
  have delivered (h : HallId) : (State.reset.nvPlan.halls.get h).preference.Nodup := by
    rw [show State.reset.nvPlan.halls.get h = _ from PerHall.get_fill _ h]
    exact List.nodup_singleton _
  refine ⟨?_, fun s t e => ?_⟩
  · obtain ⟨waits, inhibited, hold, entry, record, store, selector, driven, manifold, matrix, fire, pulsed, lists⟩ :=
      laws State.reset
    rw [State.restart_reset] at *
    exact ⟨waits, inhibited, hold, entry, record, store, selector, driven, manifold, matrix, fire, lists delivered, pulsed⟩
  · rw [exec_restart] at e
    cases e
    exact laws s

open Sys2Proof Sys2Proof.Machine in
/-- Settles O4, line by line of R25's table. -/
theorem restartSetsTables : Obligations.RestartSetsTables := by
  intro s
  refine ⟨s.restart, exec_restart s, fun b => ⟨rfl, rfl, State.bank_restart s b, ?_, rfl, ?_, ?_⟩, rfl,
    fun m => ⟨rfl, ?_, ?_, ?_⟩,
    fun h => ⟨rfl, State.hallState_restart s h⟩, rfl, fun b => PerBank.get_fill false b, fun m h => ?_⟩
  · rw [State.bank_restart]
    split <;> rfl
  · exact ⟨Circuit.fresh, congrArg some (State.bankCircuit_restart s b), rfl⟩
  · show (s.restart.contact _ _).debounced = false
    rw [State.contact_restart]
  · rw [State.man_restart]
  · rw [State.holder, State.man_restart]
    rfl
  · rw [State.man_restart]
  · rw [State.selector_restart]
end

section
/-! What an event leaves of its effect: everything but the change numbers of the records that changed (R63); and the end of
the discharge period (O35). -/

namespace Sys2Proof.Machine

/-! ## The change numbers (R63) -/

/-- An effect is an event through the state it leads to alone. -/
theorem State.asEvent_eq {s u : State} {f : State → State} (e : f s = u) : s.asEvent f = State.countChanges s u :=
  congrArg (State.countChanges s) e

theorem State.countChanges_eq (s u : State) :
    State.countChanges s u = { u with halls := (State.countChanges s u).halls } := rfl

/-- An event that changes a hall's record advances its change number. -/
theorem State.hall_countChanges_of_changed {s u : State} {h : HallId} (n : ¬ (s.inc h).content = (u.inc h).content) :
    (State.countChanges s u).hall h =
      { u.hall h with inc := { u.inc h with change := (u.inc h).change + 1 } } :=
  (State.hall_countChanges s u h).trans (if_neg n)

theorem State.hall_countChanges_of_same {s u : State} {h : HallId} (e : u.hall h = s.hall h) :
    (State.countChanges s u).hall h = s.hall h := by
  rw [State.hall_countChanges, e, Hall.countChange_same]

theorem State.content_ne_of_state {s t : State} {h : HallId} (n : ¬ t.hallState h = s.hallState h) :
    ¬ (s.inc h).content = (t.inc h).content :=
  fun e => n (congrArg Incident.state e).symm

/-! ## The end of the discharge period (R124) -/

/-- The end of the discharge period writes the manifold table and the records alone. -/
theorem State.soaked_eq (s : State) (h : HallId) :
    s.soaked h = { s with mans := (s.soaked h).mans, halls := (s.soaked h).halls } := by
  have vent (u : State) (m : ManId) : ∃ mans halls, u.ventManifold h m = { u with mans := mans, halls := halls } := by
    rw [State.ventManifold_eq]
    split
    · exact ⟨_, _, rfl⟩
    · exact ⟨_, _, rfl⟩
  obtain ⟨mans1, halls1, first⟩ := vent (s.modHall h Hall.soaks) .m1
  obtain ⟨mans2, halls2, second⟩ := vent ((s.modHall h Hall.soaks).ventManifold h .m1) .m2
  rw [State.soaked, second, first]
  rfl

end Sys2Proof.Machine

open Sys2Proof Sys2Proof.Machine in
/-- Settles O35: the state `State.soaked`, with the hall's change number advanced since its state changed. -/
theorem dischargeExpiryVentsManifolds : Obligations.DischargeExpiryVentsManifolds := by
  refine ⟨fun h s none => ?_, fun h x s st timer => ?_⟩
  · refine congrArg Host.Outcome.next (State.asEvent_of_same s _ ?_)
    rw [State.takeDischargeExpiry_eq, if_neg fun k => by simp [none] at k]
  · have effect : s.takeDischargeExpiry h = s.soaked h := if_pos ⟨st, by rw [timer]; rfl⟩
    obtain ⟨missed, hall, flow⟩ := State.hall_soaked s h
    have inc := congrArg Hall.inc hall
    have moved : ¬ (s.soaked h).hallState h = s.hallState h := fun e => by
      have := (congrArg Incident.state inc).symm.trans (e.trans st)
      cases this
    have event := State.hall_countChanges_of_changed (State.content_ne_of_state moved)
    rw [show (s.soaked h).inc h = _ from inc, hall] at event
    have others : State.countChanges s (s.soaked h) =
        { s with mans := (s.soaked h).mans, halls := (State.countChanges s (s.soaked h)).halls } := by
      rw [State.countChanges_eq, State.soaked_eq]
    refine ⟨State.countChanges s (s.soaked h), congrArg Host.Outcome.next (State.asEvent_eq effect), by rw [event], ?_, ?_,
      State.man_soaked s h, fun g n => State.hall_countChanges_of_same (State.hall_soaked_other s fun e => n e.symm), ?_⟩
    · rw [show (State.countChanges s (s.soaked h)).inc h = _ from congrArg Hall.inc event]
    · rw [show (State.countChanges s (s.soaked h)).inc h = _ from congrArg Hall.inc event]
      exact flow
    · rw [others]
      exact ⟨rfl, rfl, rfl, rfl, rfl, rfl, rfl, rfl, rfl⟩
end

section
/-! The completion of a spent mark (O38). -/

namespace Sys2Proof.Machine

/-- An event that leaves every record alone is its effect (R63). -/
theorem State.countChanges_of_halls {s u : State} (e : u.halls = s.halls) : State.countChanges s u = u := by
  unfold State.countChanges
  rw [PerHall.mapId_id]
  intro h
  rw [e]
  exact Hall.countChange_same _

theorem State.takeMarkCompletion_of_none {s : State} (n : ∀ b, ¬ s.write = some (.setMark b)) :
    s.takeMarkCompletion = s := by
  unfold State.takeMarkCompletion
  split
  · rename_i b e
    exact absurd e (n b)
  · rfl

/-- A mark that completes begins the pulse of its bank in the slot where the bank awaits it (R118). -/
theorem State.takeMarkCompletion_of_marking {s : State} {b : BankId} {i : SlotId} (e : s.write = some (.setMark b))
    (m : s.slots.get i = .marking b) (one : ∀ j, s.slots.get j = .marking b → j = i) :
    s.takeMarkCompletion = (s.stored (.setMark b)).pulsed b i := by
  have begun : s.takeMarkCompletion = (s.stored (.setMark b)).pulseBegins b := by
    unfold State.takeMarkCompletion
    rw [e]
    exact congrArg (fun u => State.pulseBegins u b) (State.completeWrite_eq e)
  obtain ⟨n, -⟩ | ⟨j, at_j, -, r⟩ := State.pulseBegins_cases (s.stored (.setMark b)) b
  · exact absurd ⟨i, m⟩ n
  · rw [begun, r, one j at_j]

end Sys2Proof.Machine

open Sys2Proof Sys2Proof.Machine in
/-- Settles O38: the state `State.pulsed` on the completed write. -/
theorem spentMarkCompletionFiresBank : Obligations.SpentMarkCompletionFiresBank := by
  refine ⟨fun s n => congrArg Host.Outcome.next (State.asEvent_of_same s _ (State.takeMarkCompletion_of_none n)),
    fun i b s e m one => ?_⟩
  have event : s.asEvent State.takeMarkCompletion = (s.stored (.setMark b)).pulsed b i :=
    (State.asEvent_eq (State.takeMarkCompletion_of_marking e m one)).trans (State.countChanges_of_halls rfl)
  refine ⟨(s.stored (.setMark b)).pulsed b i, congrArg Host.Outcome.next event, rfl, rfl, rfl, rfl, ?_, rfl, rfl, rfl, rfl,
    rfl, ?_, fun n => ?_, rfl, rfl, rfl, rfl, rfl, rfl, rfl⟩
  · show s.markQueue.head?.map StoreWrite.setMark = _
    cases s.markQueue <;> rfl
  · show s.measuring.filter (fun x => !(x.circuit == .bank b)) = _
    cases s.measuring with
    | none => rfl
    | some x => by_cases k : x.circuit = .bank b <;> simp [k]
  · by_cases k : n = s.manifoldOf b
    · subst k
      refine (State.man_pulsed_same (s.stored (.setMark b)) b i).trans ?_
      show (s.man (s.manifoldOf b)).charged (s.manPlan (s.manifoldOf b)).flowTimeout = _
      cases c : (s.man (s.manifoldOf b)).state <;> simp [Manifold.charged, c]
    · refine (State.man_pulsed_other (s.stored (.setMark b)) b i fun x => k x.symm).trans ?_
      show s.man n = _
      split
      · rw [if_neg k]
      · rfl
end

section
/-! What a re-examination leaves: only waiting halls act (R80), and a bank or a manifold either stays or goes to one of
them. An event that ends with a re-examination, and the answer to a request of the station that is such an event. -/

namespace Sys2Proof.Machine

/-! ## One attempt -/

/-- What holds before a re-examination and is kept by every attempt for a waiting hall holds after it (R80). -/
theorem State.reexamine_induct {P : State → Prop} {s : State} (start : P s)
    (attempt : ∀ u h guarded, h ∈ s.waitList → P u → P (u.attempt h guarded).1) : P s.reexamine := by
  have walk (l : List HallId) (sub : ∀ h, h ∈ l → h ∈ s.waitList) :
      ∀ guarded u, P u → P (State.walkHalls l guarded u) := by
    induction l with
    | nil => exact fun _ _ p => p
    | cons h rest ih =>
      intro guarded u p
      exact ih (fun g k => sub g (List.mem_cons_of_mem h k)) _ _ (attempt u h guarded (sub h List.mem_cons_self) p)
  exact walk s.waitList (fun _ => id) [] s start

/-- The state after an attempt, succeeded or failed (R68, R69). -/
theorem State.attempt_fst (s : State) (h : HallId) (guarded : List BankId) :
    (s.attempt h guarded).1 = s.succeeded h (s.attemptTakes h guarded) ∨
    (s.attempt h guarded).1 = s.withComputation h := by
  obtain ⟨-, e⟩ | ⟨-, e⟩ := State.attempt_cases s h guarded
  · exact Or.inl (congrArg Prod.fst e)
  · exact Or.inr (congrArg Prod.fst e)

theorem State.change_attempt (s : State) (h : HallId) (guarded : List BankId) (g : HallId) :
    ((s.attempt h guarded).1.inc g).change = (s.inc g).change := by
  by_cases n : h = g
  · subst n
    obtain e | e := State.attempt_fst s h guarded <;> rw [e]
    · rw [State.inc_succeeded, State.committed_eq]
      rfl
    · rw [State.inc, State.withComputation, State.hall, PerHall.get_set_same]
  · exact congrArg (fun x : Hall => x.inc.change) (State.hall_attempt_other s guarded n)

/-- A bank stays as it is in an attempt, or is reserved to its hall (R68). -/
theorem State.bank_attempt (s : State) (h : HallId) (guarded : List BankId) (b : BankId) :
    (s.attempt h guarded).1.bank b = s.bank b ∨ (s.attempt h guarded).1.bank b = .reserved h := by
  obtain e | e := State.attempt_fst s h guarded <;> rw [e]
  · rw [State.bank_succeeded]
    split
    · exact Or.inr rfl
    · exact Or.inl rfl
  · exact Or.inl rfl

/-- A manifold stays as it is in an attempt, or is held by its hall, FREE or CLAIMED by it before (R68, R108). -/
theorem State.man_attempt (s : State) (h : HallId) (guarded : List BankId) (m : ManId) :
    (s.attempt h guarded).1.man m = s.man m ∨
    (((s.man m).state = .free ∨ (s.man m).state = .claimed h) ∧ (s.attempt h guarded).1.holder m = some h) := by
  obtain e | e := State.attempt_fst s h guarded <;> rw [e]
  · obtain ⟨claimed, other⟩ := State.man_succeeded s h (s.attemptTakes h guarded) m
    by_cases c : s.claimedWith h (s.attemptTakes h guarded) m
    · refine Or.inr ⟨c.elim Or.inr fun k => Or.inl k.1, ?_⟩
      refine (congrArg (fun x : Manifold => x.state.holder) (claimed c)).trans ?_
      split <;> rfl
    · exact Or.inl (other c)
  · exact Or.inl rfl

/-- An attempt touches no selector of another hall and no circuit of one (R108, R133). -/
theorem State.selector_attempt_other (s : State) {h g : HallId} (guarded : List BankId) (m : ManId) (n : ¬ h = g) :
    (s.attempt h guarded).1.selector m g = s.selector m g ∧
    ((s.attempt h guarded).1.selCircuits.get m).get g = (s.selCircuits.get m).get g := by
  obtain e | e := State.attempt_fst s h guarded <;> rw [e]
  · obtain ⟨on, off⟩ := State.selectors_succeeded s h (s.attemptTakes h guarded) m
    unfold State.selector
    by_cases c : s.claimedWith h (s.attemptTakes h guarded) m ∧
        (s.succeeded h (s.attemptTakes h guarded)).hallState h = .selecting
    · obtain ⟨sel, cir⟩ := on c
      refine ⟨(congrArg (fun x => PerHall.get x g) sel).trans ?_, (congrArg (fun x => PerHall.get x g) cir).trans ?_⟩
      · exact PerHall.get_set_other _ _ n
      · exact PerHall.get_set_other _ _ n
    · obtain ⟨sel, cir⟩ := off c
      exact ⟨congrArg (fun x => PerHall.get x g) sel, congrArg (fun x => PerHall.get x g) cir⟩
  · exact ⟨rfl, rfl⟩

/-! ## One re-examination -/

theorem State.change_reexamine (s : State) (g : HallId) : (s.reexamine.inc g).change = (s.inc g).change :=
  State.reexamine_induct (P := fun u => (u.inc g).change = (s.inc g).change) rfl
    fun u h guarded _ p => (State.change_attempt u h guarded g).trans p

theorem State.bank_reexamine (s : State) (b : BankId) :
    s.reexamine.bank b = s.bank b ∨ ∃ g, g ∈ s.waitList ∧ s.reexamine.bank b = .reserved g :=
  State.reexamine_induct (P := fun u => u.bank b = s.bank b ∨ ∃ g, g ∈ s.waitList ∧ u.bank b = .reserved g) (Or.inl rfl)
    fun u h guarded k p => by
      obtain e | e := State.bank_attempt u h guarded b
      · rw [e]
        exact p
      · exact Or.inr ⟨h, k, e⟩

theorem State.man_reexamine (s : State) (m : ManId) :
    s.reexamine.man m = s.man m ∨ ∃ g, g ∈ s.waitList ∧ s.reexamine.holder m = some g :=
  State.reexamine_induct (P := fun u => u.man m = s.man m ∨ ∃ g, g ∈ s.waitList ∧ u.holder m = some g) (Or.inl rfl)
    fun u h guarded k p => by
      obtain e | ⟨-, e⟩ := State.man_attempt u h guarded m
      · rw [State.holder, e]
        exact p
      · exact Or.inr ⟨h, k, e⟩

theorem State.selector_reexamine_other (s : State) (m : ManId) {g : HallId} (n : ¬ g ∈ s.waitList) :
    s.reexamine.selector m g = s.selector m g ∧
    (s.reexamine.selCircuits.get m).get g = (s.selCircuits.get m).get g :=
  State.reexamine_induct
    (P := fun u => u.selector m g = s.selector m g ∧ (u.selCircuits.get m).get g = (s.selCircuits.get m).get g)
    ⟨rfl, rfl⟩ fun u h guarded k p => by
      obtain ⟨sel, cir⟩ := State.selector_attempt_other u (h := h) (g := g) guarded m fun e => n (e ▸ k)
      exact ⟨sel.trans p.1, cir.trans p.2⟩

/-- A re-examination enters no hall in the wait list (R77, R80). -/
theorem State.mem_waitList_of_reexamine {s : State} {g : HallId} (k : g ∈ s.reexamine.waitList) : g ∈ s.waitList :=
  State.reexamine_induct (P := fun u => g ∈ u.waitList → g ∈ s.waitList) id
    (fun u h guarded _ p => by
      obtain e | e := State.attempt_fst u h guarded <;> rw [e]
      · rw [State.waitList_succeeded]
        exact fun k => p (List.mem_of_mem_filter k)
      · exact p) k

/-! ## An event that ends with a re-examination (R63, R79) -/

theorem Hall.countChange_eq {old new : Hall} (e : new.inc.change = old.inc.change) :
    old.countChange new =
      { new with
        inc :=
          { new.inc with
            change :=
              old.inc.change + if { new.inc with change := 0 } = { old.inc with change := 0 } then 0 else 1 } } := by
  unfold Hall.countChange Incident.content
  by_cases c : { old.inc with change := 0 } = { new.inc with change := 0 }
  · rw [if_pos c, if_pos c.symm, ← e]
    simp
  · rw [if_neg c, if_neg fun k => c k.symm, ← e]

/-- State `t` is what the event from `s` to `v` leaves: the change numbers advanced, and the answer at the station's port
where it was a request (R63, R159). -/
structure State.Event (s v t : State) : Prop where
  halls : t.halls = (State.countChanges s v).halls
  rest : t = { v with halls := t.halls, stationPort := t.stationPort }

theorem State.event_countChanges (s v : State) : State.Event s v (State.countChanges s v) := ⟨rfl, rfl⟩

theorem State.event_send (s v : State) (frame : List Byte) :
    State.Event s v ((State.countChanges s v).send .station frame) := ⟨rfl, rfl⟩

theorem State.Event.hall {s v t : State} (e : State.Event s v t) (g : HallId) :
    t.hall g = (s.hall g).countChange (v.hall g) := by
  rw [← State.hall_countChanges]
  exact congrArg (fun x => PerHall.get x g) e.halls

theorem State.Event.bank {s v t : State} (e : State.Event s v t) (b : BankId) : t.bank b = v.bank b :=
  (congrArg (fun x => State.bank x b) e.rest).trans rfl

theorem State.Event.man {s v t : State} (e : State.Event s v t) (m : ManId) : t.man m = v.man m :=
  (congrArg (fun x => State.man x m) e.rest).trans rfl

theorem State.Event.selectors {s v t : State} (e : State.Event s v t) : t.selectors = v.selectors :=
  (congrArg State.selectors e.rest).trans rfl

theorem State.Event.hall_of_same {s v t : State} (e : State.Event s v t) {g : HallId} (same : v.hall g = s.hall g) :
    t.hall g = s.hall g := by
  rw [e.hall, same, Hall.countChange_same]

/-- An event leaves of a record what its effect made of it, but for the change number. -/
theorem State.Event.hall_but_change {s v t : State} (e : State.Event s v t) (g : HallId) :
    ∃ n, t.hall g = { v.hall g with inc := { v.inc g with change := n } } := by
  have counted := e.hall g
  unfold Hall.countChange at counted
  split at counted
  · exact ⟨_, counted⟩
  · exact ⟨_, counted⟩

/-- An event that changes a record advances its change number. -/
theorem State.Event.hall_of_changed {s v t : State} (e : State.Event s v t) {g : HallId}
    (n : ¬ (s.inc g).content = (v.inc g).content) :
    t.hall g = { v.hall g with inc := { v.inc g with change := (v.inc g).change + 1 } } :=
  (e.hall g).trans (if_neg n)

/-- An event that leaves the change numbers alone until a re-examination ends it (R63, R79). -/
theorem State.Event.thenReexamined {s u t : State} (e : State.Event s u.reexamine t)
    (change : ∀ g, (u.inc g).change = (s.inc g).change) : s.thenReexamined u t :=
  ⟨u.reexamine, State.reexaminedTo_reexamine u, e.rest, fun g =>
    (e.hall g).trans (Hall.countChange_eq ((State.change_reexamine u g).trans (change g)))⟩

/-! ## The answer to a request of the station (R159, R160) -/

/-- The arrival of a well-formed request that its owner takes or refuses for a reason of its own. -/
theorem State.frameArrives_carriedOut {s t : State} {p : Port} {k : Kind} {r : Request} {a : Answer} (seq : Byte)
    {payload : List Byte} (ready : s.portReady p) (fits : payload.length ≤ Config.maxPayload)
    (permitted : k.permitted p = true) (link : s.linkAllows k p = true)
    (request : requestOf (s.declaredCount p) k payload = some r) (owner : s.carryOut p r = (t, a))
    (n : ¬ a = .refused .invalid) :
    s.frameArrives p k.code seq payload =
      (State.countChanges s t).send p ((State.countChanges s t).responseFrame k.code seq a) := by
  rw [State.frameArrives_ready s k.code seq ready fits]
  exact State.processFrame_of_respond s seq ((State.respond_admitted s permitted link request).trans owner) n

/-- A refusal by the owner changes nothing. -/
theorem State.frameArrives_refused {s : State} {k : Kind} {r : Request} {c : RefusalCode} (seq : Byte)
    {payload : List Byte} (ready : s.portReady .station) (fits : payload.length ≤ Config.maxPayload)
    (permitted : k.permitted .station = true) (request : requestOf 0 k payload = some r)
    (owner : s.carryOut .station r = (s, .refused c)) (n : ¬ c = .invalid) :
    s.frameArrives .station k.code seq payload = s.send .station (refusedFrame k.code seq c) := by
  rw [State.frameArrives_carriedOut seq ready fits permitted rfl request owner fun e => n (Answer.refused.inj e),
    State.countChanges_of_halls rfl]
  rfl

/-- An acceptance without a report. -/
theorem State.frameArrives_accepted {s t : State} {k : Kind} {r : Request} (seq : Byte)
    {payload : List Byte} (ready : s.portReady .station) (fits : payload.length ≤ Config.maxPayload)
    (permitted : k.permitted .station = true) (request : requestOf 0 k payload = some r)
    (owner : s.carryOut .station r = (t, .accepted)) :
    s.frameArrives .station k.code seq payload =
      (State.countChanges s t).send .station (acceptedFrame k.code seq []) :=
  State.frameArrives_carriedOut seq ready fits permitted rfl request owner (by simp)

end Sys2Proof.Machine
end

section
/-! Isolation of a bank (O24) and the recharge (O27). -/

namespace Sys2Proof.Machine

/-! ## The payloads of the station's requests on banks and halls (R174) -/

theorem requestOf_isolate_bank (n : Nat) (b : BankId) :
    requestOf n .isolate [2, byteOf b.num] = some (.isolate (.bank b)) := by cases b <;> rfl

theorem requestOf_isolate_hall (n : Nat) (h : HallId) :
    requestOf n .isolate [1, byteOf h.num] = some (.isolate (.hall h)) := by cases h <;> rfl

theorem requestOf_deisolate_bank (n : Nat) (b : BankId) :
    requestOf n .deisolate [2, byteOf b.num] = some (.deisolate (.bank b)) := by cases b <;> rfl

theorem requestOf_deisolate_hall (n : Nat) (h : HallId) :
    requestOf n .deisolate [1, byteOf h.num] = some (.deisolate (.hall h)) := by cases h <;> rfl

theorem requestOf_recharged (n : Nat) (b : BankId) :
    requestOf n .recharged [byteOf b.num] = some (.recharged b) := by cases b <;> rfl

/-! ## The store, busy and idle -/

theorem State.storeBusy_of_writing {s : State} (e : s.write.isSome = true ∨ ¬ s.markQueue = []) : s.storeBusy = true := by
  cases c : s.storeBusy with
  | true => rfl
  | false =>
    obtain ⟨none, empty⟩ := s.storeBusy_iff.1 c
    simp [none, empty] at e

theorem State.storeBusy_of_idle {s : State} (none : s.write = none) (empty : s.markQueue = []) : s.storeBusy = false :=
  s.storeBusy_iff.2 ⟨none, empty⟩

/-! ## What a re-examination that ends an event keeps -/

theorem State.outsideKept_of_still {s t : State} (e : t.still = s.still) : s.outsideKept t := by
  obtain ⟨outer, -, -, conf, -⟩ := (State.still_iff s t).1 e
  refine ⟨State.nvPlan_of_outer outer, State.nvSpent_of_outer outer, State.overlay_of_outer outer, conf, ?_,
    State.links_of_outer outer, State.hallPorts_of_outer outer⟩
  unfold State.scannerPart
  rw [State.contacts_of_outer outer, State.returns_of_outer outer, State.scan_of_outer outer]

theorem State.outsideKept_reexamine {s u : State} (k : s.outsideKept u) : s.outsideKept u.reexamine := by
  obtain ⟨a1, a2, a3, a4, a5, a6, a7⟩ := k
  obtain ⟨b1, b2, b3, b4, b5, b6, b7⟩ := State.outsideKept_of_still (State.still_reexamine u)
  exact ⟨b1.trans a1, b2.trans a2, b3.trans a3, b4.trans a4, b5.trans a5, b6.trans a6, b7.trans a7⟩

theorem State.hall_reexamined_other {s u : State} {g : HallId} (e : u.hall g = s.hall g) (n : ¬ g ∈ u.waitList) :
    (State.countChanges s u.reexamine).hall g = s.hall g :=
  State.hall_countChanges_of_same ((State.hall_reexamine_other u n).trans e)

/-- Without a waiting hall an event that leaves the records alone is its effect. -/
theorem State.countChanges_reexamine_of_empty {s u : State} (halls : u.halls = s.halls) (e : u.waitList = []) :
    State.countChanges s u.reexamine = u := by
  rw [State.reexamine_of_empty u e, State.countChanges_of_halls halls]

/-! ## The owner's answers (R21, R23) -/

theorem BankState.inUse_iff (x : BankState) : x.inUse = true ↔ ∃ h, x = .reserved h ∨ x = .firing h := by
  cases x <;> simp [BankState.inUse, BankState.hall]

theorem State.servesHolder_iff (s : State) (b : BankId) :
    s.servesHolder b = true ↔ ∃ h, s.holder (s.manifoldOf b) = some h ∧ b ∈ (s.inc h).allocBanks := by
  unfold State.servesHolder
  cases s.holder (s.manifoldOf b) <;> simp

/-- A bank recharged: READY, and the write that clears its mark begun (R23). -/
def State.recharged (s : State) (b : BankId) : State :=
  { s with banks := s.banks.set b .ready, write := some (.clearMark b) }

theorem State.answerRecharged_eq (s : State) (b : BankId) :
    s.answerRecharged b =
      if s.storeBusy = true then (s, .refused .storeBusy)
      else if s.commissionKey = false then (s, .refused .keyRequired)
      else if ¬ s.bank b = .spent then (s, .refused .state)
      else if s.lowPressure b = true ∨ s.servesHolder b = true then (s, .refused .busy)
      else ((s.recharged b).reexamine, .accepted) := by
  unfold State.answerRecharged
  simp only [Bool.not_eq_true', beq_eq_false_iff_ne, ne_eq, Bool.or_eq_true]
  rfl

end Sys2Proof.Machine

open Sys2Proof Sys2Proof.Machine in
/-- Settles O24, by the checks of R21 in their order. -/
theorem isolateBankSetsFlag : Obligations.IsolateBankSetsFlag := by
  intro seq b s ready
  have refused (c : RefusalCode) (owner : s.answerIsolate (.bank b) = (s, .refused c)) (n : ¬ c = .invalid) :
      exec (.isolate .station seq [2, byteOf b.num]) s = .next (s.send .station (refusedFrame 0x22 seq c)) :=
    congrArg Host.Outcome.next
      (State.frameArrives_refused seq ready (Nat.le_of_ble_eq_true rfl) rfl (requestOf_isolate_bank 0 b) owner n)
  have accepted (t : State) (owner : s.answerIsolate (.bank b) = (t, .accepted)) (halls : t.halls = s.halls) :
      exec (.isolate .station seq [2, byteOf b.num]) s = .next (t.send .station (acceptedFrame 0x22 seq [])) := by
    have arrives :=
      State.frameArrives_accepted seq ready (Nat.le_of_ble_eq_true rfl) rfl (requestOf_isolate_bank 0 b) owner
    rw [State.countChanges_of_halls halls] at arrives
    exact congrArg Host.Outcome.next arrives
  refine ⟨fun busy => refused _ ?_ (by simp), fun none empty => ⟨fun h taken => refused _ ?_ (by simp), fun free => ?_⟩⟩
  · exact if_pos (State.storeBusy_of_writing busy)
  · have used := (s.bank b).inUse_iff.2 ⟨h, taken⟩
    simp [State.answerIsolate, State.storeBusy_of_idle none empty, used]
  · have unused : (s.bank b).inUse = false := by
      obtain e | e := free <;> rw [e] <;> rfl
    by_cases set : s.work.bankIsolated.get b = true
    · rw [if_pos set]
      exact accepted s (by simp [State.answerIsolate, State.storeBusy_of_idle none empty, unused, set]) rfl
    · rw [if_neg set]
      exact accepted _ (by simp [State.answerIsolate, State.storeBusy_of_idle none empty, unused, set]; rfl) rfl

open Sys2Proof Sys2Proof.Machine in
/-- Settles O27, by the checks of R23 in their order; the re-examination runs on `State.recharged`. -/
theorem rechargedReturnsBank : Obligations.RechargedReturnsBank := by
  intro seq b s ready
  have refused (c : RefusalCode) (owner : s.answerRecharged b = (s, .refused c)) (n : ¬ c = .invalid) :
      exec (.recharged .station seq [byteOf b.num]) s = .next (s.send .station (refusedFrame 0x26 seq c)) :=
    congrArg Host.Outcome.next
      (State.frameArrives_refused seq ready (Nat.le_of_ble_eq_true rfl) rfl (requestOf_recharged 0 b) owner n)
  refine ⟨fun busy => refused _ ?_ (by simp), fun none empty => ?_⟩
  · exact if_pos (State.storeBusy_of_writing busy)
  have idle := State.storeBusy_of_idle none empty
  refine ⟨fun key => refused _ ?_ (by simp), fun key live => refused _ ?_ (by simp), fun key spent =>
    ⟨fun bound => refused _ ?_ (by simp), fun pressure loose => ?_⟩⟩
  · simp [State.answerRecharged_eq, idle, key]
  · simp [State.answerRecharged_eq, idle, key, live]
  · rw [← State.servesHolder_iff] at bound
    simp [State.answerRecharged_eq, idle, key, spent, bound]
  · have serves : s.servesHolder b = false := by
      cases c : s.servesHolder b with
      | false => rfl
      | true =>
        obtain ⟨h, holds, listed⟩ := (s.servesHolder_iff b).1 c
        exact absurd listed (loose h holds)
    have owner : s.answerRecharged b = ((s.recharged b).reexamine, .accepted) := by
      simp [State.answerRecharged_eq, idle, key, spent, pressure, serves]
    have arrives : exec (.recharged .station seq [byteOf b.num]) s = _ := congrArg Host.Outcome.next
      (State.frameArrives_accepted seq ready (Nat.le_of_ble_eq_true rfl) rfl (requestOf_recharged 0 b) owner)
    have still := State.still_reexamine (s.recharged b)
    have work : (s.recharged b).reexamine.work = s.work := (State.work_of_still still).trans rfl
    have circuits : (s.recharged b).reexamine.bankCircuits = s.bankCircuits :=
      (State.bankCircuits_of_still still).trans rfl
    have outside : s.outsideKept (s.recharged b).reexamine := State.outsideKept_reexamine ⟨rfl, rfl, rfl, rfl, rfl, rfl, rfl⟩
    have write : (s.recharged b).reexamine.write = some (.clearMark b) := State.write_of_still still
    refine ⟨⟨_, arrives, work, outside, write, ?_,
      fun g n => State.hall_reexamined_other (u := s.recharged b) rfl n, circuits, rfl,
      (State.event_send s _ _).thenReexamined (u := s.recharged b) fun _ => rfl⟩, fun nobody => ?_⟩
    · obtain e | e := State.bank_reexamine (s.recharged b) b
      · exact Or.inl (e.trans (PerBank.get_set_same _ _ _))
      · exact Or.inr e
    · rw [arrives, State.countChanges_reexamine_of_empty (s := s) (u := s.recharged b) rfl nobody]
      rfl
end

section
/-! A single attempt as one event (R53, R66, R73), and the return to service (O26). -/

namespace Sys2Proof.Machine

theorem State.singleAttempt_cases (s : State) (h : HallId) :
    (s.attemptSucceeds h (s.attemptTakes h (s.protectedFrom h)) = true ∧
      s.singleAttempt h = s.succeeded h (s.attemptTakes h (s.protectedFrom h))) ∨
    (s.attemptSucceeds h (s.attemptTakes h (s.protectedFrom h)) = false ∧
      s.singleAttempt h = (s.withComputation h).enterWaiting h) := by
  unfold State.singleAttempt
  obtain ⟨ok, e⟩ | ⟨no, e⟩ := State.attempt_cases s h (s.protectedFrom h) <;> rw [e]
  · exact Or.inl ⟨ok, rfl⟩
  · exact Or.inr ⟨no, rfl⟩

theorem State.hall_withComputation (s : State) (h : HallId) :
    (s.withComputation h).hall h =
      { s.hall h with
        inc := (s.inc h).computed (s.chooseLow h) (s.chooseHigh h) (s.computeRequired h)
          (decide (s.sumOf ((s.preference h).filter fun b => !(s.bank b == .spent)) < s.computeRequired h)) } :=
  PerHall.get_set_same s.halls h _

theorem State.mem_waitList_enterWaiting (s : State) (h : HallId) : h ∈ (s.enterWaiting h).waitList := by
  rw [State.enterWaiting_eq]
  unfold State.joinWaitList
  split
  · rename_i c
    exact List.contains_iff_mem.1 c
  · obtain ⟨front, back, -, e, -⟩ :=
      insertAt_split (fun g => (s.modHall h Hall.waits).ranksBefore g h) h (s.modHall h Hall.waits).waitList
    show h ∈ insertAt _ h _
    rw [e]
    simp

/-- A single attempt states all that R66 says of it. -/
theorem State.attemptedFrom_singleAttempt (s : State) (h : HallId) : s.attemptedFrom (s.singleAttempt h) h := by
  obtain ⟨ok, e⟩ | ⟨no, e⟩ := State.singleAttempt_cases s h <;> rw [e]
  · exact ⟨State.computedFor_afterSuccess s h _, fun _ => State.allocatedTo_succeeded s h _,
      fun no => absurd (ok.symm.trans no) (by simp)⟩
  · have hall := State.hall_enterWaiting (s.withComputation h) h
    rw [State.hall_withComputation] at hall
    have inc := congrArg Hall.inc hall
    have same : s.sameIncident ((s.withComputation h).enterWaiting h) h :=
      ⟨(congrArg Incident.number inc).trans rfl, (congrArg Incident.cause inc).trans rfl,
        (congrArg Incident.confNumber inc).trans rfl, (congrArg Incident.latched inc).trans rfl,
        (congrArg Hall.clock hall).trans rfl⟩
    exact ⟨⟨congrArg Incident.required inc, congrArg Incident.tLow inc, congrArg Incident.tHigh inc, same⟩,
      fun ok => absurd (no.symm.trans ok) (by simp),
      fun _ => ⟨State.banks_enterWaiting _ h, State.mans_enterWaiting _ h, (congrArg Incident.alloc inc).trans rfl,
        congrArg Incident.state inc, State.mem_waitList_enterWaiting _ h⟩⟩

/-! ## The change number of the event -/

/-- State `t` is `u` as hall `h`'s attempt sees it, but for the hall's change number. -/
structure State.Recounted (h : HallId) (u t : State) : Prop where
  work : t.work = u.work
  banks : t.banks = u.banks
  mans : t.mans = u.mans
  selectors : t.selectors = u.selectors
  selCircuits : t.selCircuits = u.selCircuits
  measuring : t.measuring = u.measuring
  waitList : t.waitList = u.waitList
  hall : ∃ n, t.hall h = { u.hall h with inc := { u.inc h with change := n } }

theorem State.Event.recounted {s u t : State} (e : State.Event s u t) (h : HallId) : State.Recounted h u t := by
  refine ⟨?_, ?_, ?_, ?_, ?_, ?_, ?_, e.hall_but_change h⟩ <;> rw [e.rest]

theorem State.Recounted.startDelay {h : HallId} {u t : State} (e : State.Recounted h u t) :
    t.startDelay h = u.startDelay h := by
  obtain ⟨n, hall⟩ := e.hall
  have flags := congrArg (fun x : Hall => x.inc.flags.concHigh) hall
  have cause := congrArg (fun x : Hall => x.inc.cause) hall
  have manual := congrArg (fun x : Hall => x.inc.manualSeen) hall
  exact State.startDelay_congr e.work flags cause manual

theorem State.Recounted.mayHold {h : HallId} {u t : State} (e : State.Recounted h u t) : t.mayHold h = u.mayHold h := by
  obtain ⟨n, hall⟩ := e.hall
  have flags := congrArg (fun x : Hall => x.inc.flags) hall
  have used := congrArg (fun x : Hall => x.inc.holdUsed) hall
  exact State.mayHold_congr e.work flags used

theorem State.Recounted.estimateFor {h : HallId} {u t : State} (e : State.Recounted h u t) (l : List AllocEntry) :
    t.estimateFor h l = u.estimateFor h l := by
  obtain ⟨n, hall⟩ := e.hall
  have high := congrArg (fun x : Hall => x.inc.tHigh) hall
  exact State.estimateFor_congr e.work high l

theorem State.Recounted.hallState {h : HallId} {u t : State} (e : State.Recounted h u t) :
    t.hallState h = u.hallState h := by
  obtain ⟨n, hall⟩ := e.hall
  exact (congrArg (fun x : Hall => x.inc.state) hall).trans rfl

theorem State.Recounted.allocatedTo {h : HallId} {s u t : State} (e : State.Recounted h u t) {taken : List BankId}
    (a : s.allocatedTo u h taken) : s.allocatedTo t h taken := by
  have st := e.hallState
  obtain ⟨n, hall⟩ := e.hall
  have inc : t.inc h = { u.inc h with change := n } := congrArg Hall.inc hall
  obtain ⟨banks, alloc, estimated, conc, short, mans, measuring, waits, selecting, counting⟩ := a
  unfold State.allocatedTo State.bank State.man
  rw [e.startDelay, e.mayHold, e.estimateFor, st, inc, e.banks, e.mans, e.selectors, e.selCircuits, e.measuring,
    e.waitList]
  exact ⟨banks, alloc, estimated, conc, short, mans, measuring, waits, selecting, counting⟩

theorem State.Recounted.attemptedFrom {h : HallId} {s u t : State} (e : State.Recounted h u t)
    (a : s.attemptedFrom u h) : s.attemptedFrom t h := by
  have st := e.hallState
  obtain ⟨n, hall⟩ := e.hall
  have inc : t.inc h = { u.inc h with change := n } := congrArg Hall.inc hall
  obtain ⟨computed, success, failure⟩ := a
  refine ⟨?_, fun ok => e.allocatedTo (success ok), ?_⟩
  · unfold State.computedFor State.sameIncident
    rw [hall, inc]
    exact computed
  · rw [st, inc, e.banks, e.mans, e.waitList]
    exact failure

/-! ## The owner's answer (R22) -/

theorem State.answerDeisolate_bank (s : State) (b : BankId) :
    s.answerDeisolate (.bank b) =
      if s.storeBusy = true then (s, .refused .storeBusy)
      else if s.work.bankIsolated.get b = true then ((s.isolateBank b false).reexamine, .accepted)
      else (s, .accepted) := rfl

theorem State.answerDeisolate_hall (s : State) (h : HallId) :
    s.answerDeisolate (.hall h) =
      if s.storeBusy = true then (s, .refused .storeBusy)
      else if s.work.hallIsolated.get h = true then ((s.isolateHall h false).withholdEnds h, .accepted)
      else (s, .accepted) := rfl

/-- Once its isolation ceases, a hall is attempted if it is INHIBITED and no LOCKOUT is in force (R52). -/
theorem State.withholdEnds_isolateHall (s : State) (h : HallId) :
    (s.isolateHall h false).withholdEnds h =
      if s.hallState h = .inhibited ∧ s.lockout h = false then (s.isolateHall h false).singleAttempt h
      else s.isolateHall h false := by
  have withheld : (s.isolateHall h false).withheld h = s.lockout h := by
    show ((s.work.hallIsolated.set h false).get h || s.lockout h) = s.lockout h
    rw [PerHall.get_set_same, Bool.false_or]
  unfold State.withholdEnds
  rw [withheld]
  rfl

end Sys2Proof.Machine

open Sys2Proof Sys2Proof.Machine in
/-- Settles O26, by the checks of R22 in their order: a bank's return is followed by a re-examination, a hall's by a single
attempt for an INHIBITED hall. -/
theorem deisolateReturnsToService : Obligations.DeisolateReturnsToService := by
  intro seq s ready
  have bankRefused (b : BankId) (owner : s.answerDeisolate (.bank b) = (s, .refused .storeBusy)) :
      exec (.deisolate .station seq [2, byteOf b.num]) s = .next (s.send .station (refusedFrame 0x23 seq .storeBusy)) :=
    congrArg Host.Outcome.next
      (State.frameArrives_refused seq ready (Nat.le_of_ble_eq_true rfl) rfl (requestOf_deisolate_bank 0 b) owner (by simp))
  have hallRefused (h : HallId) (owner : s.answerDeisolate (.hall h) = (s, .refused .storeBusy)) :
      exec (.deisolate .station seq [1, byteOf h.num]) s = .next (s.send .station (refusedFrame 0x23 seq .storeBusy)) :=
    congrArg Host.Outcome.next
      (State.frameArrives_refused seq ready (Nat.le_of_ble_eq_true rfl) rfl (requestOf_deisolate_hall 0 h) owner (by simp))
  have bankTaken (b : BankId) (t : State) (owner : s.answerDeisolate (.bank b) = (t, .accepted)) :
      exec (.deisolate .station seq [2, byteOf b.num]) s =
        .next ((State.countChanges s t).send .station (acceptedFrame 0x23 seq [])) :=
    congrArg Host.Outcome.next
      (State.frameArrives_accepted seq ready (Nat.le_of_ble_eq_true rfl) rfl (requestOf_deisolate_bank 0 b) owner)
  have hallTaken (h : HallId) (t : State) (owner : s.answerDeisolate (.hall h) = (t, .accepted)) :
      exec (.deisolate .station seq [1, byteOf h.num]) s =
        .next ((State.countChanges s t).send .station (acceptedFrame 0x23 seq [])) :=
    congrArg Host.Outcome.next
      (State.frameArrives_accepted seq ready (Nat.le_of_ble_eq_true rfl) rfl (requestOf_deisolate_hall 0 h) owner)
  refine ⟨fun busy => ⟨fun b => bankRefused b (if_pos (State.storeBusy_of_writing busy)),
    fun h => hallRefused h (if_pos (State.storeBusy_of_writing busy))⟩, fun none empty =>
    ⟨fun b => ⟨fun clear => ?_, fun set => ?_⟩, fun h => ⟨fun clear => ?_, fun set stays => ?_, fun set st lock => ?_⟩⟩⟩
  all_goals have idle := State.storeBusy_of_idle none empty
  · rw [bankTaken b s (by simp [State.answerDeisolate_bank, idle, clear]), State.countChanges_of_halls rfl]
  · have arrives := bankTaken b (s.isolateBank b false).reexamine (by simp [State.answerDeisolate_bank, idle, set])
    have still := State.still_reexamine (s.isolateBank b false)
    have work : (s.isolateBank b false).reexamine.work =
        { s.work with bankIsolated := s.work.bankIsolated.set b false } := (State.work_of_still still).trans rfl
    have write : (s.isolateBank b false).reexamine.write = some (.bankIsolated b false) := State.write_of_still still
    have outside : s.outsideKept (s.isolateBank b false).reexamine :=
      State.outsideKept_reexamine ⟨rfl, rfl, rfl, rfl, rfl, rfl, rfl⟩
    refine ⟨⟨_, arrives, work, write, outside, rfl,
      fun g n => State.hall_reexamined_other (u := s.isolateBank b false) rfl n,
      (State.event_send s _ _).thenReexamined (u := s.isolateBank b false) fun _ => rfl⟩, fun nobody => ?_⟩
    rw [arrives, State.countChanges_reexamine_of_empty (s := s) (u := s.isolateBank b false) rfl nobody]
    rfl
  · rw [hallTaken h s (by simp [State.answerDeisolate_hall, idle, clear]), State.countChanges_of_halls rfl]
  · have waived : ¬ (s.hallState h = .inhibited ∧ s.lockout h = false) := fun k =>
      stays.elim (fun n => n k.1) fun l => absurd (l.symm.trans k.2) (by simp)
    have owner : s.answerDeisolate (.hall h) = (s.isolateHall h false, .accepted) := by
      simp [State.answerDeisolate_hall, idle, set, State.withholdEnds_isolateHall, waived]
    rw [hallTaken h _ owner, State.countChanges_of_halls (s := s) (u := s.isolateHall h false) rfl]
    rfl
  · have owner : s.answerDeisolate (.hall h) = ((s.isolateHall h false).singleAttempt h, .accepted) := by
      simp [State.answerDeisolate_hall, idle, set, State.withholdEnds_isolateHall, st, lock]
    have still := State.still_singleAttempt (s.isolateHall h false) h
    have work : ((s.isolateHall h false).singleAttempt h).work =
        { s.work with hallIsolated := s.work.hallIsolated.set h false } := (State.work_of_still still).trans rfl
    have write : ((s.isolateHall h false).singleAttempt h).write = some (.hallIsolated h false) := State.write_of_still still
    have outside : s.outsideKept ((s.isolateHall h false).singleAttempt h) :=
      State.outsideKept_of_still (s := s.isolateHall h false) still
    have attempted : s.attemptedFrom ((s.isolateHall h false).singleAttempt h) h :=
      State.attemptedFrom_singleAttempt (s.isolateHall h false) h
    exact ⟨_, hallTaken h _ owner, work, write, rfl, ((State.event_send s _ _).recounted h).attemptedFrom attempted, outside,
      fun g n =>
      State.hall_countChanges_of_same (State.hall_singleAttempt_other (s.isolateHall h false) fun e => n e.symm)⟩
end

section
/-! A hall that is withheld goes to INHIBITED (R51): its return, the re-examination that follows, and the isolation of a hall
(O25). -/

namespace Sys2Proof.Machine

/-! ## An event that leads through one hall's change to a re-examination (R77, R79) -/

/-- The state with another plan, write, set of contacts and place of the scan: what an event may have begun with. -/
def State.begun (s : State) (work : Plan) (write : Option StoreWrite) (contacts : PerLine (PerLine Contact))
    (scan : ScanPos) : State :=
  { s with work := work, write := write, contacts := contacts, scan := scan }

theorem State.Event.kept_of_reexamine {s u t : State} (e : State.Event s u.reexamine t) :
    t.work = u.work ∧ t.write = u.write ∧ t.contacts = u.contacts ∧ t.scan = u.scan := by
  have still := State.still_reexamine u
  have outer := State.outer_of_still still
  have work := State.work_of_still still
  have write := State.write_of_still still
  have contacts := State.contacts_of_outer outer
  have scan := State.scan_of_outer outer
  rw [e.rest]
  exact ⟨work, write, contacts, scan⟩

theorem State.Event.leadsThrough {s u t : State} (e : State.Event s u.reexamine t) {h : HallId}
    {work : Plan} {write : Option StoreWrite}
    {contacts : PerLine (PerLine Contact)} {scan : ScanPos}
    (whole : u =
      { s.begun work write contacts scan with
        banks := u.banks, mans := u.mans, selectors := u.selectors, selCircuits := u.selCircuits
        halls := s.halls.set h (u.hall h), waitList := s.waitList.filter fun g => !(g == h) })
    (change : (u.inc h).change = (s.inc h).change) : s.leadsThrough u t h := by
  have waits : u.waitList = s.waitList.filter fun g => !(g == h) := congrArg State.waitList whole
  have out : ¬ h ∈ u.waitList := by simp [waits]
  have every (g : HallId) : (u.inc g).change = (s.inc g).change := by
    by_cases n : h = g
    · exact n ▸ change
    · have same : u.hall g = s.hall g :=
        (congrArg (fun x => PerHall.get (State.halls x) g) whole).trans (PerHall.get_set_other _ _ n)
      exact congrArg (fun x : Hall => x.inc.change) same
  refine ⟨?_, e.thenReexamined every⟩
  obtain ⟨w, wr, c, sc⟩ := e.kept_of_reexamine
  have own : { t.hall h with inc := { t.inc h with change := (s.inc h).change } } = u.hall h := by
    obtain ⟨n, hall⟩ := e.hall_but_change h
    have same := State.hall_reexamine_other u out
    rw [show u.reexamine.inc h = u.inc h from congrArg Hall.inc same, same] at hall
    have inc : t.inc h = { u.inc h with change := n } := congrArg Hall.inc hall
    rw [inc, hall, ← change]
    rfl
  rw [own, w, wr, c, sc]
  have ew : u.work = work := congrArg State.work whole
  have ewr : u.write = write := congrArg State.write whole
  have ec : u.contacts = contacts := congrArg State.contacts whole
  have esc : u.scan = scan := congrArg State.scan whole
  rw [ew, ewr, ec, esc]
  exact whole

/-! ## What a re-examination leaves of a return (R80, R87) -/

/-- Where the hall does not wait, its reservations stay returned through a re-examination. -/
theorem State.Event.returnedTo {s u t : State} (e : State.Event s u.reexamine t) {h : HallId}
    (back : s.handedBack u h) (waits : u.waitList = s.waitList.filter fun g => !(g == h))
    (alloc : (t.inc h).alloc = s.keptEntries h)
    (estimate : (t.inc h).estimate = if s.keptEntries h = [] then none else (s.inc h).estimate) : s.returnedTo t h := by
  have out : ¬ h ∈ u.waitList := by simp [waits]
  have bank := e.bank
  have man := e.man
  obtain ⟨banks, mans⟩ := back
  refine ⟨fun b listed reserved => ?_, fun m => ?_, alloc, by rw [alloc]; exact estimate, fun alone => ?_⟩
  · rw [bank] at reserved
    obtain e | ⟨g, k, e⟩ := State.bank_reexamine u b
    · rw [e, banks] at reserved
      split at reserved
      · cases reserved
      · rename_i n
        exact n ⟨listed, reserved⟩
    · rw [e] at reserved
      cases reserved
      exact out k
  · rw [man, ← not_or]
    intro pending
    obtain e | ⟨g, k, e⟩ := State.man_reexamine u m
    · rw [e] at pending
      obtain ⟨freed, kept⟩ := mans m
      by_cases c : (s.man m).state = .claimed h ∨ (s.man m).state = .selecting h
      · rw [(freed c).1] at pending
        simp at pending
      · rw [(kept c).1] at pending
        exact c pending
    · rw [State.holder] at e
      obtain p | p := pending <;> rw [p] at e <;> cases e <;> exact out k
  · have empty : u.waitList = [] := by
      rw [waits, List.filter_eq_nil_iff]
      intro g k
      simp [alone g k]
    rw [State.reexamine_of_empty u empty] at bank man
    refine ⟨fun b => (bank b).trans (banks b), fun m => ⟨(man m).trans ?_, fun c => ?_⟩⟩
    · obtain ⟨freed, kept⟩ := mans m
      split
      · rename_i c
        exact (freed c).1
      · rename_i c
        exact (kept c).1
    · obtain ⟨freed, -⟩ := mans m
      have sel : t.selectors = u.selectors := by
        rw [e.selectors, State.reexamine_of_empty u empty]
      rw [State.selector, sel, (freed c).2.1, PerHall.get_set_same]

/-! ## INHIBITED (R51) -/

theorem State.hall_leaveHeld (s : State) (h : HallId) :
    (s.leaveHeld h).hall h =
      { s.hall h with
        inc :=
          { s.inc h with
            holdUsed :=
              (s.inc h).holdUsed +
                (if s.hallState h = .held ∧ (0 < (s.hall h).stay.ms ∨ (s.hall h).stay.counted = false) then 1 else 0) } } := by
  unfold State.leaveHeld
  by_cases c : s.hallState h = .held
  · rw [if_pos c, State.hall_modHall_same]
    simp only [c, true_and]
    rfl
  · rw [if_neg c]
    simp only [c, false_and, if_false]
    rfl

theorem State.leaveHeld_eq (s : State) (h : HallId) : s.leaveHeld h = { s with halls := (s.leaveHeld h).halls } := by
  unfold State.leaveHeld
  split <;> rfl

/-- A hall that leaves COUNTDOWN, HELD or WAITING because it is withheld, before the re-examination (R51, R87). -/
def State.inhibited (s : State) (h : HallId) : State :=
  (if s.hallState h = .waiting then s.leaveWaitList h else (s.leaveHeld h).returnAll h).enterInhibited h

theorem State.withholdBegins_eq (s : State) {h : HallId} (late : Bool)
    (st : s.hallState h = .waiting ∨ s.hallState h = .countdown ∨ s.hallState h = .held) :
    s.withholdBegins h late = (s.inhibited h).reexamine := by
  obtain st | st | st := st <;> simp [State.withholdBegins, State.inhibited, State.leaveHeld, st]

theorem State.still_inhibited (s : State) (h : HallId) : (s.inhibited h).still = s.still := by
  unfold State.inhibited
  split
  · rfl
  · rw [State.still_enterInhibited, State.still_returnAll, State.still_leaveHeld]

/-- The record of a hall that goes to INHIBITED (R51, R87, R90). -/
theorem State.hall_inhibited (s : State) (h : HallId) :
    (s.inhibited h).hall h =
      { s.hall h with
        inc :=
          { s.inc h with
            state := .inhibited
            countdown := none
            alloc := if s.hallState h = .waiting then (s.inc h).alloc else s.keptEntries h
            estimate :=
              if s.hallState h = .waiting then (s.inc h).estimate
              else if s.keptEntries h = [] then none else (s.inc h).estimate
            holdUsed :=
              (s.inc h).holdUsed +
                (if s.hallState h = .held ∧ (0 < (s.hall h).stay.ms ∨ (s.hall h).stay.counted = false) then 1 else 0) } } := by
  refine (State.hall_modHall_same _ h _).trans ?_
  by_cases c : s.hallState h = .waiting
  · simp only [if_pos c]
    simp only [c, reduceCtorEq, false_and, if_false]
    rfl
  · have held := State.hall_leaveHeld s h
    have kept : (s.leaveHeld h).keptEntries h = s.keptEntries h := by
      have alloc := congrArg (fun x : Hall => x.inc.alloc) held
      rw [State.leaveHeld_eq] at alloc ⊢
      exact congrArg (List.filter fun e => !(s.bank e.bank == .reserved h)) alloc
    simp only [if_neg c]
    have inc : (s.leaveHeld h).inc h = _ := congrArg Hall.inc held
    rw [State.hall_returnAll, kept, inc, held]
    rfl

theorem State.handedBack_leaveHeld (s : State) (h : HallId) : s.handedBack ((s.leaveHeld h).returnAll h) h := by
  have back := State.handedBack_returnAll (s.leaveHeld h) h
  have list : ((s.leaveHeld h).inc h).allocBanks = (s.inc h).allocBanks :=
    (congrArg (fun x : Hall => x.inc.allocBanks) (State.hall_leaveHeld s h)).trans rfl
  unfold State.handedBack at back ⊢
  rw [list] at back
  rw [State.leaveHeld_eq] at back ⊢
  exact back

theorem State.handedBack_inhibited {s : State} {h : HallId} (n : ¬ s.hallState h = .waiting) :
    s.handedBack (s.inhibited h) h := by
  unfold State.inhibited
  rw [if_neg n]
  exact State.handedBack_leaveHeld s h

theorem State.waitList_inhibited {s : State} {h : HallId} (out : s.hallState h = .waiting ∨ ¬ h ∈ s.waitList) :
    (s.inhibited h).waitList = s.waitList.filter fun g => !(g == h) := by
  unfold State.inhibited
  by_cases c : s.hallState h = .waiting
  · rw [if_pos c]
    rfl
  · rw [if_neg c]
    refine (State.waitList_returnAll (s.leaveHeld h) h).trans ?_
    rw [State.leaveHeld_eq, List.filter_eq_self.2]
    intro g k
    simp only [Bool.not_eq_true', beq_eq_false_iff_ne]
    exact fun e => out.resolve_left c (e ▸ k)

theorem State.hall_inhibited_other (s : State) {h g : HallId} (n : ¬ h = g) : (s.inhibited h).hall g = s.hall g := by
  unfold State.inhibited
  rw [State.hall_enterInhibited_other _ n]
  split
  · rfl
  · rw [State.hall_returnAll_other _ n, State.hall_leaveHeld_other _ n]

theorem State.measuring_inhibited (s : State) (h : HallId) : (s.inhibited h).measuring = s.measuring := by
  unfold State.inhibited
  split
  · rfl
  · refine (State.measuring_returnAll (s.leaveHeld h) h).trans ?_
    rw [State.leaveHeld_eq]

theorem State.inhibited_eq {s : State} {h : HallId} (out : s.hallState h = .waiting ∨ ¬ h ∈ s.waitList) :
    s.inhibited h =
      { s with
        banks := (s.inhibited h).banks, mans := (s.inhibited h).mans, selectors := (s.inhibited h).selectors
        selCircuits := (s.inhibited h).selCircuits, halls := s.halls.set h ((s.inhibited h).hall h)
        waitList := s.waitList.filter fun g => !(g == h) } := by
  have whole := State.eq_of_still (State.still_inhibited s h)
  rw [State.measuring_inhibited, State.waitList_inhibited out,
    State.halls_of_others fun g n => State.hall_inhibited_other s fun e => n e.symm] at whole
  exact whole

/-- The event in which a hall in WAITING, COUNTDOWN or HELD is withheld, whatever plan, write or contact brought it
(R51). -/
theorem State.inhibitedFrom_event {s t : State} {h : HallId} {work : Plan} {write : Option StoreWrite}
    {contacts : PerLine (PerLine Contact)} {scan : ScanPos}
    (st : s.hallState h = .waiting ∨ ((s.hallState h = .countdown ∨ s.hallState h = .held) ∧ ¬ h ∈ s.waitList))
    (e : State.Event s ((s.begun work write contacts scan).inhibited h).reexamine t) : s.inhibitedFrom t h := by
  have out : s.hallState h = .waiting ∨ ¬ h ∈ s.waitList := st.imp_right fun k => k.2
  have moved : ¬ HallState.inhibited = s.hallState h := by
    obtain k | ⟨k | k, -⟩ := st <;> rw [k] <;> simp
  have own := State.hall_inhibited (s.begun work write contacts scan) h
  have whole := State.inhibited_eq (s := s.begun work write contacts scan) (h := h) out
  have back := State.handedBack_inhibited (s := s.begun work write contacts scan) (h := h)
  have waits := State.waitList_inhibited (s := s.begun work write contacts scan) (h := h) out
  have away : s.hallState h = .waiting →
      s.manifoldsFreed ((s.begun work write contacts scan).inhibited h) h (fun _ => False) ∧
      ((s.begun work write contacts scan).inhibited h).banks = s.banks := by
    intro k
    unfold State.inhibited
    rw [if_pos (show (s.begun work write contacts scan).hallState h = .waiting from k)]
    exact ⟨fun m => ⟨False.elim, fun _ => ⟨rfl, rfl, rfl⟩⟩, rfl⟩
  have others (g : HallId) (n : ¬ h = g) := State.hall_inhibited_other (s.begun work write contacts scan) n
  generalize (s.begun work write contacts scan).inhibited h = u at e own whole back waits away others
  have away_h : ¬ h ∈ u.waitList := by simp [waits]
  have same := State.hall_reexamine_other u away_h
  have changed : ¬ (s.inc h).content = (u.reexamine.inc h).content := fun k => by
    have states : s.hallState h = u.reexamine.hallState h := (congrArg Incident.state k).trans rfl
    exact moved (((congrArg (fun x : Hall => x.inc.state) (same.trans own)).symm.trans states.symm).trans rfl)
  have hall := e.hall_of_changed changed
  rw [show u.reexamine.inc h = u.inc h from congrArg Hall.inc same, same,
    show u.inc h = _ from congrArg Hall.inc own, own] at hall
  have inc := congrArg Hall.inc hall
  have lead := e.leadsThrough whole ((congrArg (fun x : Hall => x.inc.change) own).trans rfl)
  refine ⟨congrArg Incident.state inc, congrArg Incident.countdown inc, (congrArg Incident.isOpen inc).trans rfl,
    ⟨(congrArg Incident.number inc).trans rfl, (congrArg Incident.cause inc).trans rfl,
      (congrArg Incident.confNumber inc).trans rfl, (congrArg Incident.latched inc).trans rfl,
      (congrArg Hall.clock hall).trans rfl⟩,
    (congrArg Incident.manualSeen inc).trans rfl, (congrArg Incident.flags inc).trans rfl,
    (congrArg Incident.required inc).trans rfl, (congrArg Incident.change inc).trans rfl,
    (congrArg Hall.wait hall).trans rfl, (congrArg Incident.holdUsed inc).trans rfl, ?_, fun g n k => ?_, fun n => ?_,
    u, lead, away, back⟩
  · rw [e.rest]
    exact fun k => away_h (State.mem_waitList_of_reexamine k)
  · refine e.hall_of_same ((State.hall_reexamine_other u ?_).trans (others g fun x => n x.symm))
    rw [waits]
    exact fun x => k (List.mem_of_mem_filter x)
  · refine e.returnedTo (back n) waits ?_ ?_
    · exact (congrArg Incident.alloc inc).trans (if_neg n)
    · exact (congrArg Incident.estimate inc).trans (if_neg n)

/-! ## The owner's answer (R21) -/

theorem State.answerIsolate_hall (s : State) (h : HallId) :
    s.answerIsolate (.hall h) =
      if s.storeBusy = true then (s, .refused .storeBusy)
      else if (s.hallState h).releasing = true then (s, .refused .tooLate)
      else if s.work.hallIsolated.get h = true then (s, .accepted)
      else ((s.isolateHall h true).withholdBegins h false, .accepted) := rfl

theorem State.withholdBegins_of_idle {s : State} {h : HallId}
    (st : s.hallState h = .quiet ∨ s.hallState h = .alert ∨ s.hallState h = .inhibited ∨ s.hallState h = .discharged ∨
      s.hallState h = .stalled) (late : Bool) : s.withholdBegins h late = s := by
  unfold State.withholdBegins
  obtain e | e | e | e | e := st <;> rw [e]

end Sys2Proof.Machine

open Sys2Proof Sys2Proof.Machine in
/-- Settles O25, by the checks of R21 in their order and the states of R51. -/
theorem isolateHallInhibits : Obligations.IsolateHallInhibits := by
  intro seq h s ready
  have refused (c : RefusalCode) (owner : s.answerIsolate (.hall h) = (s, .refused c)) (n : ¬ c = .invalid) :
      exec (.isolate .station seq [1, byteOf h.num]) s = .next (s.send .station (refusedFrame 0x22 seq c)) :=
    congrArg Host.Outcome.next
      (State.frameArrives_refused seq ready (Nat.le_of_ble_eq_true rfl) rfl (requestOf_isolate_hall 0 h) owner n)
  have accepted (t : State) (owner : s.answerIsolate (.hall h) = (t, .accepted)) :
      exec (.isolate .station seq [1, byteOf h.num]) s =
        .next ((State.countChanges s t).send .station (acceptedFrame 0x22 seq [])) :=
    congrArg Host.Outcome.next
      (State.frameArrives_accepted seq ready (Nat.le_of_ble_eq_true rfl) rfl (requestOf_isolate_hall 0 h) owner)
  refine ⟨fun busy => refused _ (if_pos (State.storeBusy_of_writing busy)) (by simp), fun none empty => ?_⟩
  have idle := State.storeBusy_of_idle none empty
  refine ⟨fun st => refused _ ?_ (by simp), fun set st => ?_, fun clear => ⟨fun st => ?_, fun st => ?_⟩⟩
  · obtain e | e | e := st <;> simp [State.answerIsolate_hall, idle, e, HallState.releasing]
  · rw [accepted s (by simp [State.answerIsolate_hall, idle, set, st]), State.countChanges_of_halls rfl]
  · have free : (s.hallState h).releasing = false := by
      obtain e | e | e | e | e := st <;> rw [e] <;> rfl
    have owner : s.answerIsolate (.hall h) = (s.isolateHall h true, .accepted) := by
      simp [State.answerIsolate_hall, idle, free, clear, State.withholdBegins_of_idle (s := s.isolateHall h true) st]
    rw [accepted _ owner, State.countChanges_of_halls (s := s) (u := s.isolateHall h true) rfl]
    rfl
  · have states : s.hallState h = .waiting ∨ s.hallState h = .countdown ∨ s.hallState h = .held :=
      st.imp_right fun k => k.1
    have free : (s.hallState h).releasing = false := by
      obtain e | e | e := states <;> rw [e] <;> rfl
    have owner : s.answerIsolate (.hall h) = (((s.isolateHall h true).inhibited h).reexamine, .accepted) := by
      simp [State.answerIsolate_hall, idle, free, clear, State.withholdBegins_eq (s.isolateHall h true) false states]
    have still : ((s.isolateHall h true).inhibited h).reexamine.still = (s.isolateHall h true).still :=
      (State.still_reexamine _).trans (State.still_inhibited _ h)
    have outside : s.outsideKept ((s.isolateHall h true).inhibited h).reexamine :=
      State.outsideKept_of_still (s := s.isolateHall h true) still
    have work := State.work_of_still still
    have write := State.write_of_still still
    have marks := State.markQueue_of_still still
    exact ⟨_, accepted _ owner, work, write, marks.trans empty,
      State.inhibitedFrom_event st (State.event_send s ((s.isolateHall h true).inhibited h).reexamine _), outside, rfl⟩
end

section
/-! The end of a vent time (O36). -/

namespace Sys2Proof.Machine

/-- A manifold vented for its hall is FREE, and the hall is DISCHARGED with the last (R125). -/
def State.vented (s : State) (m : ManId) (h : HallId) : State := (s.freeManifold m).dischargedIfDone h

theorem State.takeVentExpiry_of_venting {s : State} {m : ManId} {h : HallId} {x : Timer}
    (st : (s.man m).state = .venting h) (tm : (s.man m).timer = .vent x) :
    s.takeVentExpiry m = (s.vented m h).reexamine := by
  unfold State.takeVentExpiry
  rw [st, tm]
  rfl

theorem State.takeVentExpiry_of_none {s : State} {m : ManId} (n : ∀ x, ¬ (s.man m).timer = .vent x) :
    s.takeVentExpiry m = s := by
  unfold State.takeVentExpiry
  split
  · rename_i h x _ tm
    exact absurd tm (n x)
  · rfl

theorem State.holder_freeManifold (s : State) (m n : ManId) :
    (s.freeManifold m).holder n = if m = n then none else s.holder n := by
  rw [State.holder, State.man_freeManifold]
  split
  · rfl
  · rfl

/-- Once a manifold is free, its hall holds none where it held no other. -/
theorem State.holdsAny_freeManifold (s : State) (m : ManId) (h : HallId) :
    (s.freeManifold m).holdsAny h = false ↔ ∀ n, s.holder n = some h → n = m := by
  unfold State.holdsAny
  rw [List.any_eq_false]
  refine ⟨fun all n held => ?_, fun one n _ => ?_⟩
  · by_contra other
    refine all n (manId_mem_all n) ?_
    rw [State.holder_freeManifold, if_neg fun e => other e.symm, held]
    exact beq_self_eq_true _
  · rw [State.holder_freeManifold]
    split
    · simp
    · rename_i other
      simp only [beq_iff_eq]
      exact fun held => other (one n held).symm

theorem State.vented_eq (s : State) (m : ManId) (h : HallId) :
    s.vented m h =
      { s.freeManifold m with
        halls :=
          s.halls.set h
            { s.hall h with
              inc :=
                { s.inc h with
                  state :=
                    if s.hallState h = .soak ∧ (s.freeManifold m).holdsAny h = false then .discharged
                    else s.hallState h } } } := by
  unfold State.vented State.dischargedIfDone
  have halls := State.halls_freeManifold s m
  have st : (s.freeManifold m).hallState h = s.hallState h := congrArg (fun x => (PerHall.get x h).inc.state) halls
  rw [st]
  split
  · unfold State.modInc State.modHall State.hall
    rw [halls]
    rfl
  · have same : s.halls.set h (s.hall h) = s.halls := PerHall.set_get s.halls h
    rw [show ({ s.hall h with inc := { s.inc h with state := s.hallState h } } : Hall) = s.hall h from rfl, same, ← halls]

theorem State.still_vented (s : State) (m : ManId) (h : HallId) : (s.vented m h).still = s.still := by
  rw [State.vented_eq]
  exact State.still_freeManifold s m

theorem State.hall_vented (s : State) (m : ManId) (h : HallId) :
    (s.vented m h).hall h =
      { s.hall h with
        inc :=
          { s.inc h with
            state :=
              if s.hallState h = .soak ∧ (s.freeManifold m).holdsAny h = false then .discharged else s.hallState h } } := by
  rw [State.vented_eq]
  exact PerHall.get_set_same s.halls h _

theorem State.hall_vented_other (s : State) (m : ManId) {h g : HallId} (n : ¬ h = g) :
    (s.vented m h).hall g = s.hall g := by
  rw [State.vented_eq]
  exact PerHall.get_set_other _ _ n

theorem State.manifoldsFreed_vented {s : State} {m : ManId} {h : HallId} (held : s.holder m = some h) :
    s.manifoldsFreed (s.vented m h) h fun n => n = m := by
  rw [State.vented_eq]
  intro n
  have man := State.man_freeManifold s m n
  have sel := State.selectors_freeManifold held n
  have cir := State.selCircuits_freeManifold held n
  refine ⟨?_, fun other => ?_⟩
  · rintro rfl
    rw [if_pos rfl] at man sel cir
    exact ⟨man, sel, cir⟩
  · rw [if_neg fun e => other e.symm] at man sel cir
    exact ⟨man, sel, cir⟩

end Sys2Proof.Machine

open Sys2Proof Sys2Proof.Machine in
/-- Settles O36: the event leads through `State.vented` to one re-examination, in which the hall itself does not act. -/
theorem ventExpiryFreesManifold : Obligations.VentExpiryFreesManifold := by
  refine ⟨fun m s none => congrArg Host.Outcome.next (State.asEvent_of_same s _ (State.takeVentExpiry_of_none none)),
    fun m h x s st tm out => ?_⟩
  have held : s.holder m = some h := by
    rw [State.holder, st]
    rfl
  have e := State.event_countChanges s (s.vented m h).reexamine
  have still : (s.vented m h).reexamine.still = s.still :=
    (State.still_reexamine _).trans (State.still_vented s m h)
  have waits : (s.vented m h).waitList = s.waitList := by
    rw [State.vented_eq]
    exact State.waitList_freeManifold s m
  have banks : (s.vented m h).banks = s.banks := by
    rw [State.vented_eq]
    exact State.banks_freeManifold s m
  have measuring : (s.vented m h).measuring = s.measuring := by
    rw [State.vented_eq]
    exact State.measuring_freeManifold s m
  have filtered : s.waitList.filter (fun g => !(g == h)) = s.waitList := by
    rw [List.filter_eq_self]
    intro g k
    simp only [Bool.not_eq_true', beq_eq_false_iff_ne]
    exact fun same => out (same ▸ k)
  have freed := State.manifoldsFreed_vented held
  have own := State.hall_vented s m h
  have others (g : HallId) (n : ¬ h = g) := State.hall_vented_other s m n
  have whole := State.eq_of_still (State.still_vented s m h)
  rw [measuring, waits, ← filtered, State.halls_of_others fun g n => others g fun e => n e.symm] at whole
  have exec_eq : exec (.ventTimerExpiry m) s = .next (State.countChanges s (s.vented m h).reexamine) :=
    congrArg Host.Outcome.next (State.asEvent_eq (State.takeVentExpiry_of_venting st tm))
  have last := State.holdsAny_freeManifold s m h
  have lead := e.leadsThrough (h := h) (work := s.work) (write := s.write) (contacts := s.contacts) (scan := s.scan) whole
    ((congrArg (fun x : Hall => x.inc.change) own).trans rfl)
  generalize s.vented m h = u at *
  generalize State.countChanges s u.reexamine = t at *
  have out_u : ¬ h ∈ u.waitList := waits ▸ out
  have same := State.hall_reexamine_other u out_u
  obtain ⟨sel, cir⟩ := State.selector_reexamine_other u m out_u
  obtain ⟨freeM, -⟩ := freed m
  obtain ⟨man, selectors, circuits⟩ := freeM rfl
  have outside := State.outsideKept_of_still still
  obtain ⟨outer, write, marks, -, queue, slots, -⟩ := (State.still_iff s u.reexamine).1 still
  have work := State.work_of_outer outer
  have initiators := State.initiators_of_outer outer
  have nvPlan := State.nvPlan_of_outer outer
  have nvSpent := State.nvSpent_of_outer outer
  have overlay := State.overlay_of_outer outer
  refine ⟨t, exec_eq, ?_, fun c k => ?_, ?_, fun alone => ?_, fun soak only => ?_, fun stays => ?_, fun g n k => ?_, ?_, ?_,
    ?_, ?_, ?_, ?_, u, lead, banks, freed⟩
  · rw [State.selector, e.selectors]
    exact sel.trans (by rw [State.selector, selectors, PerHall.get_set_same])
  · rw [e.rest] at k
    have k := cir.symm.trans k
    rw [circuits, PerHall.get_set_same] at k
    obtain ⟨d, -, rfl⟩ := Option.map_eq_some_iff.1 k
    rfl
  · rw [State.holder, e.man]
    obtain r | r := State.man_reexamine u m
    · exact Or.inl (by rw [r, man])
    · rw [waits] at r
      exact Or.inr r
  · have quiet := State.reexamine_of_empty u (waits.trans alone)
    rw [quiet] at e
    refine ⟨(e.man m).trans man, ?_, fun n other => ?_⟩
    · rw [e.rest]
      exact banks
    · obtain ⟨-, kept⟩ := freed n
      rw [e.man, e.selectors]
      exact ⟨(kept other).1, (kept other).2.1⟩
  · rw [if_pos ⟨soak, last.2 only⟩] at own
    have changed : ¬ (s.inc h).content = (u.reexamine.inc h).content := fun k => by
      have states := (congrArg Incident.state k).trans (congrArg (fun x : Hall => x.inc.state) (same.trans own))
      have discharged : s.hallState h = .discharged := states
      rw [soak] at discharged
      cases discharged
    have hall := e.hall_of_changed changed
    rw [show u.reexamine.inc h = u.inc h from congrArg Hall.inc same, same,
      show u.inc h = _ from congrArg Hall.inc own, own] at hall
    exact congrArg Hall.inc hall
  · refine congrArg Hall.inc (e.hall_of_same (same.trans (own.trans ?_)))
    rw [if_neg]
    · rfl
    · rintro ⟨soak, only⟩
      obtain n | ⟨n, other, holds⟩ := stays
      · exact n soak
      · exact other (last.1 only n holds)
  · exact e.hall_of_same ((State.hall_reexamine_other u (waits ▸ k)).trans (others g fun x => n x.symm))
  all_goals rw [e.rest]
  · exact outside
  · exact work
  · simp only [State.storePart, nvPlan, nvSpent, overlay, write, marks]
  · exact queue
  · exact slots
  · exact initiators
end

section
/-! What the slots take from the queue (R117, R180), and the dwell whose sample changes one contact (R145 to R148). -/

namespace Sys2Proof.Machine

/-! ## Offers of the slots (R117, R118, R180) -/

theorem State.requestMark_closed (s : State) (b : BankId) :
    s.requestMark b =
      { s with
        write := some (s.write.getD (.setMark b))
        markQueue := s.markQueue ++ if s.write = none then [] else [b] } := by
  obtain ⟨e, r⟩ | ⟨w, e, r⟩ := State.requestMark_cases s b <;> rw [r, e] <;> simp

theorem State.takeHead_of_nil {s : State} (q : s.queue = []) : s.takeHead = s := by
  unfold State.takeHead
  rw [q]

theorem State.takeHead_of_full {s : State} (f : s.freeSlot = none) : s.takeHead = s := by
  unfold State.takeHead
  rw [f]
  split
  · rename_i k
    cases k
  · rfl

theorem State.takeHead_of_free {s : State} {b : BankId} {rest : List BankId} {i : SlotId} (q : s.queue = b :: rest)
    (f : s.freeSlot = some i) : s.takeHead = (s.placed b rest i).requestMark b := by
  unfold State.takeHead
  rw [q, f]
  rfl

theorem State.freeSlot_eq (s : State) :
    s.freeSlot =
      if s.slots.get .s1 = .empty then some .s1 else if s.slots.get .s2 = .empty then some .s2 else none := rfl

theorem State.fillSlots_of_full {s : State} (f : s.freeSlot = none) : s.fillSlots = s := by
  unfold State.fillSlots
  rw [State.takeHead_of_full f, State.takeHead_of_full f]

theorem State.fillSlots_of_nil {s : State} (q : s.queue = []) : s.fillSlots = s := by
  unfold State.fillSlots
  rw [State.takeHead_of_nil q, State.takeHead_of_nil q]

/-- The offers of the slots touch the queue, the slots and the marks alone. -/
theorem State.fillSlots_eq (s : State) :
    s.fillSlots =
      { s with
        queue := s.fillSlots.queue, slots := s.fillSlots.slots, write := s.fillSlots.write
        markQueue := s.fillSlots.markQueue } := by
  have one (u : State) : ∃ q sl w m, u.takeHead = { u with queue := q, slots := sl, write := w, markQueue := m } := by
    obtain e | ⟨b, rest, i, -, -, e⟩ := State.takeHead_cases u
    · exact ⟨_, _, _, _, e⟩
    · rw [e, State.requestMark_closed]
      exact ⟨_, _, _, _, rfl⟩
  obtain ⟨q, sl, w, m, e⟩ := one s.takeHead
  obtain ⟨q1, sl1, w1, m1, e1⟩ := one s
  rw [State.fillSlots, e, e1]

/-- A bank placed in a slot with its mark requested. -/
def State.marked (s : State) (b : BankId) (rest : List BankId) (i : SlotId) : State :=
  { s with
    queue := rest
    slots := s.slots.set i (.marking b)
    write := some (s.write.getD (.setMark b))
    markQueue := s.markQueue ++ if s.write = none then [] else [b] }

theorem State.takeHead_eq_marked {s : State} {b : BankId} {rest : List BankId} {i : SlotId} (q : s.queue = b :: rest)
    (f : s.freeSlot = some i) : s.takeHead = s.marked b rest i := by
  rw [State.takeHead_of_free q f, State.requestMark_closed]
  rfl

theorem State.freeSlot_marked (s : State) (b : BankId) (rest : List BankId) (i : SlotId) :
    (s.marked b rest i).freeSlot = if s.slots.get i.other = .empty then some i.other else none := by
  have own : (s.marked b rest i).slots.get i = .marking b := PerSlot.get_set_same _ _ _
  have other : (s.marked b rest i).slots.get i.other = s.slots.get i.other := PerSlot.get_set_other _ _ i.ne_other
  rw [State.freeSlot_eq]
  cases i with
  | s1 =>
    rw [own, if_neg (by simp)]
    exact if_congr (by rw [show SlotId.s2 = SlotId.s1.other from rfl, other]) rfl rfl
  | s2 =>
    rw [own, if_neg (by simp : ¬ Slot.marking b = .empty)]
    exact if_congr (by rw [show SlotId.s1 = SlotId.s2.other from rfl, other]) rfl rfl

/-- With one slot free the head of the queue takes it. -/
theorem State.fillSlots_of_one {s : State} {b : BankId} {rest : List BankId} {i : SlotId} (q : s.queue = b :: rest)
    (f : s.freeSlot = some i) (full : ¬ s.slots.get i.other = .empty) : s.fillSlots = s.marked b rest i := by
  rw [State.fillSlots, State.takeHead_eq_marked q f, State.takeHead_of_full]
  rw [State.freeSlot_marked, if_neg full]

/-- With both slots free the first two banks of the queue take them. -/
theorem State.fillSlots_of_two {s : State} {b c : BankId} {rest : List BankId} {i : SlotId} (q : s.queue = b :: c :: rest)
    (f : s.freeSlot = some i) (free : s.slots.get i.other = .empty) :
    s.fillSlots = (s.marked b (c :: rest) i).marked c rest i.other := by
  rw [State.fillSlots, State.takeHead_eq_marked q f, State.takeHead_eq_marked (b := c) (rest := rest) rfl]
  rw [State.freeSlot_marked, if_pos free]

/-- A last bank takes one of the slots. -/
theorem State.fillSlots_of_last {s : State} {b : BankId} {i : SlotId} (q : s.queue = [b]) (f : s.freeSlot = some i) :
    s.fillSlots = s.marked b [] i := by
  rw [State.fillSlots, State.takeHead_eq_marked q f, State.takeHead_of_nil rfl]

/-- What the two offers take: the free slots, slot 1 first, the banks at the head of the queue (R117, R118, R180). -/
theorem State.queuedFrom_fillSlots {s u : State} {joining : List BankId} (queue : u.queue = s.queue ++ joining)
    (slots : u.slots = s.slots) (write : u.write = s.write) (marks : u.markQueue = s.markQueue) :
    s.queuedFrom u.fillSlots joining := by
  unfold State.queuedFrom
  rw [← queue, ← slots, ← write, ← marks]
  have free := u.freeSlot_eq
  cases q : u.queue with
  | nil =>
    rw [State.fillSlots_of_nil q, q]
    cases u.write <;> simp
  | cons b rest =>
    by_cases e1 : u.slots.get .s1 = .empty
    · rw [if_pos e1] at free
      by_cases e2 : u.slots.get .s2 = .empty
      · cases rest with
        | nil =>
          rw [State.fillSlots_of_last q free]
          cases w : u.write <;> simp [State.marked, e1, e2, PerSlot.get_set, w]
        | cons c rest =>
          rw [State.fillSlots_of_two q free e2]
          cases w : u.write <;> simp [State.marked, e1, e2, PerSlot.get_set, SlotId.other, w]
      · rw [State.fillSlots_of_one q free e2]
        cases w : u.write <;> simp [State.marked, e1, e2, PerSlot.get_set, w]
    · rw [if_neg e1] at free
      by_cases e2 : u.slots.get .s2 = .empty
      · rw [if_pos e2] at free
        rw [State.fillSlots_of_one q free e1]
        cases w : u.write <;> simp [State.marked, e1, e2, PerSlot.get_set, w]
      · rw [if_neg e2] at free
        rw [State.fillSlots_of_full free, q]
        cases w : u.write <;> simp [e1, e2]

/-! ## A dwell whose sample changes one contact (R145 to R148) -/

/-- The dwell of drive line `d` over: its line sampled, the scanner at the next dwell. -/
def State.dwelt (s : State) (d : Line) (sample : BitVec 8) : State := { s.sampleLine d sample with scan := nextDwell d }

/-- The state in which the contact at `d` and `r` has become `closed`, nobody having acted on it yet. -/
def State.sensed (s : State) (d r : Line) (closed : Bool) (sample : BitVec 8) : State :=
  (s.dwelt d sample).modContact d r fun c => { c with debounced := closed }

theorem State.sensed_eq (s : State) (d r : Line) (closed : Bool) (sample : BitVec 8) :
    s.sensed d r closed sample = s.begun s.work s.write (s.sensed d r closed sample).contacts (nextDwell d) := rfl

/-- The one change of a dwell is one event at its consumer. -/
theorem State.exec_of_sees {s : State} {d r : Line} {closed : Bool} {sample : BitVec 8} (e : s.sees d r closed sample) :
    exec (.driveDwellEnd sample) s =
      .next (State.countChanges s ((s.dwelt d sample).contactMoved d r closed)) := by
  obtain ⟨scan, turning, bit⟩ := e
  have taken : s.takeDriveDwell sample =
      State.countChanges s ((s.dwelt d sample).contactMoved d r closed) := by
    unfold State.takeDriveDwell
    rw [scan]
    dsimp only
    rw [turning, orderOf_single, ← bit]
    rfl
  exact congrArg Host.Outcome.next taken

end Sys2Proof.Machine
end

section
/-! The proven contacts of the selectors (O49). -/

namespace Sys2Proof.Machine

/-! ## The contact closes (R109, R111) -/

/-- The selector of a manifold for a hall proven, its timer stopped (R109). -/
def State.proved (s : State) (m : ManId) (h : HallId) : State :=
  (s.modSelector m h fun x => { x with proven := true }).modMan m Manifold.stopSelectorTimer

theorem State.selector_proved (s : State) (m n : ManId) (h g : HallId) :
    (s.proved m h).selector n g =
      if n = m ∧ g = h then { s.selector m h with proven := true } else s.selector n g := by
  show ((s.selectors.set m ((s.selectors.get m).set h { s.selector m h with proven := true })).get n).get g = _
  rw [PerMan.get_set]
  by_cases k : m = n
  · subst k
    rw [if_pos rfl, PerHall.get_set]
    by_cases j : h = g
    · simp [j]
    · rw [if_neg j, if_neg fun x => j x.2.symm]
      rfl
  · rw [if_neg k, if_neg fun x => k x.1.symm]
    rfl

theorem State.man_proved (s : State) (m n : ManId) (h : HallId) :
    (s.proved m h).man n = if m = n then (s.man m).stopSelectorTimer else s.man n :=
  State.man_modMan _ _ _ _

theorem State.holder_proved (s : State) (m n : ManId) (h : HallId) : (s.proved m h).holder n = s.holder n := by
  rw [State.holder, State.man_proved]
  split
  · rename_i k
    rw [Manifold.state_stopSelectorTimer, k]
    rfl
  · rfl

/-- The last selector of the hall: every other one it holds has proven (R111). -/
theorem State.allProven_proved (s : State) (m : ManId) (h : HallId) :
    (s.proved m h).allProven h = true ↔ ∀ n, ¬ n = m → s.holder n = some h → (s.selector n h).proven = true := by
  unfold State.allProven
  rw [List.all_eq_true]
  have each (n : ManId) : (!((s.proved m h).holder n == some h) || ((s.proved m h).selector n h).proven) = true ↔
      (¬ n = m → s.holder n = some h → (s.selector n h).proven = true) := by
    rw [State.holder_proved, State.selector_proved]
    by_cases k : n = m
    · simp [k]
    · rw [if_neg fun x => k x.1]
      by_cases e : s.holder n = some h <;> simp [k, e]
  exact ⟨fun all n => (each n).1 (all n (manId_mem_all n)), fun all n _ => (each n).2 (all n)⟩

theorem State.provenCloses_cases (s : State) (m : ManId) (h : HallId) :
    (¬ s.selector m h = ⟨true, false⟩ ∧ s.provenCloses m h = s) ∨
    (s.selector m h = ⟨true, false⟩ ∧
      ¬ (s.hallState h = .selecting ∧ ∀ n, ¬ n = m → s.holder n = some h → (s.selector n h).proven = true) ∧
      s.provenCloses m h = s.proved m h) ∨
    (s.selector m h = ⟨true, false⟩ ∧ s.hallState h = .selecting ∧
      (∀ n, ¬ n = m → s.holder n = some h → (s.selector n h).proven = true) ∧
      s.provenCloses m h = (s.proved m h).enterDischarging h) := by
  have pair (x : Selector) : x = ⟨true, false⟩ ↔ x.energised = true ∧ x.proven = false := by
    cases x
    simp
  rw [pair, ← State.allProven_proved]
  have whole : s.provenCloses m h =
      if (s.selector m h).energised = true ∧ (s.selector m h).proven = false then
        if s.hallState h = .selecting ∧ (s.proved m h).allProven h = true then (s.proved m h).enterDischarging h
        else s.proved m h
      else s := rfl
  rw [whole]
  by_cases c : (s.selector m h).energised = true ∧ (s.selector m h).proven = false
  · rw [if_pos c]
    by_cases d : s.hallState h = .selecting ∧ (s.proved m h).allProven h = true
    · rw [if_pos d]
      exact Or.inr (Or.inr ⟨c, d.1, d.2, rfl⟩)
    · rw [if_neg d]
      exact Or.inr (Or.inl ⟨c, d, rfl⟩)
  · rw [if_neg c]
    exact Or.inl ⟨c, rfl⟩

/-! ## The contact opens (R112) -/

theorem State.provenOpens_eq (s : State) (m : ManId) (h : HallId) :
    s.provenOpens m h =
      if s.selector m h = ⟨true, true⟩ then
        match (s.man m).state.releasing with
        | some g => s.setSelectorLost g
        | none => s
      else s := by
  have pair (x : Selector) : x = ⟨true, true⟩ ↔ x.energised = true ∧ x.proven = true := by
    cases x
    simp
  exact if_congr (pair _).symm rfl rfl

/-! ## The contact (R148) -/

theorem State.contactMoved_of_proven {s : State} {d r : Line} {m : ManId} {h : HallId} (a : assigned d r = .proven m h)
    (closed : Bool) (sample : BitVec 8) :
    (s.dwelt d sample).contactMoved d r closed =
      if closed = true then (s.sensed d r closed sample).provenCloses m h
      else (s.sensed d r closed sample).provenOpens m h := by
  unfold State.contactMoved
  rw [a]
  rfl

/-! ## The record of a hall whose selector was lost (R63, R112) -/

theorem Hall.countChange_selectorLost (x : Hall) :
    x.countChange { x with inc := { x.inc with flags := { x.inc.flags with selectorLost := true } } } =
      { x with
        inc :=
          { x.inc with
            flags := { x.inc.flags with selectorLost := true }
            change := x.inc.change + if x.inc.flags.selectorLost = true then 0 else 1 } } := by
  by_cases k : x.inc.flags.selectorLost = true
  · have same : ({ x.inc.flags with selectorLost := true } : Flags) = x.inc.flags := by rw [← k]
    rw [if_pos k, same]
    simp
  · rw [if_neg k]
    refine if_neg fun e => k ?_
    exact congrArg (fun i : Incident => i.flags.selectorLost) e

/-- The dwell in which the proven contact alone changes, as one event on the state with the contact changed. -/
theorem State.exec_of_proven {s : State} {d r : Line} {m : ManId} {h : HallId} {closed : Bool} {sample : BitVec 8}
    (e : s.sees d r closed sample) (a : assigned d r = .proven m h) :
    ∃ contacts scan,
      exec (.driveDwellEnd sample) s =
        .next (State.countChanges s
          (if closed = true then (s.begun s.work s.write contacts scan).provenCloses m h
            else (s.begun s.work s.write contacts scan).provenOpens m h)) := by
  have event := State.exec_of_sees e
  rw [State.contactMoved_of_proven a, State.sensed_eq] at event
  exact ⟨_, _, event⟩

/-! ## The queue and the slots (R116, R117) -/

/-- With both slots taken the banks only join the queue. -/
theorem State.queuedFrom_of_full {s t : State} {joining : List BankId} (q : s.queuedFrom t joining)
    (full : ∀ i, ¬ s.slots.get i = .empty) :
    t.queue = s.queue ++ joining ∧ t.slots = s.slots ∧ t.write = s.write ∧ t.markQueue = s.markQueue := by
  obtain ⟨queue, first, second, write, marks⟩ := q
  simp only [if_neg (full .s1), if_neg (full .s2), Nat.add_zero, List.drop_zero, List.take_zero, List.drop_nil,
    ite_self, List.append_nil] at queue first second write marks
  refine ⟨queue, PerSlot.eq_of_get fun i => ?_, ?_, marks⟩
  · cases i
    · exact first
    · exact second
  · rw [write]
    cases s.write <;> rfl

/-- With both slots free and nothing queued, the first two banks take the slots. -/
theorem State.queuedFrom_of_idle {s t : State} {joining : List BankId} (q : s.queuedFrom t joining)
    (free : ∀ i, s.slots.get i = .empty) (empty : s.queue = []) :
    (t.slots.get .s1).bank = joining[0]? ∧ (t.slots.get .s2).bank = joining[1]? ∧ t.queue = joining.drop 2 := by
  obtain ⟨queue, first, second, -, -⟩ := q
  simp only [if_pos (free .s1), if_pos (free .s2), empty, List.nil_append] at queue first second
  refine ⟨?_, ?_, queue⟩
  · rw [first]
    cases joining <;> rfl
  · rw [second]
    obtain _ | ⟨b, _ | ⟨c, rest⟩⟩ := joining <;> rfl

/-! ## The entry to DISCHARGING (R8, R111, R116) -/

/-- The entry to DISCHARGING writes the records, the bank table, the queue, the slots and the marks alone. -/
theorem State.enterDischarging_shape (s : State) (h : HallId) :
    s.enterDischarging h =
      { s with
        halls := (s.fired h).halls, banks := (s.fired h).banks, queue := (s.enterDischarging h).queue
        slots := (s.enterDischarging h).slots, write := (s.enterDischarging h).write
        markQueue := (s.enterDischarging h).markQueue } := State.fillSlots_eq (s.fired h)

theorem State.queuedFrom_enterDischarging (s : State) (h : HallId) :
    s.queuedFrom (s.enterDischarging h) (s.joining h) := State.queuedFrom_fillSlots rfl rfl rfl rfl

theorem State.hall_enterDischarging (s : State) (h : HallId) :
    (s.enterDischarging h).hall h = { s.hall h with inc := { s.inc h with state := .discharging } } := by
  rw [State.enterDischarging_shape]
  exact State.hall_fired s h

theorem State.bank_enterDischarging (s : State) (h : HallId) (b : BankId) :
    (s.enterDischarging h).bank b =
      if b ∈ (s.inc h).allocBanks ∧ s.bank b = .reserved h then .firing h else s.bank b := by
  rw [State.enterDischarging_shape]
  exact State.bank_fired s h b

/-- The entry to DISCHARGING from SELECTING as one event. -/
theorem State.Event.inc_enterDischarging {s p t : State} {h : HallId} (e : State.Event s (p.enterDischarging h) t)
    (same : p.hall h = s.hall h) (st : s.hallState h = .selecting) :
    t.inc h = { s.inc h with state := .discharging, change := (s.inc h).change + 1 } := by
  have own := State.hall_enterDischarging p h
  have inc : p.inc h = s.inc h := congrArg Hall.inc same
  rw [same, inc] at own
  have changed : ¬ (s.inc h).content = ((p.enterDischarging h).inc h).content := fun k => by
    have states := (congrArg Incident.state k).trans (congrArg (fun x : Hall => x.inc.state) own)
    have discharging : s.hallState h = .discharging := states
    rw [st] at discharging
    cases discharging
  have hall := e.hall_of_changed changed
  rw [show (p.enterDischarging h).inc h = _ from congrArg Hall.inc own, own] at hall
  exact congrArg Hall.inc hall

end Sys2Proof.Machine

open Sys2Proof Sys2Proof.Machine in
/-- Settles O49: the one change of the dwell is the selector's contact; its closing by the three outcomes of
`State.provenCloses_cases`, its opening by `State.provenOpens_eq`. -/
theorem provenContactProvesSelector : Obligations.ProvenContactProvesSelector := by
  have stop (x : Manifold) : x.stopSelectorTimer =
      (match x.timer with | .selector _ => { x with timer := .stopped } | _ => x) := by
    unfold Manifold.stopSelectorTimer
    cases x.timer <;> rfl
  refine ⟨fun m h sample s sees => ?_, fun m h sample s sees => ?_⟩
  · obtain ⟨contacts, scan, event⟩ := State.exec_of_proven (m := m) (h := h) sees (by cases m <;> cases h <;> rfl)
    rw [if_pos rfl] at event
    have sel (n : ManId) (g : HallId) := State.selector_proved (s.begun s.work s.write contacts scan) m n h g
    have man (n : ManId) := State.man_proved (s.begun s.work s.write contacts scan) m n h
    refine ⟨_, event, ?_⟩
    obtain ⟨n, e⟩ | ⟨c, n, e⟩ | ⟨c, d, all, e⟩ := State.provenCloses_cases (s.begun s.work s.write contacts scan) m h
    all_goals rw [e]
    · rw [State.countChanges_of_halls (s := s) (u := s.begun s.work s.write contacts scan) rfl]
      exact ⟨rfl, fun _ _ _ => rfl, rfl, rfl, rfl, rfl, fun _ _ _ => rfl, fun _ _ => rfl, fun _ => ⟨rfl, rfl, rfl, rfl⟩,
        fun k => absurd k n⟩
    · rw [State.countChanges_of_halls (s := s) (u := (s.begun s.work s.write contacts scan).proved m h) rfl]
      refine ⟨rfl, fun _ _ _ => rfl, rfl, rfl, rfl, rfl, fun k g other => (sel k g).trans (if_neg other),
        fun k other => (man k).trans (if_neg fun x => other x.symm), fun k => absurd c k, fun _ => ⟨?_, ?_,
        fun _ => ⟨rfl, rfl, rfl, rfl, rfl⟩, fun st proven => absurd ⟨st, proven⟩ n⟩⟩
      · rw [sel, if_pos ⟨rfl, rfl⟩, c]
      · rw [man, if_pos rfl]
        exact stop (s.man m)
    · have shape := State.enterDischarging_shape ((s.begun s.work s.write contacts scan).proved m h) h
      have queued := State.queuedFrom_enterDischarging ((s.begun s.work s.write contacts scan).proved m h) h
      have bank := State.bank_enterDischarging ((s.begun s.work s.write contacts scan).proved m h) h
      have others (g : HallId) (n : ¬ h = g) :=
        State.hall_enterDischarging_other ((s.begun s.work s.write contacts scan).proved m h) n
      have run := State.event_countChanges s (((s.begun s.work s.write contacts scan).proved m h).enterDischarging h)
      have inc := run.inc_enterDischarging rfl d
      generalize ((s.begun s.work s.write contacts scan).proved m h).enterDischarging h = v at *
      refine ⟨?_, fun g n _ => run.hall_of_same (others g fun x => n x.symm), ?_, ?_, ?_, ?_, fun k g other => ?_,
        fun k other => ?_, fun k => absurd c k, fun _ => ⟨?_, ?_, fun k => ?_, fun _ _ => ⟨inc, bank, queued, ?_, ?_, ?_,
        fun full => ?_, fun free empty => ?_⟩⟩⟩
      · exact (congrArg State.work shape).trans rfl
      · exact (congrArg State.waitList shape).trans rfl
      · exact (congrArg State.portsPart shape).trans rfl
      · exact (congrArg State.linesPart shape).trans rfl
      · exact (congrArg State.initiators shape).trans rfl
      · exact (congrArg (fun x => State.selector x k g) shape).trans ((sel k g).trans (if_neg other))
      · exact (congrArg (fun x => State.man x k) shape).trans ((man k).trans (if_neg fun x => other x.symm))
      · refine (congrArg (fun x => State.selector x m h) shape).trans ((sel m h).trans ?_)
        rw [if_pos ⟨rfl, rfl⟩, c]
      · refine (congrArg (fun x => State.man x m) shape).trans ((man m).trans ?_)
        rw [if_pos rfl]
        exact stop (s.man m)
      · obtain n | ⟨k, other, held, unproven⟩ := k
        · exact absurd d n
        · exact absurd ((all k other held).symm.trans unproven) (by simp)
      · exact (congrArg State.nvPlan shape).trans rfl
      · exact (congrArg State.nvSpent shape).trans rfl
      · exact (congrArg State.overlay shape).trans rfl
      · obtain ⟨queue, slots, write, marks⟩ := State.queuedFrom_of_full queued full
        refine ⟨queue, slots, ?_⟩
        refine (congrArg State.storePart shape).trans ?_
        unfold State.storePart
        rw [write, marks]
        rfl
      · exact State.queuedFrom_of_idle queued free empty
  · obtain ⟨contacts, scan, event⟩ := State.exec_of_proven (m := m) (h := h) sees (by cases m <;> cases h <;> rfl)
    rw [if_neg Bool.false_ne_true, State.provenOpens_eq] at event
    refine ⟨_, event, ?_⟩
    by_cases c : s.selector m h = ⟨true, true⟩
    · rw [if_pos (show (s.begun s.work s.write contacts scan).selector m h = _ from c)]
      split
      · rename_i g carried
        have carried : (s.man m).state.releasing = some g := carried
        refine ⟨rfl, rfl, rfl, rfl, rfl, rfl, rfl, rfl, fun f => ?_⟩
        have run := (State.event_countChanges s ((s.begun s.work s.write contacts scan).setSelectorLost g)).hall f
        rw [carried]
        by_cases k : g = f
        · subst k
          refine ⟨fun _ _ => ?_, fun n => absurd n (not_or.2 ⟨not_not.2 c, not_not.2 rfl⟩)⟩
          rw [run, show ((s.begun s.work s.write contacts scan).setSelectorLost g).hall g = _ from
            State.hall_modHall_same _ g _]
          exact Hall.countChange_selectorLost (s.hall g)
        · refine ⟨fun _ e => absurd (Option.some.inj e) k, fun _ => ?_⟩
          rw [run, State.hall_setSelectorLost_other _ k]
          exact Hall.countChange_same _
      · rename_i none
        have none : (s.man m).state.releasing = .none := none
        rw [State.countChanges_of_halls (s := s) (u := s.begun s.work s.write contacts scan) rfl]
        exact ⟨rfl, rfl, rfl, rfl, rfl, rfl, rfl, rfl, fun g => ⟨fun _ e => absurd (none.symm.trans e) (by simp),
          fun _ => rfl⟩⟩
    · rw [if_neg (show ¬ (s.begun s.work s.write contacts scan).selector m h = _ from c),
        State.countChanges_of_halls (s := s) (u := s.begun s.work s.write contacts scan) rfl]
      exact ⟨rfl, rfl, rfl, rfl, rfl, rfl, rfl, rfl, fun g => ⟨fun k => absurd k c, fun _ => rfl⟩⟩
end

section
/-! The layouts of R172 to R174 as rules: which bytes stand at a place of a payload, and the number they carry. -/

namespace Sys2Proof.Machine

/-! ## Bytes at a place -/

/-- The bytes `x` stand in `r` from `place` on. -/
def stands (r : List Byte) (place : Nat) (x : List Byte) : Prop := (r.drop place).take x.length = x

theorem stands_append_right {a b x : List Byte} {place k : Nat} (e : place = a.length + k) (h : stands b k x) :
    stands (a ++ b) place x := by
  unfold stands at h ⊢
  rw [e, List.drop_append, List.drop_eq_nil_of_le (Nat.le_add_right _ _), List.nil_append, Nat.add_sub_cancel_left]
  exact h

theorem stands_append_left {a x : List Byte} {place : Nat} (b : List Byte) (h : stands a place x) :
    stands (a ++ b) place x := by
  unfold stands at h ⊢
  have fits : x.length ≤ (a.drop place).length := by
    have l := congrArg List.length h
    rw [List.length_take] at l
    omega
  cases x with
  | nil => rfl
  | cons y ys =>
    have inside : place ≤ a.length := by
      rw [List.length_drop, List.length_cons] at fits
      omega
    rw [List.drop_append_of_le_length inside, List.take_append_of_le_length fits]
    exact h

/-- Items of one width laid one after the other: item `n` stands at its place. -/
theorem stands_flatMap {α : Type} {f : α → List Byte} {width : Nat} (len : ∀ y, (f y).length = width) {l : List α}
    {n j : Nat} {y : α} {x : List Byte} (e : l[n]? = some y) (h : stands (f y) j x) :
    stands (l.flatMap f) (width * n + j) x := by
  induction l generalizing n with
  | nil => simp at e
  | cons z rest ih =>
    rw [List.flatMap_cons]
    cases n with
    | zero =>
      cases e
      rw [Nat.mul_zero, Nat.zero_add]
      exact stands_append_left _ h
    | succ n =>
      refine stands_append_right (k := width * n + j) ?_ (ih e)
      rw [len, Nat.mul_succ]
      omega

theorem length_flatMap {α : Type} {f : α → List Byte} {width : Nat} (len : ∀ y, (f y).length = width) (l : List α) :
    (l.flatMap f).length = width * l.length := by
  rw [List.length_flatMap, List.map_congr_left fun y _ => len y, List.map_const', List.sum_replicate, smul_eq_mul,
    Nat.mul_comm]

/-- Single bytes are items of width 1. -/
theorem stands_map {α : Type} (f : α → Byte) {l : List α} {n : Nat} {y : α} (e : l[n]? = some y) :
    stands (l.map f) n [f y] := by
  have at_n := stands_flatMap (f := fun y => [f y]) (width := 1) (fun _ => rfl) (j := 0) (x := [f y]) e rfl
  rw [Nat.one_mul, Nat.add_zero] at at_n
  rw [List.map_eq_flatMap]
  exact at_n

/-- Fields of any width laid one after the other: field `n` stands behind the widths of those before it. -/
theorem stands_field {fields : List (List Byte)} {widths : List Nat} (w : fields.map List.length = widths) {n place : Nat}
    {x : List Byte} (e : fields[n]? = some x) (before : (widths.take n).sum = place) (rest : List Byte) :
    stands (fields.flatten ++ rest) place x := by
  refine stands_append_left rest ?_
  rw [← before, ← w]
  clear before w
  induction fields generalizing n with
  | nil => simp at e
  | cons y ys ih =>
    rw [List.flatten_cons]
    cases n with
    | zero =>
      cases e
      exact stands_append_left _ List.take_length
    | succ n => exact stands_append_right rfl (ih e)

/-! ## The numbers that bytes carry -/

theorem toNat_byteOf (n : Nat) : (byteOf n).toNat = n % 256 := by simp [byteOf]

theorem carries_of_stands {r x : List Byte} {place size n : Nat} (h : stands r place x) (len : x.length = size)
    (e : spelled x = n % 256 ^ size) : carries r place size n := by
  unfold stands at h
  rw [len] at h
  unfold carries
  rw [h]
  exact ⟨len, e⟩

theorem carries_byte {r : List Byte} {place n : Nat} {b : Byte} (h : stands r place [b]) (e : b.toNat = n % 256) :
    carries r place 1 n := by
  refine carries_of_stands h rfl ?_
  simpa [spelled] using e

theorem carries_byteOf {r : List Byte} {place n : Nat} (h : stands r place [byteOf n]) : carries r place 1 n :=
  carries_byte h (toNat_byteOf n)

theorem carries_code {r : List Byte} {place : Nat} {b : Byte} (h : stands r place [b]) : carries r place 1 b.toNat :=
  carries_byte h (Nat.mod_eq_of_lt b.isLt).symm

theorem carries_bytes2 {r : List Byte} {place n : Nat} (h : stands r place (bytes2 n)) : carries r place 2 n := by
  refine carries_of_stands h rfl ?_
  simp only [spelled, bytes2, List.foldl, toNat_byteOf]
  omega

theorem carries_bytes3 {r : List Byte} {place n : Nat} (h : stands r place (bytes3 n)) : carries r place 3 n := by
  refine carries_of_stands h rfl ?_
  simp only [spelled, bytes3, List.foldl, toNat_byteOf]
  omega

theorem carries_bytes4 {r : List Byte} {place n : Nat} (h : stands r place (bytes4 n)) : carries r place 4 n := by
  refine carries_of_stands h rfl ?_
  simp only [spelled, bytes4, List.foldl, toNat_byteOf]
  omega

/-! ## Values that may be absent (R172) -/

theorem optional2_eq (n : Option Nat) : optional2 n = bytes2 (n.getD 0xFFFF) := by cases n <;> rfl

theorem optional3_eq (n : Option Nat) : optional3 n = bytes3 (n.getD 0xFFFFFF) := by cases n <;> rfl

theorem optionalTemp_eq (t : Option Int) : optionalTemp t = tempByte (t.getD (-128)) := by cases t <;> rfl

theorem carries_temp {r : List Byte} {place : Nat} {t : Option Int} (h : stands r place [optionalTemp t]) :
    carries r place 1 (tempNumber t) := by
  rw [optionalTemp_eq] at h
  exact carries_code h

theorem hallNumOpt_eq (h : Option HallId) : hallNumOpt h = byteOf (hallNumber h) := by cases h <;> rfl

theorem maskByte_eq (t : PerHall Bool) : maskByte t = byteOf (maskNumber t) := by
  unfold maskByte maskNumber
  congr 1
  show _ = flagBit t.h1 0 + (flagBit t.h2 1 + (flagBit t.h3 2 + (flagBit t.h4 3 + (flagBit t.h5 4 + (flagBit t.h6 5 + 0)))))
  simp only [flagBit, bitAt]
  omega

end Sys2Proof.Machine
end

section
/-! The replies of the reads, laid out field by field (R64, R78, R127, R142, R155, R171 to R174, R184). -/

namespace Sys2Proof.Machine

theorem carries_hall {r : List Byte} {place : Nat} {h : Option HallId} (at_place : stands r place [hallNumOpt h]) :
    carries r place 1 (hallNumber h) := by
  rw [hallNumOpt_eq] at at_place
  exact carries_byteOf at_place

theorem carries_mask {r : List Byte} {place : Nat} {t : PerHall Bool} (at_place : stands r place [maskByte t]) :
    carries r place 1 (maskNumber t) := by
  rw [maskByte_eq] at at_place
  exact carries_byteOf at_place

theorem bankId_at (b : BankId) : BankId.all[b.num - 1]? = some b := by cases b <;> rfl

theorem manId_at (m : ManId) : ManId.all[m.num - 1]? = some m := by cases m <;> rfl

theorem hallId_at (h : HallId) : HallId.all[h.num - 1]? = some h := by cases h <;> rfl

theorem line_at (d : Line) : Line.all[d.num]? = some d := by cases d <;> rfl

/-! ## The agent store (R24, R127) -/

theorem State.banksLaidOut_banksReport (s : State) : s.banksLaidOut s.banksReport := by
  have item {b : BankId} {k : Nat} {x : List Byte} (h : stands (s.bankReport b) k x) :
      stands s.banksReport (13 * (b.num - 1) + k) x :=
    stands_append_left _ (stands_flatMap (f := s.bankReport) (width := 13) (fun _ => rfl) (bankId_at b) h)
  refine ⟨rfl, fun b => ?_, carries_code rfl⟩
  exact ⟨carries_code (item (k := 0) rfl), carries_hall (item (k := 1) rfl), carries_byteOf (item (k := 2) rfl),
    carries_byteOf (item (k := 3) rfl), carries_bytes2 (item (k := 4) rfl), carries_bytes2 (item (k := 6) rfl),
    carries_bytes2 (item (k := 8) rfl), carries_bytes2 (item (k := 10) rfl), carries_byteOf (item (k := 12) rfl)⟩

theorem State.manifoldBits_eq (s : State) (m : ManId) :
    s.manifoldBits m =
      flagBit (s.man m).flowConfirmed 0 + flagBit ((s.holder m).any fun h => (s.selector m h).energised) 1 +
        flagBit ((s.holder m).any fun h => (s.selector m h).proven) 2 := by
  unfold State.manifoldBits
  cases s.holder m with
  | none => rfl
  | some h => exact (Nat.add_assoc _ _ _).symm

theorem State.manifoldsLaidOut_manifoldsReport (s : State) : s.manifoldsLaidOut s.manifoldsReport := by
  have width (m : ManId) : (s.manifoldReport m).length = 15 := by
    rw [State.manifoldReport, optional2_eq]
    rfl
  have item {m : ManId} {k : Nat} {x : List Byte} (h : stands (s.manifoldReport m) k x) :
      stands s.manifoldsReport (15 * (m.num - 1) + k) x := stands_flatMap width (manId_at m) h
  have remaining (x : ManTimer) : x.remaining.getD 0xFFFF =
      (match x with
        | .stopped => 0xFFFF | .selector x => x.tenths | .flow x => x.tenths | .vent x => x.tenths) := by
    cases x <;> rfl
  have code (x : ManTimer) : x.code.toNat =
      (match x with | .stopped => 0 | .selector _ => 1 | .flow _ => 2 | .vent _ => 3) % 256 := by cases x <;> rfl
  refine ⟨length_flatMap width ManId.all, fun m => ?_⟩
  refine ⟨carries_code (item (k := 0) rfl), carries_hall (item (k := 1) rfl), carries_mask (item (k := 2) rfl),
    carries_bytes2 (item (k := 3) rfl), carries_bytes2 (item (k := 5) rfl), carries_byteOf (item (k := 7) rfl),
    carries_byteOf (item (k := 8) rfl), carries_bytes2 (item (k := 9) rfl), ?_,
    carries_byte (item (k := 12) rfl) (code (s.man m).timer), ?_⟩
  · have bits := carries_byteOf (item (m := m) (k := 11) (x := [byteOf (s.manifoldBits m)]) rfl)
    rw [State.manifoldBits_eq] at bits
    exact bits
  · have left := carries_bytes2 (item (m := m) (k := 13) (x := bytes2 ((s.man m).timer.remaining.getD 0xFFFF)) (by
      rw [State.manifoldReport, optional2_eq]
      rfl))
    rw [remaining] at left
    exact left

/-! ## The station's status (R78, R171) -/

theorem Slot.laidOut_bytes {x : Slot} {r : List Byte} {place : Nat} (h : stands r place [bankNumOpt x.bank])
    (h' : stands r (place + 1) [x.phaseCode]) : x.laidOut r place := by
  cases x <;> exact ⟨carries_byteOf h, carries_byte h' rfl⟩

theorem State.hallReport_eq (s : State) (h : HallId) :
    s.hallReport h =
      [(s.hallState h).code] ++ bytes2 (s.inc h).change.toNat ++ bytes3 (s.available h) ++ [byteOf (s.hallBits h)] ++
      bytes2 (((s.hall h).discharge.map Timer.tenths).getD 0xFFFF) := by
  rw [State.hallReport, optional2_eq]

/-- What follows the queue in the status reply. -/
def State.statusEnd (s : State) : List Byte :=
  (s.slots.get .s1).bytes ++ (s.slots.get .s2).bytes ++
  [byteOf (bitAt s.write.isSome 0), byteOf s.markQueue.length, s.work.lock.code, byteOf (bitAt s.overlay 0)] ++
  bytes4 s.confCounter

theorem State.statusReport_eq (s : State) :
    s.statusReport =
      HallId.all.flatMap s.hallReport ++ ([byteOf s.waitList.length] ++ (s.waitList.flatMap s.waitReport ++
        ([byteOf s.queue.length] ++ ((s.queue.map fun b => byteOf b.num) ++ s.statusEnd)))) := by
  simp only [State.statusReport, State.statusEnd, List.append_assoc]

theorem State.statusLaidOut_statusReport (s : State) : s.statusLaidOut s.statusReport := by
  have width (h : HallId) : (s.hallReport h).length = 9 := by
    rw [State.hallReport_eq]
    rfl
  have halls : (HallId.all.flatMap s.hallReport).length = 54 := length_flatMap width HallId.all
  have waits : (s.waitList.flatMap s.waitReport).length = 5 * s.waitList.length :=
    length_flatMap (f := s.waitReport) (width := 5) (fun _ => rfl) s.waitList
  have queue : (s.queue.map fun b => byteOf b.num).length = s.queue.length := List.length_map _
  rw [State.statusReport_eq]
  have hall {h : HallId} {k : Nat} {x : List Byte} {rest : List Byte}
      (at_hall : stands (s.hallReport h) k x) :
      stands (HallId.all.flatMap s.hallReport ++ rest) (9 * (h.num - 1) + k) x :=
    stands_append_left _ (stands_flatMap width (hallId_at h) at_hall)
  have after {rest x : List Byte} {k : Nat} (h : stands rest k x) :
      stands (HallId.all.flatMap s.hallReport ++ rest) (54 + k) x := stands_append_right (by rw [halls]) h
  have past {rest x : List Byte} {k : Nat} (h : stands rest k x) :
      stands (HallId.all.flatMap s.hallReport ++ ([byteOf s.waitList.length] ++ (s.waitList.flatMap s.waitReport ++ rest)))
        (55 + 5 * s.waitList.length + k) x :=
    stands_append_right (k := 1 + 5 * s.waitList.length + k) (by omega)
      (stands_append_right (k := 5 * s.waitList.length + k) (by rw [List.length_singleton]; omega)
        (stands_append_right (by rw [waits]) h))
  have ending {x : List Byte} (k : Nat) {place : Nat} (e : place = 56 + 5 * s.waitList.length + s.queue.length + k)
      (h : stands s.statusEnd k x) :
      stands (HallId.all.flatMap s.hallReport ++ ([byteOf s.waitList.length] ++ (s.waitList.flatMap s.waitReport ++
        ([byteOf s.queue.length] ++ ((s.queue.map fun b => byteOf b.num) ++ s.statusEnd))))) place x := by
    have e' : place = 55 + 5 * s.waitList.length + (1 + (s.queue.length + k)) := by omega
    rw [e']
    exact past (stands_append_right (by rw [List.length_singleton]) (stands_append_right (by rw [queue]) h))
  refine ⟨?_, fun h => ?_, carries_byteOf (after (k := 0) rfl), fun n h e => ?_, carries_byteOf (past (k := 0) rfl),
    fun n b e => ?_, Slot.laidOut_bytes (ending 0 rfl rfl) (ending 1 rfl rfl),
    Slot.laidOut_bytes (ending 2 (by omega) rfl) (ending 3 (by omega) rfl), carries_byteOf (ending 4 (by omega) rfl),
    carries_byteOf (ending 5 (by omega) rfl), carries_code (ending 6 (by omega) rfl),
    carries_byteOf (ending 7 (by omega) rfl), carries_bytes4 (ending 8 (by omega) rfl)⟩
  · simp only [List.length_append, halls, waits, queue, List.length_singleton]
    have last : s.statusEnd.length = 12 := rfl
    omega
  · have item {k : Nat} {x : List Byte} := @hall h k x
    rw [State.hallReport_eq] at item
    exact ⟨carries_code (item (k := 0) rfl), carries_bytes2 (item (k := 1) rfl), carries_bytes3 (item (k := 3) rfl),
      carries_byteOf (item (k := 6) rfl), carries_bytes2 (item (k := 7) rfl)⟩
  · have item {k place : Nat} {x rest : List Byte} (e' : place = 55 + 5 * n + k)
        (at_hall : stands (s.waitReport h) k x) :
        stands (HallId.all.flatMap s.hallReport ++ ([byteOf s.waitList.length] ++ (s.waitList.flatMap s.waitReport ++ rest)))
          place x :=
      stands_append_right (k := 1 + (5 * n + k)) (by omega)
        (stands_append_right (by rw [List.length_singleton])
          (stands_append_left _ (stands_flatMap (width := 5) (fun _ => rfl) e at_hall)))
    exact ⟨carries_byteOf (item (k := 0) rfl rfl), carries_bytes4 (item (k := 1) (by omega) rfl)⟩
  · refine carries_byteOf ?_
    rw [show 56 + 5 * s.waitList.length + n = 55 + 5 * s.waitList.length + (1 + n) by omega]
    exact past (stands_append_right (by rw [List.length_singleton])
      (stands_append_left _ (stands_map (fun b : BankId => byteOf b.num) e)))

/-! ## Incidents (R64) -/

/-- The fixed fields of an incident's reply. -/
def State.incidentHead (s : State) (h : HallId) : List (List Byte) :=
  [[byteOf h.num], bytes2 (s.inc h).number.toNat, bytes2 (s.inc h).change.toNat, [(s.inc h).state.code],
    [byteOf (s.inc h).recordBits], [causeCode (s.inc h).cause], bytes4 ((s.inc h).confNumber.getD 0),
    [optionalTemp (s.inc h).tLow], [optionalTemp (s.inc h).tHigh], bytes3 ((s.inc h).required.getD 0xFFFFFF),
    bytes3 (s.inc h).total, bytes2 ((s.inc h).estimate.getD 0xFFFF), bytes2 ((s.inc h).countdown.getD 0xFFFF),
    bytes2 (s.inc h).holdUsed, bytes2 (s.inc h).flags.bits, [closingCode (s.inc h).closing],
    [byteOf (s.inc h).latched.length]]

/-- The entries behind the fixed fields of an incident's reply. -/
def Incident.entries (i : Incident) : List Byte :=
  i.latched.flatMap Latched.bytes ++ ([byteOf i.alloc.length] ++ i.alloc.flatMap AllocEntry.bytes)

theorem State.incidentReport_eq (s : State) (h : HallId) :
    s.incidentReport h = (s.incidentHead h).flatten ++ (s.inc h).entries := by
  simp [State.incidentReport, State.incidentHead, Incident.entries, optional2_eq, optional3_eq]

theorem State.widths_incidentHead (s : State) (h : HallId) :
    (s.incidentHead h).map List.length = [1, 2, 2, 1, 1, 1, 4, 1, 1, 3, 3, 2, 2, 2, 2, 1, 1] := rfl

theorem State.length_incidentHead (s : State) (h : HallId) : (s.incidentHead h).flatten.length = 30 := by
  rw [List.length_flatten, State.widths_incidentHead]
  rfl

/-- The fixed fields, each at its place. -/
theorem State.stands_incidentHead {s : State} {h : HallId} (n : Nat) {place : Nat} {x : List Byte}
    (e : (s.incidentHead h)[n]? = some x)
    (before : ([1, 2, 2, 1, 1, 1, 4, 1, 1, 3, 3, 2, 2, 2, 2, 1, 1].take n).sum = place) :
    stands (s.incidentReport h) place x := by
  rw [State.incidentReport_eq]
  exact stands_field (State.widths_incidentHead s h) e before _

/-- What stands in the entries stands behind the fixed fields. -/
theorem State.stands_entries {s : State} {h : HallId} {k place : Nat} {x : List Byte} (e : place = 30 + k)
    (at_entry : stands (s.inc h).entries k x) : stands (s.incidentReport h) place x := by
  rw [State.incidentReport_eq]
  exact stands_append_right (by rw [State.length_incidentHead, e]) at_entry

theorem Incident.length_latched (i : Incident) : (i.latched.flatMap Latched.bytes).length = 4 * i.latched.length :=
  length_flatMap (f := Latched.bytes) (width := 4) (fun _ => rfl) _

theorem Incident.stands_latched {i : Incident} {n k : Nat} {e : Latched} {x : List Byte} (at_n : i.latched[n]? = some e)
    (at_item : stands e.bytes k x) : stands i.entries (4 * n + k) x :=
  stands_append_left _ (stands_flatMap (f := Latched.bytes) (width := 4) (fun _ => rfl) at_n at_item)

theorem Incident.stands_alloc {i : Incident} {n k : Nat} {e : AllocEntry} {x : List Byte} (at_n : i.alloc[n]? = some e)
    (at_item : stands e.bytes k x) : stands i.entries (4 * i.latched.length + (1 + (3 * n + k))) x :=
  stands_append_right (by rw [Incident.length_latched]) (stands_append_right (by rw [List.length_singleton])
    (stands_flatMap (f := AllocEntry.bytes) (width := 3) (fun _ => rfl) at_n at_item))

theorem State.incidentLaidOut_incidentReport (s : State) (h : HallId) : s.incidentLaidOut h (s.incidentReport h) := by
  refine ⟨?_, carries_byteOf (State.stands_incidentHead 0 rfl rfl), carries_bytes2 (State.stands_incidentHead 1 rfl rfl),
    carries_bytes2 (State.stands_incidentHead 2 rfl rfl), carries_code (State.stands_incidentHead 3 rfl rfl),
    carries_byteOf (State.stands_incidentHead 4 rfl rfl), carries_code (State.stands_incidentHead 5 rfl rfl),
    carries_bytes4 (State.stands_incidentHead 6 rfl rfl), carries_temp (State.stands_incidentHead 7 rfl rfl),
    carries_temp (State.stands_incidentHead 8 rfl rfl), carries_bytes3 (State.stands_incidentHead 9 rfl rfl),
    carries_bytes3 (State.stands_incidentHead 10 rfl rfl), carries_bytes2 (State.stands_incidentHead 11 rfl rfl),
    carries_bytes2 (State.stands_incidentHead 12 rfl rfl), carries_bytes2 (State.stands_incidentHead 13 rfl rfl),
    carries_bytes2 (State.stands_incidentHead 14 rfl rfl), carries_code (State.stands_incidentHead 15 rfl rfl),
    carries_byteOf (State.stands_incidentHead 16 rfl rfl), fun n e at_n => ?_, carries_byteOf ?_, fun n e at_n => ?_⟩
  · have alloc : ((s.inc h).alloc.flatMap AllocEntry.bytes).length = 3 * (s.inc h).alloc.length :=
      length_flatMap (f := AllocEntry.bytes) (width := 3) (fun _ => rfl) _
    rw [State.incidentReport_eq, List.length_append, State.length_incidentHead, Incident.entries, List.length_append,
      List.length_append, Incident.length_latched, alloc, List.length_singleton]
    omega
  · exact ⟨carries_code (State.stands_entries (by omega) (Incident.stands_latched (k := 0) at_n rfl)),
      carries_code (State.stands_entries (by omega) (Incident.stands_latched (k := 1) at_n rfl)),
      carries_bytes2 (State.stands_entries (by omega) (Incident.stands_latched (k := 2) at_n rfl))⟩
  · exact State.stands_entries rfl (stands_append_right (k := 0) (by rw [Incident.length_latched]; rfl)
      (stands_append_left _ rfl))
  · exact ⟨carries_byteOf (State.stands_entries (by omega) (Incident.stands_alloc (k := 0) at_n rfl)),
      carries_bytes2 (State.stands_entries (by omega) (Incident.stands_alloc (k := 1) at_n rfl))⟩

end Sys2Proof.Machine
end

section
/-! The replies on links, contacts, plan records and circuits, laid out field by field (R142, R155, R171, R174, R184). -/

namespace Sys2Proof.Machine

/-! ## Links (R171) -/

/-- The fixed fields of a link's reply. -/
def State.linkHead (s : State) (h : HallId) : List (List Byte) :=
  [[byteOf h.num], [(s.link h).state.code], [byteOf (s.link h).sticky.bits],
    bytes2 (((s.link h).silence.map Timer.tenths).getD 0xFFFF), [byteOf (bitAt (s.link h).hold 0)],
    [optionalTemp (s.link h).low], [optionalTemp (s.link h).high], [byteOf (s.zones h).length]]

theorem State.widths_linkHead (s : State) (h : HallId) :
    (s.linkHead h).map List.length = [1, 1, 1, 2, 1, 1, 1, 1] := rfl

theorem State.linkReport_eq (s : State) (h : HallId) :
    s.linkReport h = (s.linkHead h).flatten ++ (s.zones h).flatMap Zone.bytes := by
  simp [State.linkReport, State.linkHead, optional2_eq]

theorem State.linkLaidOut_linkReport (s : State) (h : HallId) : s.linkLaidOut h (s.linkReport h) := by
  have length : (s.linkHead h).flatten.length = 9 := by
    rw [List.length_flatten, State.widths_linkHead]
    rfl
  have head (n : Nat) {place : Nat} {x : List Byte} (e : (s.linkHead h)[n]? = some x)
      (before : ([1, 1, 1, 2, 1, 1, 1, 1].take n).sum = place) : stands (s.linkReport h) place x := by
    rw [State.linkReport_eq]
    exact stands_field (State.widths_linkHead s h) e before _
  have item {n k place : Nat} {z : Zone} {x : List Byte} (e : place = 9 + (3 * n + k)) (at_n : (s.zones h)[n]? = some z)
      (at_item : stands z.bytes k x) : stands (s.linkReport h) place x := by
    rw [State.linkReport_eq]
    exact stands_append_right (by rw [length, e]) (stands_flatMap (width := 3) (fun _ => rfl) at_n at_item)
  refine ⟨?_, carries_byteOf (head 0 rfl rfl), carries_code (head 1 rfl rfl), carries_byteOf (head 2 rfl rfl),
    carries_bytes2 (head 3 rfl rfl), carries_byteOf (head 4 rfl rfl), carries_temp (head 5 rfl rfl),
    carries_temp (head 6 rfl rfl), carries_byteOf (head 7 rfl rfl), fun n z at_n => ?_⟩
  · rw [State.linkReport_eq, List.length_append, length,
      length_flatMap (f := Zone.bytes) (width := 3) (fun _ => rfl)]
    rfl
  · exact ⟨carries_code (item (k := 0) (by omega) at_n rfl), carries_code (item (k := 1) (by omega) at_n rfl),
      carries_code (item (k := 2) (by omega) at_n rfl)⟩

/-! ## Contacts (R155) -/

theorem State.contactsLaidOut_contactsReport (s : State) : s.contactsLaidOut s.contactsReport := by
  have rows : (Line.all.flatMap fun d => Line.all.map fun r => byteOf (s.contact d r).bits).length = 64 :=
    length_flatMap (width := 8) (fun _ => rfl) Line.all
  refine ⟨rfl, fun d e => carries_byteOf ?_, fun e => carries_byteOf ?_, carries_code ?_⟩
  · exact stands_append_left _ (stands_append_left _ (stands_flatMap (width := 8) (fun _ => rfl) (line_at d)
      (stands_map (fun r => byteOf (s.contact d r).bits) (line_at e))))
  · exact stands_append_left _ (stands_append_right (by rw [rows])
      (stands_map (fun r => byteOf (s.returns.get r).bits) (line_at e)))
  · refine stands_append_right (k := 0) ?_ rfl
    rw [List.length_append, rows]
    rfl

/-! ## Plan records (R174, R184) -/

/-- The fixed fields of a hall record's reply. -/
def State.hallPlanHead (s : State) (h : HallId) : List (List Byte) :=
  [[4], [byteOf h.num], [(s.hallPlan h).rule.code], [byteOf (bitAt (s.hallPlan h).fallback 0)],
    bytes2 (s.hallPlan h).volume, bytes2 (s.hallPlan h).design, bytes2 (s.hallPlan h).maximum,
    [tempByte (s.hallPlan h).designLow], [tempByte (s.hallPlan h).designHigh], [byteOf (s.hallPlan h).autoDelay],
    [byteOf (s.hallPlan h).manualDelay], bytes2 (s.hallPlan h).holdLimit, [byteOf (s.hallPlan h).restartFloor],
    [byteOf (bitAt (s.hallPlan h).partialPermitted 0)], bytes2 (s.hallPlan h).waitLimit,
    [byteOf (s.hallPlan h).discharge], [byteOf (s.hallPlan h).preference.length]]

theorem State.widths_hallPlanHead (s : State) (h : HallId) :
    (s.hallPlanHead h).map List.length = [1, 1, 1, 1, 2, 2, 2, 1, 1, 1, 1, 2, 1, 1, 2, 1, 1] := rfl

theorem State.planReport_hall (s : State) (h : HallId) :
    s.planReport (.hall h) =
      (s.hallPlanHead h).flatten ++ (((s.hallPlan h).preference.map fun b => byteOf b.num) ++
        [byteOf (s.hallPersistent h)]) := by
  simp [State.planReport, HallPlan.bytes, State.hallPlanHead]

theorem State.planLaidOut_hall (s : State) (h : HallId) : s.planLaidOut (.hall h) (s.planReport (.hall h)) := by
  have length : (s.hallPlanHead h).flatten.length = 22 := by
    rw [List.length_flatten, State.widths_hallPlanHead]
    rfl
  have listed : ((s.hallPlan h).preference.map fun b => byteOf b.num).length = (s.hallPlan h).preference.length :=
    List.length_map _
  have head (n : Nat) {place : Nat} {x : List Byte} (e : (s.hallPlanHead h)[n]? = some x)
      (before : ([1, 1, 1, 1, 2, 2, 2, 1, 1, 1, 1, 2, 1, 1, 2, 1, 1].take n).sum = place) :
      stands (s.planReport (.hall h)) place x := by
    rw [State.planReport_hall]
    exact stands_field (State.widths_hallPlanHead s h) e before _
  have rule (r : Rule) : r.code.toNat = (match r with | .cross => 1 | .double => 2) % 256 := by cases r <;> rfl
  refine ⟨?_, carries_byte (head 0 rfl rfl) rfl, carries_byteOf (head 1 rfl rfl),
    carries_byte (head 2 rfl rfl) (rule (s.hallPlan h).rule), carries_byteOf (head 3 rfl rfl),
    carries_bytes2 (head 4 rfl rfl), carries_bytes2 (head 5 rfl rfl), carries_bytes2 (head 6 rfl rfl),
    carries_code (head 7 rfl rfl), carries_code (head 8 rfl rfl), carries_byteOf (head 9 rfl rfl),
    carries_byteOf (head 10 rfl rfl), carries_bytes2 (head 11 rfl rfl), carries_byteOf (head 12 rfl rfl),
    carries_byteOf (head 13 rfl rfl), carries_bytes2 (head 14 rfl rfl), carries_byteOf (head 15 rfl rfl),
    carries_byteOf (head 16 rfl rfl), fun n b at_n => carries_byteOf ?_, carries_byteOf ?_⟩
  · rw [State.planReport_hall, List.length_append, List.length_append, length, listed, List.length_singleton]
    show 22 + ((s.hallPlan h).preference.length + 1) = 23 + (s.hallPlan h).preference.length
    omega
  · rw [State.planReport_hall]
    exact stands_append_right (by rw [length])
      (stands_append_left _ (stands_map (fun b : BankId => byteOf b.num) at_n))
  · rw [State.planReport_hall]
    exact stands_append_right (k := (s.hallPlan h).preference.length) (by rw [length]; rfl)
      (stands_append_right (k := 0) (by rw [listed]; rfl) rfl)

theorem State.planLaidOut_planReport (s : State) (name : RecordName) : s.planLaidOut name (s.planReport name) := by
  cases name with
  | site =>
    exact ⟨rfl, carries_byte rfl rfl, carries_byte rfl rfl, carries_bytes2 rfl, carries_bytes2 rfl, carries_mask rfl,
      carries_byteOf rfl⟩
  | man m =>
    exact ⟨rfl, carries_byte rfl rfl, carries_byteOf rfl, carries_mask rfl, carries_bytes2 rfl, carries_bytes2 rfl,
      carries_byteOf rfl, carries_byteOf rfl, carries_bytes2 rfl⟩
  | bank b =>
    have role (r : Role) : r.code.toNat = (match r with | .main => 0 | .reserve => 1) % 256 := by cases r <;> rfl
    exact ⟨rfl, carries_byte rfl rfl, carries_byteOf rfl, carries_byteOf rfl, carries_byte rfl (role (s.bankPlan b).role),
      carries_byteOf rfl, carries_bytes2 rfl, carries_bytes2 rfl, carries_bytes2 rfl, carries_byteOf rfl⟩
  | hall h => exact State.planLaidOut_hall s h

end Sys2Proof.Machine
end

section
/-! The reply on circuits (R142), and every read answered with its reply (O13). -/

namespace Sys2Proof.Machine

/-! ## Circuits (R142) -/

/-- One circuit of the reply. -/
def State.circuitItem (s : State) (e : CircuitId × Circuit) : List Byte :=
  [e.1.code] ++ bytes2 (s.openLimit e.1) ++ bytes2 (s.shortLimit e.1) ++ e.2.last.bytes ++ [byteOf (s.circuitBits e.1 e.2)]

/-- The selectors of a manifold whose circuits are present, in rotation order. -/
theorem State.presentSelectors (s : State) (m : ManId) (l : List HallId) :
    (l.map fun h => CircuitId.selector m h).filter (fun c => CircuitPart.selector.holds c && (s.circuit c).isSome) =
      (l.filterMap fun h => ((s.selCircuits.get m).get h).map fun x => (CircuitId.selector m h, x)).map Prod.fst := by
  induction l with
  | nil => rfl
  | cons h rest ih =>
    rw [List.map_cons, List.filter_cons, List.filterMap_cons, ih]
    have present : (s.circuit (.selector m h)).isSome = ((s.selCircuits.get m).get h).isSome := rfl
    rw [present]
    cases (s.selCircuits.get m).get h <;> simp [CircuitPart.holds]

theorem State.presentCircuits_eq (s : State) (part : CircuitPart) :
    s.presentCircuits part = (s.circuitsOf part).map Prod.fst := by
  cases part with
  | bank => rfl
  | selector =>
    unfold State.presentCircuits rotationOrder
    rw [List.filter_append, List.filter_append, State.presentSelectors, State.presentSelectors]
    simp only [State.circuitsOf, ManId.all, List.flatMap_cons, List.flatMap_nil, List.append_nil, List.map_append]
    rfl

/-- Each entry of the list is a present circuit with its record. -/
theorem State.circuit_of_mem {s : State} {part : CircuitPart} {e : CircuitId × Circuit} (k : e ∈ s.circuitsOf part) :
    s.circuit e.1 = some e.2 := by
  cases part with
  | bank =>
    obtain ⟨b, -, rfl⟩ := List.mem_map.1 k
    rfl
  | selector =>
    obtain ⟨m, -, k⟩ := List.mem_flatMap.1 k
    obtain ⟨h, -, k⟩ := List.mem_filterMap.1 k
    obtain ⟨x, present, rfl⟩ := Option.map_eq_some_iff.1 k
    exact present

theorem LastCount.bytes_eq (x : LastCount) :
    x.bytes = bytes2 (match x with | .count k => k | .over => 0xFFFE | .absent => 0xFFFF) := by cases x <;> rfl

theorem State.length_circuitItem (s : State) (e : CircuitId × Circuit) : (s.circuitItem e).length = 8 := by
  rw [State.circuitItem, LastCount.bytes_eq]
  rfl

theorem State.circuitsReport_eq (s : State) (part : CircuitPart) :
    s.circuitsReport part =
      [part.code, (match s.position with | some c => c.code | none => 0), byteOf (s.circuitsOf part).length] ++
      (s.circuitsOf part).flatMap s.circuitItem := by
  have items : ((s.circuitsOf part).map Prod.fst).flatMap s.circuitReport = (s.circuitsOf part).flatMap s.circuitItem := by
    rw [List.flatMap_map]
    refine List.flatMap_congr fun e k => ?_
    rw [State.circuitReport, State.circuit_of_mem k]
    rfl
  rw [State.circuitsReport, State.presentCircuits_eq, List.length_map, items] <;> rfl

theorem CircuitId.code_eq (c : CircuitId) : c.code = byteOf c.number := by cases c <;> rfl

theorem State.circuitBits_eq (s : State) (c : CircuitId) (x : Circuit) :
    s.circuitBits c x =
      x.condition.code + (match x.run with | none => 0 | some k => 4 * k.kind.code + 16 * k.length) +
        flagBit x.driven 6 + flagBit (match c with | .bank b => s.bank b == .spent | .selector _ _ => false) 7 := by
  unfold State.circuitBits
  cases x.run <;> cases c <;> rfl

theorem State.circuitsLaidOut_circuitsReport (s : State) (part : CircuitPart) :
    s.circuitsLaidOut part (s.circuitsReport part) := by
  have code : part.code.toNat = (match part with | .bank => 1 | .selector => 2) % 256 := by cases part <;> rfl
  have item {n k place : Nat} {e : CircuitId × Circuit} {x : List Byte} (p : place = 3 + (8 * n + k))
      (at_n : (s.circuitsOf part)[n]? = some e) (at_item : stands (s.circuitItem e) k x) :
      stands (s.circuitsReport part) place x := by
    rw [State.circuitsReport_eq]
    exact stands_append_right p (stands_flatMap (State.length_circuitItem s) at_n at_item)
  have position : (match s.position with | some c => c.code | none => 0 : Byte).toNat =
      (match s.position with | none => 0 | some c => c.number) % 256 := by
    cases s.position with
    | none => rfl
    | some c => exact (congrArg BitVec.toNat (CircuitId.code_eq c)).trans (toNat_byteOf _)
  refine ⟨?_, carries_byte ?_ code, carries_byte (b := match s.position with | some c => c.code | none => 0) ?_ position,
    carries_byteOf ?_, fun n c x at_n => ⟨carries_byteOf ?_, carries_bytes2 ?_, carries_bytes2 ?_, ?_, ?_⟩⟩
  · rw [State.circuitsReport_eq, List.length_append, length_flatMap (State.length_circuitItem s)]
    rfl
  · rw [State.circuitsReport_eq]
    rfl
  · rw [State.circuitsReport_eq]
    rfl
  · rw [State.circuitsReport_eq]
    rfl
  · refine item (k := 0) (by omega) at_n ?_
    rw [← CircuitId.code_eq]
    rfl
  · refine item (k := 1) (by omega) at_n ?_
    cases c <;> rfl
  · refine item (k := 3) (by omega) at_n ?_
    cases c <;> rfl
  · refine carries_bytes2 (item (k := 5) (by omega) at_n ?_)
    cases e : x.last <;> simp only [State.circuitItem, e] <;> rfl
  · have bits := item (k := 7) (x := [byteOf (s.circuitBits c x)]) rfl at_n (by
      rw [State.circuitItem, LastCount.bytes_eq]
      rfl)
    rw [State.circuitBits_eq] at bits
    refine carries_byteOf ?_
    rw [show 10 + 8 * n = 3 + (8 * n + 7) by omega]
    exact bits

/-! ## The replies (R159, R160) -/

/-- A read that its owner answers leaves only the reply behind. -/
theorem State.frameArrives_read {s : State} {p : Port} {k : Kind} {r : Request} (seq : Byte) {payload : List Byte}
    (ready : s.portReady p) (fits : payload.length ≤ Config.maxPayload) (permitted : k.permitted p = true)
    (link : s.linkAllows k p = true) (request : requestOf (s.declaredCount p) k payload = some r)
    (owner : s.carryOut p r = (s, .reply r)) :
    s.frameArrives p k.code seq payload = s.send p (frameBytes (k.code + 0x80) seq (s.replyTo r)) := by
  rw [State.frameArrives_ready s k.code seq ready fits]
  exact State.processFrame_of_answer s seq ((State.respond_admitted s permitted link request).trans owner) (by simp)

/-- The quantity available to a hall is the sum over its eligible banks (R20). -/
theorem State.available_eq_sum (s : State) (h : HallId) :
    s.available h =
      (BankId.all.map fun b =>
        if s.eligible h b = true then (s.bankPlan b).cylinders * (s.bankPlan b).fill else 0).sum := by
  unfold State.available
  induction BankId.all with
  | nil => rfl
  | cons b rest ih =>
    rw [List.filter_cons, List.map_cons, List.sum_cons, ← ih]
    by_cases e : s.eligible h b = true
    · rw [if_pos e, if_pos e]
      rfl
    · rw [if_neg e, if_neg e, Nat.zero_add]

/-! ## The reads at the station (R171) -/

/-- A read at the station. -/
theorem State.frameArrives_stationRead {s : State} {k : Kind} {r : Request} (seq : Byte) {payload : List Byte}
    (ready : s.portReady .station) (request : requestOf 0 k payload = some r)
    (fits : payload.length ≤ Config.maxPayload) (permitted : k.permitted .station = true)
    (owner : s.carryOut .station r = (s, .reply r)) :
    s.frameArrives .station k.code seq payload = s.send .station (frameBytes (k.code + 0x80) seq (s.replyTo r)) :=
  State.frameArrives_read seq ready fits permitted rfl request owner

section
variable {s : State} (seq : Byte) (ready : s.portReady .station)
include ready

theorem State.exec_readStatus :
    exec (.readStatus .station seq []) s = .next (s.send .station (frameBytes 0x90 seq s.statusReport)) :=
  congrArg Host.Outcome.next (State.frameArrives_stationRead (k := .readStatus) (r := .readStatus) seq ready rfl
    (Nat.le_of_ble_eq_true rfl) rfl rfl)

theorem State.exec_readManifolds :
    exec (.readManifolds .station seq []) s = .next (s.send .station (frameBytes 0x93 seq s.manifoldsReport)) :=
  congrArg Host.Outcome.next (State.frameArrives_stationRead (k := .readManifolds) (r := .readManifolds) seq ready rfl
    (Nat.le_of_ble_eq_true rfl) rfl rfl)

theorem State.exec_readLink (h : HallId) :
    exec (.readLink .station seq [byteOf h.num]) s = .next (s.send .station (frameBytes 0x94 seq (s.linkReport h))) :=
  congrArg Host.Outcome.next (State.frameArrives_stationRead (k := .readLink) (r := (.readLink h)) seq ready
      (by cases h <;> rfl)
    (Nat.le_of_ble_eq_true rfl) rfl rfl)

theorem State.exec_readCircuits (part : CircuitPart) :
    exec (.readCircuits .station seq [part.code]) s = .next (s.send .station (frameBytes 0x95 seq (s.circuitsReport part))) :=
  congrArg Host.Outcome.next (State.frameArrives_stationRead (k := .readCircuits) (r := (.readCircuits part)) seq ready
      (by cases part <;> rfl)
    (Nat.le_of_ble_eq_true rfl) rfl rfl)

theorem State.exec_readContacts :
    exec (.readContacts .station seq []) s = .next (s.send .station (frameBytes 0x96 seq s.contactsReport)) :=
  congrArg Host.Outcome.next (State.frameArrives_stationRead (k := .readContacts) (r := .readContacts) seq ready rfl
    (Nat.le_of_ble_eq_true rfl) rfl rfl)

theorem State.exec_readPlan_site :
    exec (.readPlan .station seq [1, 1]) s = .next (s.send .station (frameBytes 0x97 seq (s.planReport .site))) :=
  congrArg Host.Outcome.next (State.frameArrives_stationRead (k := .readPlan) (r := (.readPlan .site)) seq ready rfl
    (Nat.le_of_ble_eq_true rfl) rfl rfl)

theorem State.exec_readPlan_man (m : ManId) :
    exec (.readPlan .station seq [2, byteOf m.num]) s = .next (s.send .station (frameBytes 0x97 seq (s.planReport (.man m)))) :=
  congrArg Host.Outcome.next (State.frameArrives_stationRead (k := .readPlan) (r := (.readPlan (.man m))) seq ready
      (by cases m <;> rfl)
    (Nat.le_of_ble_eq_true rfl) rfl rfl)

theorem State.exec_readPlan_bank (b : BankId) :
    exec (.readPlan .station seq [3, byteOf b.num]) s = .next (s.send .station (frameBytes 0x97 seq (s.planReport (.bank b)))) :=
  congrArg Host.Outcome.next (State.frameArrives_stationRead (k := .readPlan) (r := (.readPlan (.bank b))) seq ready
      (by cases b <;> rfl)
    (Nat.le_of_ble_eq_true rfl) rfl rfl)

theorem State.exec_readPlan_hall (h : HallId) :
    exec (.readPlan .station seq [4, byteOf h.num]) s = .next (s.send .station (frameBytes 0x97 seq (s.planReport (.hall h)))) :=
  congrArg Host.Outcome.next (State.frameArrives_stationRead (k := .readPlan) (r := (.readPlan (.hall h))) seq ready
      (by cases h <;> rfl)
    (Nat.le_of_ble_eq_true rfl) rfl rfl)

theorem State.exec_readIncident (h : HallId) :
    exec (.readIncident .station seq [byteOf h.num]) s = .next (s.send .station (frameBytes 0x91 seq (s.incidentReport h))) :=
  congrArg Host.Outcome.next (State.frameArrives_stationRead (k := .readIncident) (r := (.readIncident h)) seq ready
      (by cases h <;> rfl)
    (Nat.le_of_ble_eq_true rfl) rfl rfl)

end

/-! ## The reads that a hall port may make (R64, R172) -/

theorem State.exec_readBanks {s : State} (p : Port) (seq : Byte) (ready : s.portReady p) :
    exec (.readBanks p seq []) s = .next (s.send p (frameBytes 0x92 seq s.banksReport)) := by
  have permitted : Kind.readBanks.permitted p = true := by cases p <;> rfl
  have link : s.linkAllows .readBanks p = true := by cases p <;> rfl
  exact congrArg Host.Outcome.next
    (State.frameArrives_read (k := .readBanks) (r := .readBanks) seq ready (Nat.le_of_ble_eq_true rfl) permitted link rfl rfl)

theorem State.requestOf_readIncident (n : Nat) (h : HallId) :
    requestOf n .readIncident [byteOf h.num] = some (.readIncident h) := by cases h <;> rfl

theorem State.exec_readIncident_own {s : State} (h : HallId) (seq : Byte) (ready : s.portReady (.hall h)) :
    exec (.readIncident (.hall h) seq [byteOf h.num]) s =
      .next (s.send (.hall h) (frameBytes 0x91 seq (s.incidentReport h))) :=
  congrArg Host.Outcome.next (State.frameArrives_read (k := .readIncident) (r := .readIncident h) seq ready
    (Nat.le_of_ble_eq_true rfl) rfl rfl (State.requestOf_readIncident _ h) (if_pos rfl))

theorem State.exec_readIncident_other {s : State} {g h : HallId} (n : ¬ g = h) (seq : Byte) (ready : s.portReady (.hall g)) :
    exec (.readIncident (.hall g) seq [byteOf h.num]) s =
      .next (s.send (.hall g) (refusedFrame 0x11 seq .notPermitted)) := by
  have refused := State.frameArrives_carriedOut (k := .readIncident) (a := .refused .notPermitted) (t := s) seq ready
    (Nat.le_of_ble_eq_true rfl) rfl rfl (State.requestOf_readIncident _ h) (if_neg n) (by simp)
  rw [State.countChanges_of_halls rfl] at refused
  exact congrArg Host.Outcome.next refused

end Sys2Proof.Machine

open Sys2Proof Sys2Proof.Machine in
/-- Settles O13: the layouts report by report, the codes by evaluation, the replies by `State.frameArrives_read`. -/
theorem readsReplyAndChangeNothing : Obligations.ReadsReplyAndChangeNothing := by
  refine ⟨fun h s => State.available_eq_sum s h, fun s => ⟨State.statusLaidOut_statusReport s,
    State.banksLaidOut_banksReport s, State.manifoldsLaidOut_manifoldsReport s, State.contactsLaidOut_contactsReport s,
    fun h => ⟨State.incidentLaidOut_incidentReport s h, State.linkLaidOut_linkReport s h⟩,
    State.circuitsLaidOut_circuitsReport s, State.planLaidOut_planReport s⟩,
    ⟨rfl, fun _ => rfl, fun _ => rfl, rfl, rfl, rfl, rfl, rfl, rfl, rfl, rfl, rfl, rfl⟩, fun seq s ready => ?_,
    fun p seq s ready => State.exec_readBanks p seq ready, fun g h seq s ready => ?_⟩
  · exact ⟨State.exec_readStatus seq ready, State.exec_readManifolds seq ready, State.exec_readLink seq ready,
      State.exec_readCircuits seq ready, State.exec_readContacts seq ready, State.exec_readPlan_site seq ready,
      State.exec_readPlan_man seq ready, State.exec_readPlan_bank seq ready, State.exec_readPlan_hall seq ready,
      State.exec_readIncident seq ready⟩
  · by_cases e : g = h
    · subst e
      rw [if_pos rfl]
      exact State.exec_readIncident_own g seq ready
    · rw [if_neg e]
      exact State.exec_readIncident_other e seq ready
end

section
/-! One hall's withdrawal (R82 to R84): the replacement's walk, the record and the tables that steps 1 to 4 of R82 leave. -/

namespace Sys2Proof.Machine

/-! ## The replacement's walk (R83) -/

theorem State.hall_dropUnfit_same_rank (s : State) (h g : HallId) (unfit : List BankId) :
    ((s.dropUnfit h unfit).inc g).confNumber = (s.inc g).confNumber := by
  by_cases n : h = g
  · subst n
    exact (congrArg (fun x : Hall => x.inc.confNumber) (State.hall_dropUnfit s h unfit)).trans rfl
  · exact congrArg (fun x : Hall => x.inc.confNumber) (State.hall_dropUnfit_other s unfit n)

theorem State.inc_dropUnfit (s : State) (h : HallId) (unfit : List BankId) :
    (s.dropUnfit h unfit).inc h = { s.inc h with alloc := (s.inc h).alloc.filter fun e => !unfit.contains e.bank } :=
  congrArg Hall.inc (State.hall_dropUnfit s h unfit)

theorem State.protectedFrom_dropUnfit (s : State) (h : HallId) (unfit : List BankId) :
    (s.dropUnfit h unfit).protectedFrom h = s.protectedFrom h := by
  have rank (g : HallId) : (s.dropUnfit h unfit).ranksBefore g h = s.ranksBefore g h :=
    State.ranksBefore_congr (s.hall_dropUnfit_same_rank h g unfit) (s.hall_dropUnfit_same_rank h h unfit)
  unfold State.protectedFrom
  simp only [rank]
  rfl

/-- The banks a replacement may take are told by the state before the withdrawal: those withdrawn are out (R83). -/
theorem State.mayReplace_dropUnfit (s : State) (h : HallId) (unfit : List BankId) (b : BankId) :
    (s.dropUnfit h unfit).mayReplace h unfit b = s.mayReplace h unfit b := by
  have st : (s.dropUnfit h unfit).hallState h = s.hallState h :=
    congrArg (fun x => x.inc.state) (State.hall_dropUnfit s h unfit)
  unfold State.mayReplace
  rw [State.protectedFrom_dropUnfit, st]
  by_cases u : b ∈ unfit
  · simp [u]
  · have bank : (s.dropUnfit h unfit).bank b = s.bank b := by
      rw [State.bank_dropUnfit, if_neg fun k => u k.1]
    have eligible : (s.dropUnfit h unfit).eligible h b = s.eligible h b := by
      unfold State.eligible
      rw [bank]
      rfl
    rw [eligible]
    rfl

/-- The banks that the replacement takes for hall `h` once it has lost `unfit`. -/
def State.replacement (s : State) (h : HallId) (unfit : List BankId) : List BankId :=
  (s.dropUnfit h unfit).replacementTakes h unfit

/-- The allocation list after the withdrawal and the replacement. -/
def State.listLeft (s : State) (h : HallId) (unfit : List BankId) : List AllocEntry :=
  ((s.inc h).alloc.filter fun e => !unfit.contains e.bank) ++ s.entriesFor (s.replacement h unfit)

theorem entriesTotal_append (l m : List AllocEntry) : entriesTotal (l ++ m) = entriesTotal l + entriesTotal m := by
  simp [entriesTotal]

theorem State.entriesTotal_entriesFor (s : State) (taken : List BankId) :
    entriesTotal (s.entriesFor taken) = (taken.map s.quantity).sum := by
  unfold entriesTotal State.entriesFor
  rw [List.map_map]
  rfl

/-- The replacement's walk goes through a first part of the preference list (R83). -/
theorem State.replaces (s : State) (h : HallId) (unfit : List BankId) :
    ∃ n, n ≤ (s.preference h).length ∧ s.replacesThrough h unfit n ∧ s.replacement h unfit = s.takenBy h unfit n ∧
      s.listLeft h unfit = s.listAfter h unfit n := by
  have walked : s.replacement h unfit =
      walk (s.mayReplace h unfit) s.quantity (s.recordedRequired h)
        (entriesTotal ((s.inc h).alloc.filter fun e => !unfit.contains e.bank)) (s.preference h) := by
    have inc := State.inc_dropUnfit s h unfit
    have required : (s.dropUnfit h unfit).recordedRequired h = s.recordedRequired h :=
      (congrArg (fun i : Incident => i.required.getD 0) inc).trans rfl
    have total : ((s.dropUnfit h unfit).inc h).total =
        entriesTotal ((s.inc h).alloc.filter fun e => !unfit.contains e.bank) := (congrArg Incident.total inc).trans rfl
    have may : (s.dropUnfit h unfit).mayReplace h unfit = s.mayReplace h unfit :=
      funext fun b => State.mayReplace_dropUnfit s h unfit b
    rw [← required, ← total, ← may]
    rfl
  obtain ⟨n, le, e, ends, below⟩ := walk_through (s.mayReplace h unfit) s.quantity (s.recordedRequired h)
    (entriesTotal ((s.inc h).alloc.filter fun e => !unfit.contains e.bank)) (s.preference h)
  have taken : s.replacement h unfit = s.takenBy h unfit n := walked.trans e
  have total (k : Nat) : entriesTotal (s.listAfter h unfit k) =
      entriesTotal ((s.inc h).alloc.filter fun e => !unfit.contains e.bank) +
        ((s.takenBy h unfit k).map s.quantity).sum := by
    unfold State.listAfter
    rw [entriesTotal_append, State.entriesTotal_entriesFor]
  have list : s.listLeft h unfit = s.listAfter h unfit n := by
    unfold State.listLeft
    rw [taken]
    rfl
  refine ⟨n, le, ⟨le, ?_, fun k less => ?_⟩, taken, list⟩
  · rw [total, ← taken, walked]
    exact ends
  · rw [total]
    exact below k less

/-! ## The state with the replacement taken -/

/-- Steps 1 and 2 of R82, with the hall's flags `f`. -/
def State.reallotted (s : State) (h : HallId) (unfit : List BankId) (f : Flags) : State :=
  ((s.dropUnfit h unfit).replace h unfit).modFlags h fun _ => f

theorem State.hall_reallotted (s : State) (h : HallId) (unfit : List BankId) (f : Flags) :
    (s.reallotted h unfit f).hall h =
      { s.hall h with inc := { s.inc h with alloc := s.listLeft h unfit, flags := f } } := by
  have own := State.hall_replace (s.dropUnfit h unfit) h unfit
  rw [State.inc_dropUnfit, State.hall_dropUnfit] at own
  refine (State.hall_modHall_same _ h _).trans ?_
  rw [own]
  rfl

theorem State.hall_reallotted_other (s : State) {h g : HallId} (unfit : List BankId) (f : Flags) (n : ¬ h = g) :
    (s.reallotted h unfit f).hall g = s.hall g := by
  rw [State.reallotted, State.hall_modFlags_other _ _ n, State.hall_replace_other _ _ n, State.hall_dropUnfit_other _ _ n]

theorem State.inc_reallotted (s : State) (h : HallId) (unfit : List BankId) (f : Flags) :
    (s.reallotted h unfit f).inc h = { s.inc h with alloc := s.listLeft h unfit, flags := f } :=
  congrArg Hall.inc (State.hall_reallotted s h unfit f)

/-- Without a change of the flags. -/
theorem State.reallotted_same (s : State) (h : HallId) (unfit : List BankId) :
    (s.dropUnfit h unfit).replace h unfit = s.reallotted h unfit (s.inc h).flags := by
  have flags : (((s.dropUnfit h unfit).replace h unfit).inc h).flags = (s.inc h).flags := by
    have own := State.hall_replace (s.dropUnfit h unfit) h unfit
    rw [State.inc_dropUnfit] at own
    exact (congrArg (fun x : Hall => x.inc.flags) own).trans rfl
  unfold State.reallotted State.modFlags
  refine (State.modInc_id ?_).symm
  rw [← flags]

theorem State.modFlags_reallotted (s : State) (h : HallId) (unfit : List BankId) (f : Flags) (k : Flags → Flags) :
    (s.reallotted h unfit f).modFlags h k = s.reallotted h unfit (k f) := by
  unfold State.reallotted State.modFlags
  exact State.modInc_modInc _ h _ _

theorem State.still_reallotted (s : State) (h : HallId) (unfit : List BankId) (f : Flags) :
    (s.reallotted h unfit f).still = s.still := by
  simp [State.reallotted]

/-- A bank stays with the hall or is taken by it; one of the hall's that is neither returns (R82, R83). -/
theorem State.bank_reallotted (s : State) (h : HallId) (unfit : List BankId) (f : Flags) (b : BankId) :
    (s.reallotted h unfit f).bank b =
      if b ∈ s.replacement h unfit ∨ (s.bank b = .reserved h ∧ ¬ b ∈ unfit) then .reserved h
      else if s.bank b = .reserved h then .ready else s.bank b := by
  refine (State.bank_replace (s.dropUnfit h unfit) h unfit b).trans ?_
  rw [State.bank_dropUnfit]
  show (if b ∈ s.replacement h unfit then _ else _) = _
  by_cases t : b ∈ s.replacement h unfit <;> by_cases r : s.bank b = .reserved h <;> by_cases u : b ∈ unfit <;>
    simp [t, r, u]

theorem State.man_reallotted (s : State) (h : HallId) (unfit : List BankId) (f : Flags) (m : ManId) :
    (s.reallotted h unfit f).man m =
      (s.man m).claim h ((s.replacement h unfit).any fun b => s.manifoldOf b == m) :=
  State.man_replace (s.dropUnfit h unfit) h unfit m

/-- Hall `h` keeps the bank or takes it. -/
def State.retains (s : State) (h : HallId) (unfit : List BankId) (b : BankId) : Prop :=
  b ∈ s.replacement h unfit ∨ (s.bank b = .reserved h ∧ ¬ b ∈ unfit)

theorem State.mem_replacement {s : State} {h : HallId} {unfit : List BankId} {b : BankId}
    (k : b ∈ s.replacement h unfit) : s.mayReplace h unfit b = true := by
  rw [← State.mayReplace_dropUnfit]
  exact walk_may _ _ _ _ _ k

theorem State.mayReplace_iff (s : State) (h : HallId) (unfit : List BankId) (b : BankId) :
    s.mayReplace h unfit b = true ↔
      s.eligible h b = true ∧ ¬ b ∈ s.protectedFrom h ∧ ¬ b ∈ unfit ∧
      (s.hallState h = .selecting → s.holder (s.manifoldOf b) = some h) := by
  unfold State.mayReplace
  simp only [Bool.and_eq_true, Bool.not_eq_true', List.contains_eq_mem, decide_eq_false_iff_not, Bool.or_eq_true,
    beq_eq_false_iff_ne, beq_iff_eq, ne_eq, and_assoc, ← imp_iff_not_or]

/-- A bank taken was READY. -/
theorem State.ready_of_replacement {s : State} {h : HallId} {unfit : List BankId} {b : BankId}
    (k : b ∈ s.replacement h unfit) : s.bank b = .ready :=
  ((s.eligible_iff h b).1 ((s.mayReplace_iff h unfit b).1 (State.mem_replacement k)).1).1

theorem State.reserved_reallotted (s : State) (h : HallId) (unfit : List BankId) (f : Flags) (b : BankId) :
    (s.reallotted h unfit f).bank b = .reserved h ↔ s.retains h unfit b := by
  rw [State.bank_reallotted]
  unfold State.retains
  split
  · rename_i k
    exact iff_of_true rfl k
  · rename_i k
    refine iff_of_false (fun e => ?_) k
    split at e
    · cases e
    · rename_i n
      exact n e

/-! ## Emptied manifolds released (R16, R82) -/

/-- The tables of a withdrawal before a firing (R82, R83). -/
theorem State.settledTo_emptied (s : State) (h : HallId) (unfit : List BankId) (f : Flags) :
    s.settledTo ((s.reallotted h unfit f).emptied h) h unfit (s.replacement h unfit) (.reserved h) := by
  have settle := State.manifoldsFreed_settle (s.reallotted h unfit f) h
  have carried (m : ManId) : (s.reallotted h unfit f).reservedOn h m = true ↔
      ∃ b, s.manifoldOf b = m ∧ s.retains h unfit b := by
    rw [State.reservedOn_iff]
    constructor
    · rintro ⟨b, r, o⟩
      exact ⟨b, o, (s.reserved_reallotted h unfit f b).1 r⟩
    · rintro ⟨b, o, r⟩
      exact ⟨b, (s.reserved_reallotted h unfit f b).2 r, o⟩
  refine ⟨fun b => ?_, fun m => ⟨fun pending => ⟨fun carries => ?_, fun bare => ?_⟩, fun other => ?_⟩⟩
  · rw [← State.bank_reallotted s h unfit f b, State.bank, State.banks_emptied]
    rfl
  all_goals
    obtain ⟨freed, kept⟩ := settle m
    dsimp only at freed kept
    rw [State.man_reallotted] at freed kept
  · have same : (s.man m).claim h ((s.replacement h unfit).any fun b => s.manifoldOf b == m) = s.man m :=
      if_neg fun k => by obtain e | e := pending <;> rw [e] at k <;> cases k.2
    rw [same] at kept
    refine kept fun k => ?_
    rw [(carried m).2 carries] at k
    cases k.2
  · have same : (s.man m).claim h ((s.replacement h unfit).any fun b => s.manifoldOf b == m) = s.man m :=
      if_neg fun k => by obtain e | e := pending <;> rw [e] at k <;> cases k.2
    rw [same] at freed
    refine freed ⟨pending, Bool.eq_false_iff.2 fun k => ?_⟩
    obtain ⟨b, o, r⟩ := (carried m).1 k
    exact bare b o r
  · have stays : ¬ ((((s.man m).claim h ((s.replacement h unfit).any fun b => s.manifoldOf b == m)).state = .claimed h ∨
        ((s.man m).claim h ((s.replacement h unfit).any fun b => s.manifoldOf b == m)).state = .selecting h) ∧
        (s.reallotted h unfit f).reservedOn h m = false) := by
      rintro ⟨pending, bare⟩
      rw [Manifold.state_claim] at pending
      split at pending
      · rename_i c
        obtain ⟨b, k, o⟩ := List.any_eq_true.1 c.1
        rw [(carried m).2 ⟨b, beq_iff_eq.1 o, Or.inl k⟩] at bare
        cases bare
      · exact other pending
    obtain ⟨man, sel, cir⟩ := kept stays
    refine ⟨sel, cir, man.trans ?_⟩
    unfold Manifold.claim
    by_cases c : (s.man m).state = .free ∧ (s.replacement h unfit).any (fun b => s.manifoldOf b == m) = true
    · rw [if_pos c, if_pos ⟨c.2, c.1⟩]
    · rw [if_neg c, if_neg fun k => c ⟨k.2, k.1⟩]

/-- The tables are stated of the banks, the manifolds and the selectors alone. -/
theorem State.settledTo_congr {s u v : State} {h : HallId} {unfit taken : List BankId} {x : BankState}
    (banks : v.banks = u.banks) (mans : v.mans = u.mans) (selectors : v.selectors = u.selectors)
    (circuits : v.selCircuits = u.selCircuits) (t : s.settledTo u h unfit taken x) : s.settledTo v h unfit taken x := by
  unfold State.settledTo State.bank State.man at t ⊢
  rw [banks, mans, selectors, circuits]
  exact t

/-! ## The estimate recomputed (R35, R82) -/

/-- What steps 1 to 4 of R82 leave: the tables settled, and of the records hall `h`'s alone rewritten. -/
theorem State.settleAllocation_reallotted (s : State) (h : HallId) (unfit : List BankId) (f : Flags) :
    s.settledTo ((s.reallotted h unfit f).settleAllocation h) h unfit (s.replacement h unfit) (.reserved h) ∧
    (s.reallotted h unfit f).settleAllocation h =
      { s with
        banks := ((s.reallotted h unfit f).settleAllocation h).banks
        mans := ((s.reallotted h unfit f).settleAllocation h).mans
        selectors := ((s.reallotted h unfit f).settleAllocation h).selectors
        selCircuits := ((s.reallotted h unfit f).settleAllocation h).selCircuits
        halls := s.halls.set h (s.reallocated h (s.listLeft h unfit) (s.hallState h) f) } := by
  have still : ((s.reallotted h unfit f).settleAllocation h).still = s.still :=
    (State.still_settleAllocation _ h).trans (s.still_reallotted h unfit f)
  have settled := s.settledTo_emptied h unfit f
  have emptied := State.hall_emptied (s.reallotted h unfit f) h h
  have others (g : HallId) (n : ¬ g = h) : ((s.reallotted h unfit f).settleAllocation h).hall g = s.hall g :=
    (State.hall_settleAllocation_other _ fun e => n e.symm).trans (s.hall_reallotted_other unfit f fun e => n e.symm)
  have own : ((s.reallotted h unfit f).settleAllocation h).hall h =
      s.reallocated h (s.listLeft h unfit) (s.hallState h) f := by
    have inc := State.inc_of_hall emptied
    have estimate (l : List AllocEntry) : ((s.reallotted h unfit f).emptied h).estimateFor h l = s.estimateFor h l := by
      refine State.estimateFor_congr ?_ ?_ l
      · exact State.work_of_still ((State.still_emptied _ h).trans (s.still_reallotted h unfit f))
      · rw [inc, State.inc_reallotted]
    have maximum : (((s.reallotted h unfit f).emptied h).hallPlan h).maximum = (s.hallPlan h).maximum :=
      congrArg (fun p : Plan => (p.halls.get h).maximum)
        (State.work_of_still ((State.still_emptied _ h).trans (s.still_reallotted h unfit f)))
    rw [State.settleAllocation_eq, inc, State.inc_reallotted, estimate, maximum]
    refine (State.hall_modHall_same _ h _).trans ?_
    rw [emptied, State.hall_reallotted]
    rfl
  have halls := (State.halls_of_others others).trans (congrArg (s.halls.set h) own)
  have shape : ((s.reallotted h unfit f).settleAllocation h).measuring = s.measuring ∧
      ((s.reallotted h unfit f).settleAllocation h).waitList = s.waitList := by
    rw [State.settleAllocation_eq]
    refine ⟨?_, (State.waitList_emptied _ h).trans rfl⟩
    show ((s.reallotted h unfit f).emptied h).measuring = s.measuring
    rw [State.emptied, State.measuring_releaseIfEmpty, State.measuring_releaseIfEmpty]
    rfl
  refine ⟨?_, ?_⟩
  · refine State.settledTo_congr ?_ ?_ ?_ ?_ settled <;> rw [State.settleAllocation_eq] <;> rfl
  · have whole := State.eq_of_still still
    rw [shape.1, shape.2, halls] at whole
    exact whole

end Sys2Proof.Machine
end

section
/-! Steps 1 to 5 of R82 for one hall: what its withdrawal leaves in COUNTDOWN, HELD and SELECTING (R82 to R85). -/

namespace Sys2Proof.Machine

/-! ## A hall whose list is exactly the banks RESERVED to it -/

/-- The banks RESERVED to the hall are its list, on manifolds that it holds, each CLAIMED or SELECTING; it does not wait. -/
structure State.Tied (h : HallId) (s : State) : Prop where
  banks : ∀ b, s.bank b = .reserved h ↔ b ∈ (s.inc h).allocBanks
  lies : ∀ b, s.bank b = .reserved h → s.holder (s.manifoldOf b) = some h
  grips : ∀ m, s.holder m = some h → (s.man m).state = .claimed h ∨ (s.man m).state = .selecting h
  out : ¬ h ∈ s.waitList

/-- In states that meet the laws of the tables, every hall in COUNTDOWN, HELD or SELECTING is so (R6, R13, R61, R75). -/
theorem State.tied_of_tableLaw {s : State} (law : s.tableLaw) {h : HallId} (a : (s.hallState h).allots) : s.Tied h := by
  obtain ⟨⟨waits, -⟩, bank, held, list, -, -⟩ := law
  have reserved (b : BankId) (e : s.bank b = .reserved h) : b ∈ (s.inc h).allocBanks ∧ s.holder (s.manifoldOf b) = some h := by
    have l := bank b
    rw [State.bankLaw, e] at l
    exact l.2
  refine ⟨fun b => ⟨fun e => (reserved b e).1, (list h).1 a b⟩, fun b e => (reserved b e).2, fun m e => ?_, fun k => ?_⟩
  · have l := held m
    unfold State.heldLaw at l
    unfold State.holder at e
    unfold HallState.allots at a
    cases c : (s.man m).state <;> rw [c] at l e <;> cases e
    · exact Or.inl rfl
    · exact Or.inr rfl
    · rw [l.1] at a
      simp at a
    · rw [l.1] at a
      simp at a
  · have w := (waits h).1 k
    unfold HallState.allots at a
    rw [w] at a
    simp at a

theorem State.Tied.retains_iff {s : State} {h : HallId} (t : s.Tied h) (unfit : List BankId) (b : BankId) :
    s.retains h unfit b ↔ b ∈ (s.listLeft h unfit).map AllocEntry.bank := by
  have kept : ((s.inc h).alloc.filter fun e => !unfit.contains e.bank).map AllocEntry.bank =
      (s.inc h).allocBanks.filter fun b => !unfit.contains b := by
    rw [Incident.allocBanks, List.filter_map]
    rfl
  unfold State.retains State.listLeft
  rw [List.map_append, State.entriesFor_banks, kept, List.mem_append, List.mem_filter, t.banks, or_comm]
  simp

/-- In SELECTING a bank that the hall keeps or takes lies on a manifold that it holds (R83). -/
theorem State.Tied.holder_of_retains {s : State} {h : HallId} (t : s.Tied h) (st : s.hallState h = .selecting)
    {unfit : List BankId} {b : BankId} (r : s.retains h unfit b) : s.holder (s.manifoldOf b) = some h := by
  obtain k | ⟨k, -⟩ := r
  · exact ((s.mayReplace_iff h unfit b).1 (State.mem_replacement k)).2.2.2 st
  · exact t.lies b k

/-! ## COUNTDOWN and HELD (R84) -/

/-- A record rewritten after the tables were settled. -/
theorem State.modHall_of_settled {s q : State} {h : HallId} {x : Hall} (f : Hall → Hall)
    (whole : q =
      { s with
        banks := q.banks, mans := q.mans, selectors := q.selectors, selCircuits := q.selCircuits
        halls := s.halls.set h x }) :
    q.modHall h f =
      { s with
        banks := q.banks, mans := q.mans, selectors := q.selectors, selCircuits := q.selCircuits
        halls := s.halls.set h (f x) } := by
  have halls : (q.modHall h f).halls = s.halls.set h (f x) := by
    have e : q.halls = s.halls.set h x := congrArg State.halls whole
    show q.halls.set h (f (q.halls.get h)) = _
    rw [e, PerHall.get_set_same, PerHall.set_set]
  have shape : q.modHall h f = { q with halls := (q.modHall h f).halls } := rfl
  rw [halls] at shape
  exact shape.trans (congrArg (fun y : State => { y with halls := s.halls.set h (f x) }) whole)

theorem State.shortfallInCountdown_reallotted (s : State) (h : HallId) (unfit : List BankId) :
    s.settledTo ((s.reallotted h unfit (s.inc h).flags).shortfallInCountdown h) h unfit (s.replacement h unfit)
      (.reserved h) ∧
    (s.reallotted h unfit (s.inc h).flags).shortfallInCountdown h =
      { s with
        banks := ((s.reallotted h unfit (s.inc h).flags).shortfallInCountdown h).banks
        mans := ((s.reallotted h unfit (s.inc h).flags).shortfallInCountdown h).mans
        selectors := ((s.reallotted h unfit (s.inc h).flags).shortfallInCountdown h).selectors
        selCircuits := ((s.reallotted h unfit (s.inc h).flags).shortfallInCountdown h).selCircuits
        halls :=
          s.halls.set h
            (s.reallocated h (s.listLeft h unfit) (s.hallState h)
              { (s.inc h).flags with
                shortfall :=
                  (s.inc h).flags.shortfall ||
                  decide (entriesTotal (s.listLeft h unfit) < s.recordedRequired h) }) } := by
  obtain ⟨tables, whole⟩ := s.settleAllocation_reallotted h unfit (s.inc h).flags
  unfold State.shortfallInCountdown
  dsimp only
  generalize (s.reallotted h unfit (s.inc h).flags).settleAllocation h = q at tables whole
  have own : q.hall h = s.reallocated h (s.listLeft h unfit) (s.hallState h) (s.inc h).flags :=
    (congrArg (fun x => State.hall x h) whole).trans (PerHall.get_set_same _ _ _)
  have falling : q.falling h = decide (entriesTotal (s.listLeft h unfit) < s.recordedRequired h) :=
    (congrArg (fun x : Hall => decide (x.inc.total < x.inc.required.getD 0)) own).trans rfl
  rw [falling]
  by_cases c : entriesTotal (s.listLeft h unfit) < s.recordedRequired h
  · rw [if_pos (decide_eq_true c), decide_eq_true c, Bool.or_true]
    have raised := State.modHall_of_settled
      (fun x => { x with inc := { x.inc with flags := { x.inc.flags with shortfall := true } } }) whole
    exact ⟨State.settledTo_congr (u := q) rfl rfl rfl rfl tables, raised⟩
  · rw [decide_eq_false c, if_neg Bool.false_ne_true, Bool.or_false]
    exact ⟨tables, whole⟩

/-! ## SELECTING: the release goes on (R85) -/

/-- Settled in SELECTING, the hall holds just the manifolds of its list, their selectors as they were. -/
theorem State.Tied.held_settled {s q : State} {h : HallId} {unfit : List BankId} (t : s.Tied h)
    (st : s.hallState h = .selecting) (tables : s.settledTo q h unfit (s.replacement h unfit) (.reserved h)) (m : ManId) :
    (q.holder m = some h ↔ ∃ b, s.manifoldOf b = m ∧ s.retains h unfit b) ∧
    (q.holder m = some h → q.selector m h = s.selector m h) := by
  obtain ⟨pending, other⟩ := tables.2 m
  by_cases p : (s.man m).state = .claimed h ∨ (s.man m).state = .selecting h
  · obtain ⟨carried, bare⟩ := pending p
    by_cases c : ∃ b, s.manifoldOf b = m ∧ s.retains h unfit b
    · obtain ⟨man, sel, -⟩ := carried c
      have holds : q.holder m = some h := by
        rw [State.holder, man]
        exact State.holder_of_pending p
      exact ⟨iff_of_true holds c, fun _ => congrArg (fun x => PerHall.get x h) sel⟩
    · obtain ⟨man, -⟩ := bare fun b o r => c ⟨b, o, r⟩
      have free : ¬ q.holder m = some h := by
        rw [State.holder, man]
        simp [ManState.holder]
      exact ⟨iff_of_false free c, fun k => absurd k free⟩
  · have away : ¬ s.holder m = some h := fun k => p (t.grips m k)
    obtain ⟨-, -, man⟩ := other p
    have none : ¬ ((s.man m).state = .free ∧ (s.replacement h unfit).any (fun b => s.manifoldOf b == m) = true) := by
      rintro ⟨-, any⟩
      obtain ⟨b, k, o⟩ := List.any_eq_true.1 any
      exact away (beq_iff_eq.1 o ▸ t.holder_of_retains st (Or.inl k))
    rw [if_neg none] at man
    have free : ¬ q.holder m = some h := by
      rw [State.holder, man]
      exact away
    refine ⟨iff_of_false free ?_, fun k => absurd k free⟩
    rintro ⟨b, rfl, r⟩
    exact away (t.holder_of_retains st r)

/-- Every selector that the hall still needs has proven (R85). -/
theorem State.Tied.allProven_settled {s q : State} {h : HallId} {unfit : List BankId} (t : s.Tied h)
    (st : s.hallState h = .selecting) (tables : s.settledTo q h unfit (s.replacement h unfit) (.reserved h)) :
    q.allProven h = true ↔
      ∀ e, e ∈ s.listLeft h unfit → (s.selector (s.manifoldOf e.bank) h).proven = true := by
  have held := t.held_settled st tables
  unfold State.allProven
  rw [List.all_eq_true]
  constructor
  · intro all e k
    have r := (t.retains_iff unfit e.bank).2 (List.mem_map_of_mem k)
    have holds := (held _).1.2 ⟨e.bank, rfl, r⟩
    have proven := all _ (manId_mem_all (s.manifoldOf e.bank))
    rw [holds, (held _).2 holds] at proven
    simpa using proven
  · intro all m _
    by_cases holds : q.holder m = some h
    · obtain ⟨b, o, r⟩ := (held m).1.1 holds
      obtain ⟨e, k, rfl⟩ := List.mem_map.1 ((t.retains_iff unfit b).1 r)
      rw [(held m).2 holds, ← o, all e k]
      simp
    · simp [holds]

/-- The entry to DISCHARGING after a withdrawal (R8, R85, R116). -/
theorem State.Tied.enterDischarging_settled {s q : State} {h : HallId} {unfit : List BankId} {f : Flags} (t : s.Tied h)
    (tables : s.settledTo q h unfit (s.replacement h unfit) (.reserved h))
    (whole : q =
      { s with
        banks := q.banks, mans := q.mans, selectors := q.selectors, selCircuits := q.selCircuits
        halls := s.halls.set h (s.reallocated h (s.listLeft h unfit) (s.hallState h) f) }) :
    s.settledTo (q.enterDischarging h) h unfit (s.replacement h unfit) (.firing h) ∧
    s.queuedFrom (q.enterDischarging h) ((s.listLeft h unfit).map AllocEntry.bank) ∧
    q.enterDischarging h =
      { s with
        banks := (q.enterDischarging h).banks
        mans := (q.enterDischarging h).mans
        selectors := (q.enterDischarging h).selectors
        selCircuits := (q.enterDischarging h).selCircuits
        halls := s.halls.set h (s.reallocated h (s.listLeft h unfit) .discharging f)
        queue := (q.enterDischarging h).queue
        slots := (q.enterDischarging h).slots
        write := (q.enterDischarging h).write
        markQueue := (q.enterDischarging h).markQueue } := by
  have own : q.hall h = s.reallocated h (s.listLeft h unfit) (s.hallState h) f :=
    (congrArg (fun x => State.hall x h) whole).trans (PerHall.get_set_same _ _ _)
  have list : (q.inc h).allocBanks = (s.listLeft h unfit).map AllocEntry.bank :=
    (congrArg (fun x : Hall => x.inc.allocBanks) own).trans rfl
  have reserved (b : BankId) : q.bank b = .reserved h ↔ s.retains h unfit b := by
    rw [tables.1 b]
    split
    · rename_i k
      exact iff_of_true rfl k
    · rename_i k
      refine iff_of_false (fun e => ?_) k
      split at e
      · cases e
      · rename_i n
        exact n e
  have shape := State.enterDischarging_shape q h
  have queued := State.queuedFrom_enterDischarging q h
  have bank := State.bank_enterDischarging q h
  have halls : (q.fired h).halls = s.halls.set h (s.reallocated h (s.listLeft h unfit) .discharging f) := by
    have e : (q.fired h).halls = (q.modHall h fun x => { x with inc := { x.inc with state := .discharging } }).halls := rfl
    rw [e, State.modHall_of_settled _ whole]
    rfl
  have joining : q.joining h = (s.listLeft h unfit).map AllocEntry.bank := by
    rw [← list]
    refine List.filter_eq_self.2 fun b k => ?_
    rw [list] at k
    exact beq_iff_eq.2 ((reserved b).2 ((t.retains_iff unfit b).2 k))
  rw [halls] at shape
  generalize q.enterDischarging h = u at shape queued bank
  have mans : u.mans = q.mans := (congrArg State.mans shape).trans rfl
  have selectors : u.selectors = q.selectors := (congrArg State.selectors shape).trans rfl
  have circuits : u.selCircuits = q.selCircuits := (congrArg State.selCircuits shape).trans rfl
  refine ⟨⟨fun b => ?_, ?_⟩, ?_, ?_⟩
  · rw [bank, list]
    by_cases r : s.retains h unfit b
    · rw [if_pos ⟨(t.retains_iff unfit b).1 r, (reserved b).2 r⟩]
      exact (if_pos r).symm
    · rw [if_neg fun k => r ((reserved b).1 k.2)]
      exact (tables.1 b).trans ((if_neg r).trans (if_neg r).symm)
  · unfold State.man
    rw [mans, selectors, circuits]
    exact tables.2
  · have queue : q.queue = s.queue := (congrArg State.queue whole).trans rfl
    have slots : q.slots = s.slots := (congrArg State.slots whole).trans rfl
    have write : q.write = s.write := (congrArg State.write whole).trans rfl
    have marks : q.markQueue = s.markQueue := (congrArg State.markQueue whole).trans rfl
    unfold State.queuedFrom at queued ⊢
    rw [joining, queue, slots, write, marks] at queued
    exact queued
  · have banks : u.banks = (q.fired h).banks := (congrArg State.banks shape).trans rfl
    rw [mans, selectors, circuits, banks]
    refine shape.trans ?_
    exact congrArg
      (fun x : State =>
        { x with
          halls := s.halls.set h (s.reallocated h (s.listLeft h unfit) .discharging f), banks := (q.fired h).banks
          queue := u.queue, slots := u.slots, write := u.write, markQueue := u.markQueue }) whole

end Sys2Proof.Machine
end

section
/-! Steps 1 to 5 of R82 for one hall, told whole: the hall goes on, enters DISCHARGING or is sent back to wait (R84, R85). -/

namespace Sys2Proof.Machine

/-! ## SELECTING: the hall is sent back to wait (R76, R85, R87) -/

theorem State.joinedAt_enterWaiting {s p : State} {h : HallId} (waits : p.waitList = s.waitList)
    (ranks : ∀ g, (p.inc g).confNumber = (s.inc g).confNumber) (out : ¬ h ∈ s.waitList) :
    s.joinedAt (p.enterWaiting h) h := by
  have out' : ¬ h ∈ (p.modHall h Hall.waits).waitList := by
    show ¬ h ∈ p.waitList
    rwa [waits]
  obtain ⟨before, after, split, joined, first, next⟩ := State.joinWaitList_split out'
  have number (g : HallId) : ((p.modHall h Hall.waits).inc g).confNumber = (s.inc g).confNumber := by
    rw [State.inc_modHall]
    split
    · rename_i e
      exact e ▸ ranks h
    · exact ranks g
  have rank (g : HallId) : (p.modHall h Hall.waits).ranksBefore g h = s.ranksBefore g h :=
    State.ranksBefore_congr (number g) (number h)
  refine ⟨before, after, waits ▸ split, joined, fun g k => (rank g).symm.trans (first g k),
    fun g k => (rank g).symm.trans (next g k)⟩

/-- What a hall in SELECTING held when its banks were withdrawn is given back (R85, R87). -/
theorem State.Tied.handedBack_reallotted {s : State} {h : HallId} (t : s.Tied h) (st : s.hallState h = .selecting)
    (unfit : List BankId) (f : Flags) : s.handedBack ((s.reallotted h unfit f).returnAll h) h := by
  obtain ⟨banks, mans⟩ := State.handedBack_returnAll (s.reallotted h unfit f) h
  have list : ((s.reallotted h unfit f).inc h).allocBanks = (s.listLeft h unfit).map AllocEntry.bank :=
    (congrArg Incident.allocBanks (s.inc_reallotted h unfit f)).trans rfl
  refine ⟨fun b => ?_, fun m => ?_⟩
  · rw [banks b, list]
    by_cases r : s.retains h unfit b
    · rw [if_pos ⟨(t.retains_iff unfit b).1 r, (s.reserved_reallotted h unfit f b).2 r⟩]
      obtain k | ⟨k, -⟩ := r
      · rw [State.ready_of_replacement k, if_neg fun c => by cases c.2]
      · rw [if_pos ⟨(t.banks b).1 k, k⟩]
    · rw [if_neg fun k => r ((t.retains_iff unfit b).2 k.1), State.bank_reallotted]
      refine (if_neg r).trans ?_
      by_cases k : s.bank b = .reserved h
      · rw [if_pos k, if_pos ⟨(t.banks b).1 k, k⟩]
      · rw [if_neg k, if_neg fun c => k c.2]
  · have same : (s.reallotted h unfit f).man m = s.man m := by
      rw [State.man_reallotted]
      refine if_neg ?_
      rintro ⟨any, free⟩
      obtain ⟨b, k, o⟩ := List.any_eq_true.1 any
      have holds := t.holder_of_retains st (Or.inl k)
      rw [beq_iff_eq.1 o, State.holder, free] at holds
      exact absurd holds (by simp [ManState.holder])
    have both := mans m
    dsimp only at both
    rw [same] at both
    exact both

theorem State.Tied.keptEntries_nil {s : State} {h : HallId} (t : s.Tied h) : s.keptEntries h = [] := by
  refine List.filter_eq_nil_iff.2 fun e k => ?_
  simp [(t.banks e.bank).2 (List.mem_map_of_mem k)]

theorem State.Tied.keptEntries_reallotted {s : State} {h : HallId} (t : s.Tied h) (unfit : List BankId) (f : Flags) :
    (s.reallotted h unfit f).keptEntries h = [] := by
  refine List.filter_eq_nil_iff.2 fun e k => ?_
  rw [State.inc_reallotted] at k
  have r := (t.retains_iff unfit e.bank).2 (List.mem_map_of_mem k)
  simp [(s.reserved_reallotted h unfit f e.bank).2 r]

theorem State.Tied.sentBackInto {s : State} {h : HallId} (t : s.Tied h) (st : s.hallState h = .selecting)
    (unfit : List BankId) (f : Flags) : s.sentBackInto (((s.reallotted h unfit f).returnAll h).enterWaiting h) h f := by
  have back := t.handedBack_reallotted st unfit f
  have nil : ((s.inc h).alloc.filter fun e => !(s.bank e.bank == .reserved h)) = [] := t.keptEntries_nil
  have others (g : HallId) (n : ¬ h = g) : ((s.reallotted h unfit f).returnAll h).hall g = s.hall g :=
    (State.hall_returnAll_other _ n).trans (s.hall_reallotted_other unfit f n)
  have own : ((s.reallotted h unfit f).returnAll h).hall h =
      { s.hall h with inc := { s.inc h with alloc := [], estimate := none, flags := f } } := by
    rw [State.hall_returnAll, t.keptEntries_reallotted, State.inc_reallotted, State.hall_reallotted]
    rfl
  have number (g : HallId) : (((s.reallotted h unfit f).returnAll h).inc g).confNumber = (s.inc g).confNumber := by
    by_cases n : h = g
    · subst n
      exact (congrArg (fun x : Hall => x.inc.confNumber) own).trans rfl
    · exact congrArg (fun x : Hall => x.inc.confNumber) (others g n)
  have joined : s.joinedAt (((s.reallotted h unfit f).returnAll h).enterWaiting h) h :=
    State.joinedAt_enterWaiting ((State.waitList_returnAll _ h).trans rfl) number t.out
  have still : (((s.reallotted h unfit f).returnAll h).enterWaiting h).still = s.still :=
    (State.still_enterWaiting _ h).trans ((State.still_returnAll _ h).trans (s.still_reallotted h unfit f))
  have measuring : (((s.reallotted h unfit f).returnAll h).enterWaiting h).measuring = s.measuring :=
    (State.measuring_enterWaiting _ h).trans ((State.measuring_returnAll _ h).trans rfl)
  have record := State.hall_enterWaiting ((s.reallotted h unfit f).returnAll h) h
  rw [own] at record
  have halls := State.halls_of_others (s := s) (t := ((s.reallotted h unfit f).returnAll h).enterWaiting h) (h := h)
    fun g n => (State.hall_enterWaiting_other _ fun e => n e.symm).trans (others g fun e => n e.symm)
  rw [record] at halls
  have whole := State.eq_of_still still
  rw [measuring, halls] at whole
  unfold State.sentBackInto
  rw [nil]
  refine ⟨whole, ⟨fun b => ?_, fun m => ?_⟩, joined⟩
  · rw [State.bank, State.banks_enterWaiting]
    exact back.1 b
  · have both := back.2 m
    unfold State.man at both ⊢
    rw [State.mans_enterWaiting, State.selectors_enterWaiting, State.selCircuits_enterWaiting]
    exact both

/-! ## One hall's withdrawal, by its outcomes -/

theorem State.falling_reallotted (s : State) (h : HallId) (unfit : List BankId) (f : Flags) :
    (s.reallotted h unfit f).falling h = decide (entriesTotal (s.listLeft h unfit) < s.recordedRequired h) :=
  (congrArg (fun i : Incident => decide (i.total < i.required.getD 0)) (s.inc_reallotted h unfit f)).trans rfl

theorem State.shortfallInSelecting_reallotted (s : State) (h : HallId) (unfit : List BankId) :
    (s.reallotted h unfit (s.inc h).flags).shortfallInSelecting h =
      if s.recordedRequired h ≤ entriesTotal (s.listLeft h unfit) then (s.reallotted h unfit (s.inc h).flags).goOn h
      else if ¬ s.listLeft h unfit = [] ∧ (s.hallPlan h).partialPermitted = true then
        (s.reallotted h unfit { (s.inc h).flags with shortfall := true, isPartial := true }).goOn h
      else
        ((s.reallotted h unfit { (s.inc h).flags with shortfall := true, countdownSpent := true }).returnAll h).enterWaiting
          h := by
  have list : ((s.reallotted h unfit (s.inc h).flags).inc h).alloc = s.listLeft h unfit :=
    (congrArg Incident.alloc (s.inc_reallotted h unfit (s.inc h).flags)).trans rfl
  have plan : (s.reallotted h unfit (s.inc h).flags).hallPlan h = s.hallPlan h := rfl
  unfold State.shortfallInSelecting
  rw [State.falling_reallotted, list, plan]
  unfold State.setShortfall State.setPartial State.setCountdownSpent
  rw [State.modFlags_reallotted, State.modFlags_reallotted, State.modFlags_reallotted]
  by_cases met : s.recordedRequired h ≤ entriesTotal (s.listLeft h unfit)
  · rw [if_pos met, if_pos (by simpa using met)]
  · rw [if_neg met, if_neg (by simpa using met)]
    by_cases goes : ¬ s.listLeft h unfit = [] ∧ (s.hallPlan h).partialPermitted = true
    · rw [if_pos goes, if_pos (by simpa using goes)]
    · rw [if_neg goes, if_neg (by simpa using goes)]

/-- The release goes on where the total is met, or short with banks where partial release is permitted (R85). -/
theorem State.shortfallInSelecting_of_goes {s : State} {h : HallId} {unfit : List BankId}
    (goes : s.recordedRequired h ≤ entriesTotal (s.listLeft h unfit) ∨
      (¬ s.listLeft h unfit = [] ∧ (s.hallPlan h).partialPermitted = true)) :
    (s.reallotted h unfit (s.inc h).flags).shortfallInSelecting h =
      (s.reallotted h unfit
        (if s.recordedRequired h ≤ entriesTotal (s.listLeft h unfit) then (s.inc h).flags
          else { (s.inc h).flags with shortfall := true, isPartial := true })).goOn h := by
  rw [State.shortfallInSelecting_reallotted]
  by_cases met : s.recordedRequired h ≤ entriesTotal (s.listLeft h unfit)
  · rw [if_pos met, if_pos met]
  · rw [if_neg met, if_neg met, if_pos (goes.resolve_left met)]

/-- Else the hall is sent back to wait (R85). -/
theorem State.shortfallInSelecting_of_short {s : State} {h : HallId} {unfit : List BankId}
    (short : entriesTotal (s.listLeft h unfit) < s.recordedRequired h)
    (back : s.listLeft h unfit = [] ∨ (s.hallPlan h).partialPermitted = false) :
    (s.reallotted h unfit (s.inc h).flags).shortfallInSelecting h =
      ((s.reallotted h unfit { (s.inc h).flags with shortfall := true, countdownSpent := true }).returnAll h).enterWaiting
        h := by
  have stops : ¬ (¬ s.listLeft h unfit = [] ∧ (s.hallPlan h).partialPermitted = true) := by
    rintro ⟨some, permitted⟩
    obtain none | refused := back
    · exact some none
    · rw [permitted] at refused
      cases refused
  rw [State.shortfallInSelecting_reallotted, if_neg (Nat.not_le.2 short), if_neg stops]

/-- The unfit banks of the hall. -/
def State.unfitOf (s : State) (h : HallId) (unfit : List BankId) : List BankId :=
  unfit.filter fun b => s.bank b == .reserved h

theorem State.withdrawHall_eq (unfit : List BankId) (s : State) (h : HallId) :
    State.withdrawHall unfit s h =
      if s.hallState h = .selecting then
        (s.reallotted h (s.unfitOf h unfit) (s.inc h).flags).shortfallInSelecting h
      else (s.reallotted h (s.unfitOf h unfit) (s.inc h).flags).shortfallInCountdown h := by
  rw [← State.reallotted_same]
  rfl

/-- The release goes on, or enters DISCHARGING, as R85 tells. -/
theorem State.Tied.goOn_reallotted {s : State} {h : HallId} (t : s.Tied h) (st : s.hallState h = .selecting)
    (unfit : List BankId) (f : Flags) :
    ((∃ e, e ∈ s.listLeft h unfit ∧ (s.selector (s.manifoldOf e.bank) h).proven = false) →
      (s.reallotted h unfit f).goOn h = (s.reallotted h unfit f).settleAllocation h) ∧
    ((∀ e, e ∈ s.listLeft h unfit → (s.selector (s.manifoldOf e.bank) h).proven = true) →
      (s.reallotted h unfit f).goOn h = ((s.reallotted h unfit f).settleAllocation h).enterDischarging h) := by
  have all := t.allProven_settled st (s.settleAllocation_reallotted h unfit f).1
  unfold State.goOn
  dsimp only
  refine ⟨?_, fun proven => if_pos (all.2 proven)⟩
  rintro ⟨e, k, unproven⟩
  refine if_neg fun proven => ?_
  rw [all.1 proven e k] at unproven
  cases unproven

/-- Steps 1 to 5 of R82 state all that R82 to R85 say of one hall. -/
theorem State.lostTo_withdrawHall (unfit : List BankId) {s : State} {h : HallId}
    (tied : s.hallState h = .selecting → s.Tied h) :
    s.lostTo (State.withdrawHall unfit s h) h (s.unfitOf h unfit) := by
  obtain ⟨n, le, through, taken, list⟩ := s.replaces h (s.unfitOf h unfit)
  unfold State.lostTo
  refine ⟨n, le, through, fun counting => ?_, fun st _ => ?_⟩
  · have notSel : ¬ s.hallState h = .selecting := by
      obtain e | e := counting <;> rw [e] <;> simp
    rw [State.withdrawHall_eq, if_neg notSel, ← taken, ← list]
    exact s.shortfallInCountdown_reallotted h (s.unfitOf h unfit)
  · have t := tied st
    rw [State.withdrawHall_eq, if_pos st, ← taken, ← list]
    refine ⟨fun goes => ?_, fun short back => ?_⟩
    · rw [State.shortfallInSelecting_of_goes goes]
      dsimp only
      generalize (if s.recordedRequired h ≤ entriesTotal (s.listLeft h (s.unfitOf h unfit)) then (s.inc h).flags
        else { (s.inc h).flags with shortfall := true, isPartial := true }) = f
      obtain ⟨tables, whole⟩ := s.settleAllocation_reallotted h (s.unfitOf h unfit) f
      obtain ⟨stays, fires⟩ := t.goOn_reallotted st (s.unfitOf h unfit) f
      refine ⟨fun unproven => ?_, fun proven => ?_⟩
      · rw [stays unproven]
        rw [st] at whole
        exact ⟨tables, whole⟩
      · rw [fires proven]
        exact t.enterDischarging_settled tables whole
    · rw [State.shortfallInSelecting_of_short short back]
      exact t.sentBackInto st (s.unfitOf h unfit) _

end Sys2Proof.Machine
end

section
/-! A withdrawal from several halls, each on the state that the one before it left (R82): what it leaves of the halls that
follow, and the whole event by its halls in rank order. -/

namespace Sys2Proof.Machine

/-! ## The ways in which one hall's withdrawal ends -/

theorem State.withdrawHall_cases (unfit : List BankId) (s : State) (h : HallId) :
    ∃ f,
      State.withdrawHall unfit s h = (s.reallotted h (s.unfitOf h unfit) f).settleAllocation h ∨
      State.withdrawHall unfit s h = ((s.reallotted h (s.unfitOf h unfit) f).settleAllocation h).setShortfall h ∨
      State.withdrawHall unfit s h = ((s.reallotted h (s.unfitOf h unfit) f).settleAllocation h).enterDischarging h ∨
      State.withdrawHall unfit s h = ((s.reallotted h (s.unfitOf h unfit) f).returnAll h).enterWaiting h := by
  have goesOn (p : State) : p.goOn h = p.settleAllocation h ∨ p.goOn h = (p.settleAllocation h).enterDischarging h := by
    unfold State.goOn
    dsimp only
    split
    · exact Or.inr rfl
    · exact Or.inl rfl
  rw [State.withdrawHall_eq]
  split
  · rw [State.shortfallInSelecting_reallotted]
    split
    · exact ⟨_, (goesOn _).elim Or.inl fun e => Or.inr (Or.inr (Or.inl e))⟩
    · split
      · exact ⟨_, (goesOn _).elim Or.inl fun e => Or.inr (Or.inr (Or.inl e))⟩
      · exact ⟨_, Or.inr (Or.inr (Or.inr rfl))⟩
  · refine ⟨(s.inc h).flags, ?_⟩
    unfold State.shortfallInCountdown
    dsimp only
    split
    · exact Or.inr (Or.inl rfl)
    · exact Or.inl rfl

theorem State.Moves.of_reallotted (s : State) (h : HallId) (unfit : List BankId) (f : Flags) :
    State.Moves h s (s.reallotted h unfit f) := by
  unfold State.reallotted State.modFlags
  exact ((State.Moves.of_dropUnfit s h unfit).trans (State.Moves.of_replace _ h unfit)).trans (State.Moves.of_modInc _ h _)

theorem State.Moves.of_settleAllocation (s : State) (h : HallId) : State.Moves h s (s.settleAllocation h) := by
  rw [State.settleAllocation_eq]
  exact (State.Moves.of_emptied s h).trans (State.Moves.of_modInc _ h _)

theorem State.Moves.of_enterWaiting (s : State) (h : HallId) : State.Moves h s (s.enterWaiting h) :=
  (State.Moves.of_modHall s h Hall.waits (Or.inl rfl)).trans (State.Moves.of_joinWaitList _ h)

/-! ## What another hall sees of it -/

/-- Hall `g` sees no difference between `s` and `t`: its record, the banks RESERVED to it, the manifolds it holds and its
place among the waiting halls are the same. -/
structure State.PassesBy (g : HallId) (s t : State) : Prop where
  hall : t.hall g = s.hall g
  banks : ∀ b, t.bank b = .reserved g ↔ s.bank b = .reserved g
  mans : ∀ m, (t.man m).state = (s.man m).state ∨ (¬ t.holder m = some g ∧ ¬ s.holder m = some g)
  work : t.work = s.work
  waits : g ∈ t.waitList ↔ g ∈ s.waitList

theorem State.PassesBy.trans {g : HallId} {s t u : State} (a : State.PassesBy g s t) (b : State.PassesBy g t u) :
    State.PassesBy g s u := by
  refine ⟨b.hall.trans a.hall, fun c => (b.banks c).trans (a.banks c), fun m => ?_, b.work.trans a.work,
    b.waits.trans a.waits⟩
  obtain e | ⟨free, away⟩ := b.mans m
  · obtain e' | ⟨free', away'⟩ := a.mans m
    · exact Or.inl (e.trans e')
    · refine Or.inr ⟨?_, away'⟩
      rw [State.holder, e]
      exact free'
  · obtain e' | ⟨-, away'⟩ := a.mans m
    · refine Or.inr ⟨free, ?_⟩
      rw [State.holder, ← e']
      exact away
    · exact Or.inr ⟨free, away'⟩

theorem State.Moves.passesBy {h g : HallId} {s t : State} (a : State.Moves h s t) (n : ¬ g = h) : State.PassesBy g s t := by
  have outside (x : ManState) (w : x.within h) : ¬ x.holder = some g := by
    obtain e | e := w <;> rw [e]
    · simp
    · exact fun k => n (Option.some.inj k).symm
  have listed (l : List HallId) : (g ∈ l.filter fun f => !(f == h)) ↔ g ∈ l := by simp [n]
  refine ⟨a.others g n, a.reserved_iff n, fun m => ?_, ((State.frame_iff s t).1 a.frame).1, ?_⟩
  · exact (a.mans m).imp_right fun w => ⟨outside _ w.2, outside _ w.1⟩
  · rw [← listed, a.waits, listed]

theorem State.PassesBy.of_enterDischarging (s : State) {h g : HallId} (n : ¬ g = h) :
    State.PassesBy g s (s.enterDischarging h) := by
  have shape := State.enterDischarging_shape s h
  have own := State.hall_enterDischarging_other s fun e => n e.symm
  have bank := State.bank_enterDischarging s h
  generalize s.enterDischarging h = t at *
  refine ⟨own, fun b => ?_, fun m => Or.inl ?_, (congrArg State.work shape).trans rfl, ?_⟩
  · rw [bank]
    split
    · rename_i k
      rw [k.2]
      exact iff_of_false (fun e => by cases e) fun e => n (BankState.reserved.inj e).symm
    · exact Iff.rfl
  · exact (congrArg (fun x => (State.man x m).state) shape).trans rfl
  · rw [(congrArg State.waitList shape).trans rfl]

/-- One hall's withdrawal leaves the others as they were. -/
theorem State.PassesBy.of_withdrawHall (unfit : List BankId) (s : State) {h g : HallId} (n : ¬ g = h) :
    State.PassesBy g s (State.withdrawHall unfit s h) := by
  obtain ⟨f, e⟩ := State.withdrawHall_cases unfit s h
  have dropped := State.Moves.of_reallotted s h (s.unfitOf h unfit) f
  have settled := dropped.trans (State.Moves.of_settleAllocation _ h)
  obtain e | e | e | e := e <;> rw [e]
  · exact settled.passesBy n
  · unfold State.setShortfall State.modFlags
    exact (settled.trans (State.Moves.of_modInc _ h _)).passesBy n
  · exact (settled.passesBy n).trans (State.PassesBy.of_enterDischarging _ n)
  · exact ((dropped.trans (State.Moves.of_returnAll _ h)).trans (State.Moves.of_enterWaiting _ h)).passesBy n

theorem State.PassesBy.tied {g : HallId} {s t : State} (a : State.PassesBy g s t) (w : s.Tied g) : t.Tied g := by
  have manifoldOf (b : BankId) : t.manifoldOf b = s.manifoldOf b := by
    unfold State.manifoldOf State.bankPlan
    rw [a.work]
  refine ⟨fun b => ?_, fun b e => ?_, fun m e => ?_, fun k => w.out (a.waits.1 k)⟩
  · rw [a.banks, State.inc_of_hall a.hall]
    exact w.banks b
  · have holds := w.lies b ((a.banks b).1 e)
    rw [manifoldOf]
    obtain same | ⟨-, away⟩ := a.mans (s.manifoldOf b)
    · rw [State.holder, same]
      exact holds
    · exact absurd holds away
  · obtain same | ⟨away, -⟩ := a.mans m
    · rw [State.holder, same] at e
      rw [same]
      exact w.grips m e
    · exact absurd e away

/-! ## The halls in rank order (R82) -/

theorem State.hallsOf_ranked (s : State) (unfit : List BankId) :
    (s.hallsOf unfit).Pairwise fun g h => s.ranksBefore g h = true := by
  have fold (l acc : List HallId) (once : (l ++ acc).Nodup)
      (ranked : acc.Pairwise fun g h => s.ranksBefore g h = true) :
      (l.foldl (fun l h => insertAt (fun g => s.ranksBefore g h) h l) acc).Pairwise
        fun g h => s.ranksBefore g h = true := by
    induction l generalizing acc with
    | nil => exact ranked
    | cons h rest ih =>
      obtain ⟨out, once⟩ := List.nodup_cons.1 once
      refine ih _ ?_ (insertAt_pairwise s h acc (fun k => out (List.mem_append_right rest k)) ranked)
      have perm := (insertAt_perm (fun g => s.ranksBefore g h) h acc).append_left rest
      exact (perm.trans List.perm_middle).nodup_iff.2 (List.nodup_cons.2 ⟨out, once⟩)
  refine fold _ [] ?_ List.Pairwise.nil
  rw [List.append_nil]
  exact (by decide : HallId.all.Nodup).filter _

/-- Each hall of the event lost its own in turn (R82; log entry 11). -/
theorem State.allLostTo_foldl (unfit : List BankId) (l : List HallId) (once : l.Nodup) (s : State)
    (tied : ∀ h, h ∈ l → s.Tied h) : State.allLostTo l unfit s (l.foldl (State.withdrawHall unfit) s) := by
  induction l generalizing s with
  | nil => exact rfl
  | cons h rest ih =>
    obtain ⟨out, once⟩ := List.nodup_cons.1 once
    refine ⟨State.withdrawHall unfit s h, State.lostTo_withdrawHall unfit fun _ => tied h List.mem_cons_self, ?_⟩
    refine ih once _ fun g k => ?_
    have n : ¬ g = h := by
      rintro rfl
      exact out k
    exact (State.PassesBy.of_withdrawHall unfit s n).tied (tied g (List.mem_cons_of_mem h k))

theorem State.tied_of_mem_hallsOf {s : State} (law : s.tableLaw) {unfit : List BankId} {h : HallId}
    (k : h ∈ s.hallsOf unfit) : s.Tied h := by
  obtain ⟨b, -, e⟩ := (s.mem_hallsOf_iff unfit h).1 k
  refine State.tied_of_tableLaw law ?_
  have l := law.2.1 b
  rw [State.bankLaw, e] at l
  exact l.1

theorem State.change_reallotted (s : State) (h : HallId) (unfit : List BankId) (f : Flags) :
    ((s.reallotted h unfit f).inc h).change = (s.inc h).change :=
  (congrArg Incident.change (s.inc_reallotted h unfit f)).trans rfl

theorem State.change_settleAllocation (s : State) (h : HallId) :
    ((s.settleAllocation h).inc h).change = (s.inc h).change := by
  rw [State.settleAllocation_eq, State.inc_modInc_same]
  exact congrArg (fun x : Hall => x.inc.change) (State.hall_emptied s h h)

/-- The change numbers wait for the end of the event (R63). -/
theorem State.change_withdrawHall (unfit : List BankId) (s : State) (h g : HallId) :
    ((State.withdrawHall unfit s h).inc g).change = (s.inc g).change := by
  by_cases n : h = g
  · subst n
    obtain ⟨f, e⟩ := State.withdrawHall_cases unfit s h
    have dropped := s.change_reallotted h (s.unfitOf h unfit) f
    have settled := (State.change_settleAllocation _ h).trans dropped
    obtain e | e | e | e := e <;> rw [e]
    · exact settled
    · rw [State.setShortfall, State.modFlags, State.inc_modInc_same]
      exact settled
    · exact (congrArg (fun x : Hall => x.inc.change) (State.hall_enterDischarging _ h)).trans settled
    · refine (congrArg (fun x : Hall => x.inc.change) (State.hall_enterWaiting _ h)).trans ?_
      exact (congrArg Incident.change (State.inc_returnAll _ h)).trans dropped
  · exact congrArg (fun x : Hall => x.inc.change) (State.hall_withdrawHall_other unfit s n)

theorem State.change_withdrawHalls (unfit : List BankId) (l : List HallId) (s : State) (g : HallId) :
    ((l.foldl (State.withdrawHall unfit) s).inc g).change = (s.inc g).change := by
  induction l generalizing s with
  | nil => rfl
  | cons h rest ih => exact (ih _).trans (State.change_withdrawHall unfit s h g)

/-- The event of a withdrawal, from a state that meets the laws of the tables (R82). -/
theorem State.Event.withdrawnInto {s t : State} {unfit : List BankId} (e : State.Event s (s.withdraw unfit) t)
    (law : s.tableLaw) : s.withdrawnInto t unfit :=
  ⟨s.hallsOf unfit, _, s.mem_hallsOf_iff unfit, s.hallsOf_ranked unfit,
    State.allLostTo_foldl unfit _ (s.nodup_hallsOf unfit) s fun _ => State.tied_of_mem_hallsOf law,
    State.Event.thenReexamined e (State.change_withdrawHalls unfit _ s)⟩

end Sys2Proof.Machine
end

section
/-! A hall sent back to wait, through the re-examination that follows (R76, R80, R85, R87). -/

namespace Sys2Proof.Machine

/-! ## The one attempt where no other hall waits -/

theorem State.reexamine_of_alone {s : State} {h : HallId} (alone : s.waitList = [h]) :
    s.reexamine = (s.attempt h []).1 := by
  unfold State.reexamine
  rw [alone]
  rfl

theorem State.protectedFrom_of_alone {s : State} {h : HallId} (alone : s.waitList = [h]) : s.protectedFrom h = [] := by
  unfold State.protectedFrom
  rw [alone]
  simp [ranksBefore_irrefl]

/-- A re-examination for one waiting hall alone is the single attempt of R66 for it. -/
theorem State.attemptedFrom_reexamine {s : State} {h : HallId} (alone : s.waitList = [h])
    (st : s.hallState h = .waiting) : s.attemptedFrom s.reexamine h := by
  have guarded := State.protectedFrom_of_alone alone
  unfold State.attemptedFrom
  rw [State.reexamine_of_alone alone, guarded]
  obtain ⟨ok, e⟩ | ⟨no, e⟩ := State.attempt_cases s h [] <;> rw [e]
  · exact ⟨State.computedFor_afterSuccess s h _, fun _ => State.allocatedTo_succeeded s h _,
      fun no => absurd (ok.symm.trans no) (by simp)⟩
  · have own := State.hall_withComputation s h
    have inc := congrArg Hall.inc own
    have same : s.sameIncident (s.withComputation h) h :=
      ⟨(congrArg Incident.number inc).trans rfl, (congrArg Incident.cause inc).trans rfl,
        (congrArg Incident.confNumber inc).trans rfl, (congrArg Incident.latched inc).trans rfl,
        (congrArg Hall.clock own).trans rfl⟩
    refine ⟨⟨congrArg Incident.required inc, congrArg Incident.tLow inc, congrArg Incident.tHigh inc, same⟩,
      fun ok => absurd (no.symm.trans ok) (by simp), fun _ => ⟨rfl, rfl, (congrArg Incident.alloc inc).trans rfl,
        (congrArg Incident.state inc).trans st, ?_⟩⟩
    show h ∈ s.waitList
    rw [alone]
    exact List.mem_singleton_self h

/-! ## What attempts leave of a hall whose countdown is spent -/

/-- Hall `h` waits in `v` as it does in `u`, and holds no more there. -/
structure State.StillWaits (h : HallId) (u v : State) : Prop where
  state : v.hallState h = .waiting
  listed : h ∈ v.waitList
  alloc : (v.inc h).alloc = (u.inc h).alloc
  estimate : (v.inc h).estimate = (u.inc h).estimate
  banks : ∀ b, v.bank b = .reserved h → u.bank b = .reserved h
  mans : ∀ m, (v.man m).state = .claimed h ∨ (v.man m).state = .selecting h →
    (u.man m).state = .claimed h ∨ (u.man m).state = .selecting h

/-- A record as attempts leave it, countdown spent: the incident, hold used and SHORTFALL are those of `x` (R54). -/
structure Hall.Retried (x y : Hall) : Prop where
  number : y.inc.number = x.inc.number
  cause : y.inc.cause = x.inc.cause
  confNumber : y.inc.confNumber = x.inc.confNumber
  latched : y.inc.latched = x.inc.latched
  clock : y.clock = x.clock
  holdUsed : y.inc.holdUsed = x.inc.holdUsed
  countdown : y.inc.countdown = none
  spent : y.inc.flags.countdownSpent = true
  shortfall : y.inc.flags.shortfall = x.inc.flags.shortfall

/-- What the attempts of a re-examination that begins in `u` leave in `v` of hall `h`, which waits with its countdown
spent: it waits on, or it is in SELECTING (R54, R80). -/
structure State.Retried (h : HallId) (u v : State) : Prop where
  record : (u.hall h).Retried (v.hall h)
  place : State.StillWaits h u v ∨ (v.hallState h = .selecting ∧ ¬ h ∈ v.waitList)

theorem State.hall_succeeded_of_spent {s : State} {h : HallId} (spent : (s.inc h).flags.countdownSpent = true)
    (taken : List BankId) :
    (s.succeeded h taken).hall h =
      { s.hall h with inc := { s.committed h taken with state := .selecting, countdown := none } } := by
  obtain ⟨-, e⟩ | ⟨no, -⟩ := State.succeeded_cases s h taken
  · rw [e, State.hall_enterSelecting_same, State.inc_afterCommit]
    have own : (s.afterCommit h taken).hall h = { s.hall h with inc := s.committed h taken } :=
      State.hall_modHall_same _ h _
    rw [own]
  · rw [spent] at no
    cases no

/-- An attempt for the hall itself. -/
theorem State.Retried.own {h : HallId} {u v : State} (r : State.Retried h u v) (guarded : List BankId) :
    State.Retried h u (v.attempt h guarded).1 := by
  obtain ⟨⟨number, cause, confNumber, latched, clock, holdUsed, countdown, spent, shortfall⟩, place⟩ := r
  obtain e | e := State.attempt_fst v h guarded <;> rw [e]
  · have own := State.hall_succeeded_of_spent spent (v.attemptTakes h guarded)
    rw [State.committed_eq] at own
    refine ⟨?_, Or.inr ⟨congrArg (fun x : Hall => x.inc.state) own, ?_⟩⟩
    · rw [own]
      exact ⟨number, cause, confNumber, latched, clock, holdUsed, rfl, spent, shortfall⟩
    · rw [State.waitList_succeeded]
      simp
  · have own := State.hall_withComputation v h
    have inc : (v.withComputation h).inc h = _ := congrArg Hall.inc own
    have state : (v.withComputation h).hallState h = v.hallState h := (congrArg Incident.state inc).trans rfl
    refine ⟨?_, ?_⟩
    · rw [own]
      exact ⟨number, cause, confNumber, latched, clock, holdUsed, countdown, spent, shortfall⟩
    · rw [state]
      refine place.imp_left fun w => ⟨state.trans w.state, w.listed, ?_, ?_, w.banks, w.mans⟩
      · exact (congrArg Incident.alloc inc).trans w.alloc
      · exact (congrArg Incident.estimate inc).trans w.estimate

/-- An attempt for another hall. -/
theorem State.Retried.other {h g : HallId} {u v : State} (r : State.Retried h u v) (n : ¬ g = h)
    (guarded : List BankId) : State.Retried h u (v.attempt g guarded).1 := by
  have away : ¬ h = g := fun e => n e.symm
  have hall := State.hall_attempt_other v guarded n
  have bank := State.bank_attempt v g guarded
  have man := State.man_attempt v g guarded
  have waits : h ∈ (v.attempt g guarded).1.waitList ↔ h ∈ v.waitList := by
    obtain e | e := State.attempt_fst v g guarded <;> rw [e]
    · rw [State.waitList_succeeded, List.mem_filter]
      simp [away]
    · exact Iff.rfl
  generalize (v.attempt g guarded).1 = w at hall bank man waits
  have inc := State.inc_of_hall hall
  refine ⟨by rw [hall]; exact r.record, ?_⟩
  rw [State.hallState_of_hall hall, waits]
  refine r.place.imp_left fun p => ⟨(State.hallState_of_hall hall).trans p.state, waits.2 p.listed,
    by rw [inc]; exact p.alloc, by rw [inc]; exact p.estimate, fun b e => ?_, fun m e => ?_⟩
  · obtain k | k := bank b <;> rw [k] at e
    · exact p.banks b e
    · exact absurd (BankState.reserved.inj e) n
  · obtain k | ⟨-, k⟩ := man m
    · rw [k] at e
      exact p.mans m e
    · rw [State.holder_of_pending e] at k
      exact absurd (Option.some.inj k).symm n

theorem State.retried_reexamine {u : State} {h : HallId} (start : State.Retried h u u) :
    State.Retried h u u.reexamine :=
  State.reexamine_induct (P := State.Retried h u) start fun v g guarded _ r => by
    by_cases n : g = h
    · exact n ▸ r.own guarded
    · exact r.other n guarded

end Sys2Proof.Machine
end

section
/-! The event in which a hall is sent back to wait (R76, R80, R85, R87). -/

namespace Sys2Proof.Machine

theorem State.Event.waitList {s v t : State} (e : State.Event s v t) : t.waitList = v.waitList :=
  (congrArg State.waitList e.rest).trans rfl

/-- What was given back stays so where no bank and no manifold went to the hall since (R87). -/
theorem State.returnedTo_of_handedBack {s u t : State} {h : HallId} (back : s.handedBack u h)
    (banks : ∀ b, t.bank b = .reserved h → u.bank b = .reserved h)
    (mans : ∀ m, (t.man m).state = .claimed h ∨ (t.man m).state = .selecting h →
      (u.man m).state = .claimed h ∨ (u.man m).state = .selecting h)
    (alloc : (t.inc h).alloc = s.keptEntries h)
    (estimate : (t.inc h).estimate = if s.keptEntries h = [] then none else (s.inc h).estimate)
    (alone : (∀ g, g ∈ s.waitList → g = h) → t.banks = u.banks ∧ t.mans = u.mans ∧ t.selectors = u.selectors) :
    s.returnedTo t h := by
  obtain ⟨given, freed⟩ := back
  refine ⟨fun b listed e => ?_, fun m => not_or.1 fun k => ?_, alloc, by rw [alloc]; exact estimate, fun only => ?_⟩
  · have r := banks b e
    rw [given] at r
    split at r
    · cases r
    · rename_i n
      exact n ⟨listed, r⟩
  · have pending := mans m k
    obtain ⟨free, kept⟩ := freed m
    by_cases c : (s.man m).state = .claimed h ∨ (s.man m).state = .selecting h
    · rw [(free c).1] at pending
      simp at pending
    · rw [(kept c).1] at pending
      exact c pending
  · obtain ⟨b, m, sel⟩ := alone only
    unfold State.bank State.man State.selector at *
    rw [b, m, sel]
    refine ⟨given, fun m => ⟨?_, fun c => ?_⟩⟩
    · obtain ⟨free, kept⟩ := freed m
      split
      · rename_i c
        exact (free c).1
      · rename_i c
        exact (kept c).1
    · rw [((freed m).1 c).2.1, PerHall.get_set_same]

theorem State.circuitUsable_of_handedBack {s u : State} {h : HallId} (back : s.handedBack u h)
    (circuits : u.bankCircuits = s.bankCircuits) (c : CircuitId) : u.circuitUsable c = s.circuitUsable c := by
  cases c with
  | bank b =>
    unfold State.circuitUsable State.circuit
    rw [circuits]
  | selector m g =>
    have same : u.selCircuits.get m = s.selCircuits.get m ∨
        u.selCircuits.get m =
          (s.selCircuits.get m).set h (((s.selCircuits.get m).get h).map fun c => { c with driven := false }) := by
      obtain ⟨free, kept⟩ := back.2 m
      by_cases p : (s.man m).state = .claimed h ∨ (s.man m).state = .selecting h
      · exact Or.inr (free p).2.2
      · exact Or.inl (kept p).2.2
    have usable (x : State) : x.circuitUsable (.selector m g) =
        ((x.selCircuits.get m).get g).any fun c => c.condition.usable := by
      unfold State.circuitUsable
      dsimp only [State.circuit]
      cases (x.selCircuits.get m).get g <;> rfl
    rw [usable, usable]
    obtain e | e := same <;> rw [e]
    rw [PerHall.get_set]
    split
    · rename_i e
      rw [← e]
      cases (s.selCircuits.get m).get h <;> rfl
    · rfl

/-! ## The state in which the hall has joined the wait list -/

section
variable {s u : State} {h : HallId} {f : Flags}

theorem State.sentBackInto.hall (into : s.sentBackInto u h f) :
    u.hall h =
      { s.hall h with
        inc :=
          { s.inc h with
            state := .waiting, countdown := none, alloc := s.keptEntries h
            estimate := if s.keptEntries h = [] then none else (s.inc h).estimate
            flags := f } } :=
  (congrArg (fun x => State.hall x h) into.1).trans (PerHall.get_set_same _ _ _)

theorem State.sentBackInto.hall_other (into : s.sentBackInto u h f) {g : HallId} (n : ¬ h = g) :
    u.hall g = s.hall g :=
  (congrArg (fun x => State.hall x g) into.1).trans (PerHall.get_set_other _ _ n)

theorem State.sentBackInto.change (into : s.sentBackInto u h f) (g : HallId) : (u.inc g).change = (s.inc g).change := by
  by_cases n : h = g
  · exact n ▸ (congrArg (fun x : Hall => x.inc.change) into.hall).trans rfl
  · exact congrArg (fun x : Hall => x.inc.change) (into.hall_other n)

theorem State.sentBackInto.listed (into : s.sentBackInto u h f) : h ∈ u.waitList := by
  obtain ⟨-, -, before, after, -, joined, -⟩ := into
  rw [joined]
  exact List.mem_append_right before List.mem_cons_self

theorem State.sentBackInto.alone (into : s.sentBackInto u h f) (nobody : s.waitList = []) : u.waitList = [h] := by
  obtain ⟨-, -, before, after, split, joined, -⟩ := into
  rw [nobody] at split
  obtain ⟨rfl, rfl⟩ := List.append_eq_nil_iff.1 split.symm
  exact joined

theorem State.sentBackInto.returnedTo (into : s.sentBackInto u h f) : s.returnedTo u h :=
  State.returnedTo_of_handedBack into.2.1 (fun _ => id) (fun _ => id)
    ((congrArg (fun x : Hall => x.inc.alloc) into.hall).trans rfl)
    ((congrArg (fun x : Hall => x.inc.estimate) into.hall).trans rfl) fun _ => ⟨rfl, rfl, rfl⟩

theorem State.sentBackInto.retried (into : s.sentBackInto u h f) (spent : f.countdownSpent = true) :
    State.Retried h u u := by
  have own := into.hall
  have state : u.hallState h = .waiting := congrArg (fun x : Hall => x.inc.state) own
  have countdown : (u.hall h).inc.countdown = none := congrArg (fun x : Hall => x.inc.countdown) own
  have kept : (u.hall h).inc.flags.countdownSpent = true :=
    (congrArg (fun x : Hall => x.inc.flags.countdownSpent) own).trans spent
  exact ⟨⟨rfl, rfl, rfl, rfl, rfl, rfl, countdown, kept, rfl⟩,
    Or.inl ⟨state, into.listed, rfl, rfl, fun _ => id, fun _ => id⟩⟩

end

/-! ## The event -/

/-- Left in WAITING after the walk, the hall holds nothing (R87). -/
theorem State.StillWaits.returnedTo {s u t : State} {h : HallId} {f : Flags} (into : s.sentBackInto u h f)
    (out : ¬ h ∈ s.waitList) (w : State.StillWaits h u u.reexamine) (e : State.Event s u.reexamine t) :
    s.returnedTo t h := by
  obtain ⟨n, hall⟩ := e.hall_but_change h
  have inc := congrArg Hall.inc hall
  have own := into.hall
  have bank := e.bank
  have man := e.man
  refine State.returnedTo_of_handedBack into.2.1 (fun b k => w.banks b (bank b ▸ k)) (fun m k => w.mans m (man m ▸ k))
    ?_ ?_ fun only => ?_
  · refine (congrArg Incident.alloc inc).trans (w.alloc.trans ?_)
    exact (congrArg (fun x : Hall => x.inc.alloc) own).trans rfl
  · refine (congrArg Incident.estimate inc).trans (w.estimate.trans ?_)
    exact (congrArg (fun x : Hall => x.inc.estimate) own).trans rfl
  · have nobody : s.waitList = [] := List.eq_nil_iff_forall_not_mem.2 fun g k => out (only g k ▸ k)
    have state := w.state
    rw [State.reexamine_of_alone (into.alone nobody)] at state
    obtain k | k := State.attempt_fst u h []
    · have spent : u.reexamine.waitList = (u.attempt h []).1.waitList :=
        congrArg State.waitList (State.reexamine_of_alone (into.alone nobody))
      have listed := w.listed
      rw [spent, k, State.waitList_succeeded] at listed
      simp at listed
    · rw [e.rest]
      show u.reexamine.banks = _ ∧ u.reexamine.mans = _ ∧ u.reexamine.selectors = _
      rw [State.reexamine_of_alone (into.alone nobody), k]
      exact ⟨rfl, rfl, rfl⟩

/-- Sent back to wait, the hall is attempted in its place (R80, R85). -/
theorem State.sentBackInto.sentBackTo {s u t : State} {h : HallId} {f : Flags} (into : s.sentBackInto u h f)
    (out : ¬ h ∈ s.waitList) (spent : f.countdownSpent = true) (e : State.Event s u.reexamine t) :
    s.sentBackTo t h f ∧ (t.inc h).flags.shortfall = f.shortfall := by
  obtain ⟨n, hall⟩ := e.hall_but_change h
  have inc := congrArg Hall.inc hall
  have own := into.hall
  have uinc : u.inc h = _ := congrArg Hall.inc own
  obtain ⟨⟨number, cause, confNumber, latched, clock, holdUsed, countdown, kept, shortfall⟩, place⟩ :=
    State.retried_reexamine (into.retried spent)
  rw [own] at number cause confNumber latched clock holdUsed shortfall
  have incident : s.sameIncident t h :=
    ⟨(congrArg Incident.number inc).trans number, (congrArg Incident.cause inc).trans cause,
      (congrArg Incident.confNumber inc).trans confNumber, (congrArg Incident.latched inc).trans latched,
      (congrArg Hall.clock hall).trans clock⟩
  have state : t.hallState h = u.reexamine.hallState h := (congrArg Incident.state inc).trans rfl
  refine ⟨⟨⟨u, into, e.thenReexamined into.change⟩, incident, (congrArg Incident.holdUsed inc).trans holdUsed,
    (congrArg Incident.countdown inc).trans countdown,
    (congrArg (fun i : Incident => i.flags.countdownSpent) inc).trans kept, ?_, fun nobody => ?_⟩,
    (congrArg (fun i : Incident => i.flags.shortfall) inc).trans shortfall⟩
  · rw [state, e.waitList]
    exact place.imp_left fun w => ⟨w.state, w.listed, w.returnedTo into out e⟩
  · have waiting : u.hallState h = .waiting := congrArg Incident.state uinc
    have attempted : u.attemptedFrom t h :=
      (e.recounted h).attemptedFrom (State.attemptedFrom_reexamine (into.alone nobody) waiting)
    have same : s.sameIncident u h :=
      ⟨(congrArg Incident.number uinc).trans rfl, (congrArg Incident.cause uinc).trans rfl,
        (congrArg Incident.confNumber uinc).trans rfl, (congrArg Incident.latched uinc).trans rfl,
        (congrArg Hall.clock own).trans rfl⟩
    have circuits : u.bankCircuits = s.bankCircuits := (congrArg State.bankCircuits into.1).trans rfl
    exact ⟨u, into.returnedTo, same, waiting, into.alone nobody, congrArg Incident.flags uinc,
      (congrArg Hall.wait own).trans rfl, (congrArg State.work into.1).trans rfl,
      (congrArg State.contacts into.1).trans rfl, (congrArg State.links into.1).trans rfl,
      State.circuitUsable_of_handedBack into.2.1 circuits, attempted⟩

end Sys2Proof.Machine
end

section
/-! The event in which one hall loses its unfit banks (R82 to R85). -/

namespace Sys2Proof.Machine

/-! ## What the re-examination at the end leaves -/

theorem State.Event.driver_of_reexamine {s u t : State} (e : State.Event s u.reexamine t) :
    t.queue = u.queue ∧ t.slots = u.slots ∧ t.write = u.write ∧ t.markQueue = u.markQueue ∧
      t.storePart = u.storePart := by
  have still := State.still_reexamine u
  have outer := State.outer_of_still still
  have queue := State.queue_of_still still
  have slots := State.slots_of_still still
  have write := State.write_of_still still
  have marks := State.markQueue_of_still still
  have plan := State.nvPlan_of_outer outer
  have spent := State.nvSpent_of_outer outer
  have overlay := State.overlay_of_outer outer
  rw [e.rest]
  refine ⟨queue, slots, write, marks, ?_⟩
  unfold State.storePart
  simp only [plan, spent, overlay, write, marks]

theorem State.Event.settledTo_of_reexamine {s u t : State} {h : HallId} {unfit taken : List BankId} {x : BankState}
    (e : State.Event s u.reexamine t) (nobody : u.waitList = []) (tables : s.settledTo u h unfit taken x) :
    s.settledTo t h unfit taken x := by
  rw [State.reexamine_of_empty u nobody] at e
  refine State.settledTo_congr ?_ ?_ ?_ ?_ tables <;> rw [e.rest]

theorem State.Event.queuedFrom_of_reexamine {s u t : State} {joining : List BankId} (e : State.Event s u.reexamine t)
    (q : s.queuedFrom u joining) : s.queuedFrom t joining := by
  obtain ⟨queue, slots, write, marks, -⟩ := e.driver_of_reexamine
  unfold State.queuedFrom at q ⊢
  rw [queue, slots, write, marks]
  exact q

/-- A list that a withdrawal changed advances the change number (R63). -/
theorem State.Event.reallocatedTo {s u t : State} {h : HallId} {l : List AllocEntry} {x : HallState} {f : Flags}
    (e : State.Event s u.reexamine t) (own : u.hall h = s.reallocated h l x f) (out : ¬ h ∈ u.waitList)
    (moved : ¬ l = (s.inc h).alloc) : s.reallocatedTo t h l x f := by
  have same := (State.hall_reexamine_other u out).trans own
  have inc : u.reexamine.inc h = (s.reallocated h l x f).inc := congrArg Hall.inc same
  have changed : ¬ (s.inc h).content = (u.reexamine.inc h).content := fun k => by
    rw [inc] at k
    exact moved (congrArg Incident.alloc k).symm
  have hall := e.hall_of_changed changed
  rw [inc, same] at hall
  exact hall

/-! ## The list without an unfit bank -/

/-- A bank withdrawn is off the list, which it was on (R82). -/
theorem State.listAfter_ne {s : State} {h : HallId} {unfit : List BankId} {b : BankId} (u : b ∈ unfit)
    (k : b ∈ (s.inc h).allocBanks) (n : Nat) : ¬ s.listAfter h unfit n = (s.inc h).alloc := by
  intro e
  have listed : b ∈ (s.listAfter h unfit n).map AllocEntry.bank := by
    rw [e]
    exact k
  unfold State.listAfter at listed
  rw [List.map_append, State.entriesFor_banks, List.mem_append] at listed
  obtain kept | taken := listed
  · obtain ⟨x, filtered, rfl⟩ := List.mem_map.1 kept
    have stays := (List.mem_filter.1 filtered).2
    simp [u] at stays
  · have may := (List.mem_filter.1 taken).2
    exact ((s.mayReplace_iff h unfit b).1 may).2.2.1 u

/-! ## One hall's event -/

/-- A hall that lost banks and stays in the state `x`, its release not sent back (R84, R85). -/
theorem State.Event.stays {s u t : State} {h : HallId} {l : List AllocEntry} {x : HallState} {f : Flags}
    {unfit taken : List BankId} {y : BankState} (e : State.Event s u.reexamine t) (out : ¬ h ∈ s.waitList)
    (moved : ¬ l = (s.inc h).alloc) (tables : s.settledTo u h unfit taken y)
    (halls : u.halls = s.halls.set h (s.reallocated h l x f))
    (waits : u.waitList = s.waitList) :
    s.reallocatedTo t h l x f ∧ (s.waitList = [] → s.settledTo t h unfit taken y) := by
  have own : u.hall h = s.reallocated h l x f :=
    (congrArg (fun z => PerHall.get z h) halls).trans (PerHall.get_set_same _ _ _)
  exact ⟨e.reallocatedTo own (by rw [waits]; exact out) moved,
    fun nobody => e.settledTo_of_reexamine (waits.trans nobody) tables⟩

/-- What one hall's withdrawal left, and the end of the event, state all that R82 to R85 say of the event. -/
theorem State.Event.withdrawnFrom {s u t : State} {h : HallId} {unfit : List BankId}
    (e : State.Event s u.reexamine t) (lost : s.lostTo u h unfit) (out : ¬ h ∈ s.waitList)
    (some : ∃ b, b ∈ unfit ∧ b ∈ (s.inc h).allocBanks) : s.withdrawnFrom t h unfit := by
  obtain ⟨b, unfitted, listed⟩ := some
  have moved := State.listAfter_ne unfitted listed
  obtain ⟨queue, slots, -, -, store⟩ := e.driver_of_reexamine
  obtain ⟨n, le, through, counting, selecting⟩ := lost
  refine ⟨n, le, through, fun st => ?_, fun st positive => ?_⟩
  · obtain ⟨tables, whole⟩ := counting st
    obtain ⟨record, settled⟩ := e.stays out (moved n) tables ((congrArg State.halls whole).trans rfl)
      ((congrArg State.waitList whole).trans rfl)
    exact ⟨record, queue.trans ((congrArg State.queue whole).trans rfl),
      slots.trans ((congrArg State.slots whole).trans rfl), store.trans ((congrArg State.storePart whole).trans rfl), settled⟩
  · obtain ⟨goes, short⟩ := selecting st positive
    refine ⟨fun on => ⟨fun unproven => ?_, fun proven => ?_⟩, fun below back => ?_⟩
    · obtain ⟨tables, whole⟩ := (goes on).1 unproven
      obtain ⟨record, settled⟩ := e.stays out (moved n) tables ((congrArg State.halls whole).trans rfl)
        ((congrArg State.waitList whole).trans rfl)
      exact ⟨record, queue.trans ((congrArg State.queue whole).trans rfl),
        slots.trans ((congrArg State.slots whole).trans rfl), store.trans ((congrArg State.storePart whole).trans rfl),
        settled⟩
    · obtain ⟨tables, queued, whole⟩ := (goes on).2 proven
      obtain ⟨record, settled⟩ := e.stays out (moved n) tables ((congrArg State.halls whole).trans rfl)
        ((congrArg State.waitList whole).trans rfl)
      exact ⟨record, e.queuedFrom_of_reexamine queued, settled⟩
    · have into := short below back
      obtain ⟨sent, flag⟩ := into.sentBackTo out rfl e
      exact ⟨sent, flag, queue.trans ((congrArg State.queue into.1).trans rfl),
        slots.trans ((congrArg State.slots into.1).trans rfl),
        store.trans ((congrArg State.storePart into.1).trans rfl)⟩

/-! ## The halls of the event -/

theorem State.hallsOf_single {s : State} {unfit : List BankId} {h : HallId}
    (only : ∀ g, (∃ b, b ∈ unfit ∧ s.bank b = .reserved g) ↔ g = h) : s.hallsOf unfit = [h] := by
  have perm : (s.hallsOf unfit).Perm [h] := by
    refine (List.perm_ext_iff_of_nodup (s.nodup_hallsOf unfit) (List.nodup_singleton h)).2 fun g => ?_
    rw [s.mem_hallsOf_iff, only, List.mem_singleton]
  exact List.perm_singleton.1 perm

theorem State.withdraw_single {s : State} {unfit : List BankId} {h : HallId}
    (only : ∀ g, (∃ b, b ∈ unfit ∧ s.bank b = .reserved g) ↔ g = h) :
    s.withdraw unfit = (State.withdrawHall unfit s h).reexamine := by
  unfold State.withdraw
  rw [State.hallsOf_single only]
  rfl

/-- Only halls with an unfit bank and waiting halls see the event. -/
theorem State.othersKept_withdrawHall {s t : State} {unfit : List BankId} {h : HallId}
    (e : State.Event s (State.withdrawHall unfit s h).reexamine t) : s.othersKept t h := by
  intro g n away
  have passed := State.PassesBy.of_withdrawHall unfit s n
  refine e.hall_of_same ((State.hall_reexamine_other _ fun k => ?_).trans passed.hall)
  exact away (passed.waits.1 k)

/-- The event whose unfit banks are all of one hall, from a state that meets the laws of the tables. -/
theorem State.Event.withdrawnFrom_withdraw {s t : State} {unfit : List BankId} {h : HallId}
    (e : State.Event s (s.withdraw unfit) t) (law : s.tableLaw)
    (only : ∀ g, (∃ b, b ∈ unfit ∧ s.bank b = .reserved g) ↔ g = h) :
    s.withdrawnFrom t h (s.unfitOf h unfit) ∧ s.withdrawnInto t unfit ∧ s.othersKept t h := by
  have into := e.withdrawnInto law
  obtain ⟨b, k, r⟩ := (only h).2 rfl
  have tied := State.tied_of_mem_hallsOf law ((s.mem_hallsOf_iff unfit h).2 ⟨b, k, r⟩)
  rw [State.withdraw_single only] at e
  refine ⟨e.withdrawnFrom (State.lostTo_withdrawHall unfit fun _ => tied) tied.out ⟨b, ?_, (tied.banks b).1 r⟩, into,
    State.othersKept_withdrawHall e⟩
  exact List.mem_filter.2 ⟨k, beq_iff_eq.2 r⟩

end Sys2Proof.Machine
end

section
/-! Withdrawals from any state: a hall in COUNTDOWN or HELD stays in it (R84), a bank that nobody may take stays as it is, and
the state outside the tables is kept (R82). -/

namespace Sys2Proof.Machine

/-! ## A hall in COUNTDOWN or HELD (R84) -/

/-- What a withdrawal leaves of a hall whose countdown runs. -/
structure State.CountsOn (h : HallId) (s t : State) : Prop where
  state : t.hallState h = s.hallState h
  countdown : (t.inc h).countdown = (s.inc h).countdown
  holdUsed : (t.inc h).holdUsed = (s.inc h).holdUsed
  out : ¬ h ∈ t.waitList

theorem State.countsOn_withdrawHall (unfit : List BankId) {s : State} {g : HallId}
    (st : s.hallState g = .countdown ∨ s.hallState g = .held) (out : ¬ g ∈ s.waitList) (h : HallId) :
    State.CountsOn g s (State.withdrawHall unfit s h) := by
  by_cases n : g = h
  · subst n
    have notSel : ¬ s.hallState g = .selecting := by
      obtain e | e := st <;> rw [e] <;> simp
    obtain ⟨n, -, -, counting, -⟩ := State.lostTo_withdrawHall unfit fun k => absurd k notSel
    obtain ⟨-, whole⟩ := counting st
    have own : (State.withdrawHall unfit s g).hall g = _ :=
      (congrArg (fun x => State.hall x g) whole).trans (PerHall.get_set_same _ _ _)
    have waits : (State.withdrawHall unfit s g).waitList = s.waitList := (congrArg State.waitList whole).trans rfl
    exact ⟨(congrArg (fun x : Hall => x.inc.state) own).trans rfl,
      (congrArg (fun x : Hall => x.inc.countdown) own).trans rfl,
      (congrArg (fun x : Hall => x.inc.holdUsed) own).trans rfl, by rw [waits]; exact out⟩
  · have passed := State.PassesBy.of_withdrawHall unfit s n
    have inc := State.inc_of_hall passed.hall
    exact ⟨State.hallState_of_hall passed.hall, congrArg Incident.countdown inc, congrArg Incident.holdUsed inc,
      fun k => out (passed.waits.1 k)⟩

theorem State.countsOn_withdrawHalls (unfit : List BankId) (l : List HallId) {s : State} {g : HallId}
    (st : s.hallState g = .countdown ∨ s.hallState g = .held) (out : ¬ g ∈ s.waitList) :
    State.CountsOn g s (l.foldl (State.withdrawHall unfit) s) := by
  induction l generalizing s with
  | nil => exact ⟨rfl, rfl, rfl, out⟩
  | cons h rest ih =>
    obtain ⟨state, countdown, used, away⟩ := State.countsOn_withdrawHall unfit st out h
    obtain ⟨state', countdown', used', away'⟩ := ih (by rw [state]; exact st) away
    exact ⟨state'.trans state, countdown'.trans countdown, used'.trans used, away'⟩

/-- A hall that has no unfit bank and does not wait keeps its records. -/
theorem State.passesBy_withdrawHalls (unfit : List BankId) (l : List HallId) (s : State) {g : HallId} (n : ¬ g ∈ l) :
    State.PassesBy g s (l.foldl (State.withdrawHall unfit) s) := by
  induction l generalizing s with
  | nil => exact ⟨rfl, fun _ => Iff.rfl, fun _ => Or.inl rfl, rfl, Iff.rfl⟩
  | cons h rest ih =>
    obtain ⟨away, out⟩ := not_or.1 fun k => n (List.mem_cons.2 k)
    exact (State.PassesBy.of_withdrawHall unfit s away).trans (ih _ out)

/-! ## A bank that nobody may take -/

/-- A bank that is not eligible for any hall stays as it is through a re-examination (R18, R67). -/
theorem State.bank_reexamine_of_ineligible {s : State} {b : BankId}
    (never : ∀ (v : State) (g : HallId), v.outer = s.outer → v.bank b = s.bank b → ¬ v.eligible g b = true) :
    s.reexamine.bank b = s.bank b := by
  have kept : s.reexamine.outer = s.outer ∧ s.reexamine.bank b = s.bank b :=
    State.reexamine_induct (P := fun v => v.outer = s.outer ∧ v.bank b = s.bank b) ⟨rfl, rfl⟩
      fun v g guarded _ p => by
        refine ⟨(State.outer_attempt v g guarded).trans p.1, ?_⟩
        obtain e | e := State.attempt_fst v g guarded <;> rw [e]
        · rw [State.bank_succeeded, if_neg fun k => never v g p.1 p.2 (State.eligible_of_attemptTakes k)]
          exact p.2
        · exact p.2
  exact kept.2

theorem State.bank_reexamine_of_lowPressure {s : State} {b : BankId} (low : s.lowPressure b = true) :
    s.reexamine.bank b = s.bank b := by
  refine State.bank_reexamine_of_ineligible fun v g outer _ eligible => ?_
  have pressure : v.lowPressure b = s.lowPressure b := by
    unfold State.lowPressure State.closed State.contact
    rw [State.contacts_of_outer outer]
  obtain ⟨-, -, -, fit, -⟩ := (v.eligible_iff g b).1 eligible
  rw [pressure, low] at fit
  cases fit

theorem State.bank_reexamine_of_not_ready {s : State} {b : BankId} (n : ¬ s.bank b = .ready) :
    s.reexamine.bank b = s.bank b :=
  State.bank_reexamine_of_ineligible fun v g _ same eligible => n (same ▸ ((v.eligible_iff g b).1 eligible).1)

/-! ## What a withdrawal leaves of the rest -/

theorem State.confCounter_withdrawHall (unfit : List BankId) (s : State) (h : HallId) :
    (State.withdrawHall unfit s h).confCounter = s.confCounter := by
  obtain ⟨f, e⟩ := State.withdrawHall_cases unfit s h
  have dropped := State.confCounter_of_still (s.still_reallotted h (s.unfitOf h unfit) f)
  have settled := (State.confCounter_of_still (State.still_settleAllocation _ h)).trans dropped
  obtain e | e | e | e := e <;> rw [e]
  · exact settled
  · exact settled
  · exact (congrArg State.confCounter (State.enterDischarging_shape _ h)).trans settled
  · exact (State.confCounter_of_still ((State.still_enterWaiting _ h).trans (State.still_returnAll _ h))).trans dropped

theorem State.confCounter_withdraw (s : State) (unfit : List BankId) : (s.withdraw unfit).confCounter = s.confCounter := by
  have fold (l : List HallId) (v : State) : (l.foldl (State.withdrawHall unfit) v).confCounter = v.confCounter := by
    induction l generalizing v with
    | nil => rfl
    | cons h rest ih => exact (ih _).trans (State.confCounter_withdrawHall unfit v h)
  exact (State.confCounter_of_still (State.still_reexamine _)).trans (fold _ s)

/-! ## A bank RESERVED once the withdrawal is over (R11, R83) -/

/-- After one hall's withdrawal a bank is RESERVED only to a hall that kept it, or that may take it and took it. -/
theorem State.reserved_withdrawHall (unfit : List BankId) (s : State) {h g : HallId} {b : BankId}
    (r : (State.withdrawHall unfit s h).bank b = .reserved g) :
    (s.bank b = .reserved g ∧ (g = h → ¬ b ∈ unfit)) ∨ (s.bankPlan b).role = s.selection := by
  by_cases n : g = h
  · subst n
    obtain ⟨f, e⟩ := State.withdrawHall_cases unfit s g
    have settled (k : ((s.reallotted g (s.unfitOf g unfit) f).settleAllocation g).bank b = .reserved g) :
        (s.reallotted g (s.unfitOf g unfit) f).bank b = .reserved g := by
      rw [State.settleAllocation_eq] at k
      refine Eq.trans ?_ k
      show _ = ((s.reallotted g (s.unfitOf g unfit) f).emptied g).banks.get b
      rw [State.banks_emptied]
      rfl
    have kept : (s.reallotted g (s.unfitOf g unfit) f).bank b = .reserved g := by
      obtain e | e | e | e := e <;> rw [e] at r
      · exact settled r
      · exact settled r
      · rw [State.bank_enterDischarging] at r
        split at r
        · cases r
        · exact settled r
      · rw [State.bank, State.banks_enterWaiting] at r
        have given := State.bank_returnAll (s.reallotted g (s.unfitOf g unfit) f) g b
        rw [show ((s.reallotted g (s.unfitOf g unfit) f).returnAll g).bank b = _ from r] at given
        split at given
        · cases given
        · exact given.symm
    obtain taken | ⟨reserved, stays⟩ := (s.reserved_reallotted g _ f b).1 kept
    · refine Or.inr ?_
      have eligible := ((s.mayReplace_iff g _ b).1 (State.mem_replacement taken)).1
      exact ((s.eligible_iff g b).1 eligible).2.2.2.2.1
    · exact Or.inl ⟨reserved, fun _ k => stays (List.mem_filter.2 ⟨k, beq_iff_eq.2 reserved⟩)⟩
  · exact Or.inl ⟨((State.PassesBy.of_withdrawHall unfit s n).banks b).1 r, fun k => absurd k n⟩

theorem State.selection_of_outer {s t : State} (e : t.outer = s.outer) : t.selection = s.selection := by
  unfold State.selection State.closed State.contact
  rw [State.contacts_of_outer e]

theorem State.role_of_outer {s t : State} (e : t.outer = s.outer) (b : BankId) :
    (t.bankPlan b).role = (s.bankPlan b).role := by
  unfold State.bankPlan
  rw [State.work_of_outer e]

/-- Where every RESERVED bank of another role is among the unfit, none is left RESERVED (R11). -/
theorem State.role_withdraw {s : State} {unfit : List BankId}
    (all : ∀ b g, s.bank b = .reserved g → (s.bankPlan b).role = s.selection ∨ b ∈ unfit) {b : BankId} {g : HallId}
    (r : (s.withdraw unfit).bank b = .reserved g) : (s.bankPlan b).role = s.selection := by
  have fold (l : List HallId) (v : State) (outer : v.outer = s.outer)
      (left : ∀ b g, v.bank b = .reserved g → (s.bankPlan b).role = s.selection ∨ (b ∈ unfit ∧ g ∈ l)) :
      ∀ b g, (l.foldl (State.withdrawHall unfit) v).bank b = .reserved g → (s.bankPlan b).role = s.selection := by
    induction l generalizing v with
    | nil => exact fun b g k => (left b g k).resolve_right fun x => List.not_mem_nil x.2
    | cons h rest ih =>
      refine ih _ ((State.outer_withdrawHall unfit v h).trans outer) fun b g k => ?_
      obtain ⟨reserved, gone⟩ | role := State.reserved_withdrawHall unfit v k
      · obtain role | ⟨u, listed⟩ := left b g reserved
        · exact Or.inl role
        · exact Or.inr ⟨u, (List.mem_cons.1 listed).resolve_left fun e => gone e u⟩
      · rw [State.role_of_outer outer, State.selection_of_outer outer] at role
        exact Or.inl role
  have halls := fold (s.hallsOf unfit) s rfl fun b g k =>
    (all b g k).imp_right fun u => ⟨u, (s.mem_hallsOf_iff unfit g).2 ⟨b, u, k⟩⟩
  by_contra other
  have outer : ((s.hallsOf unfit).foldl (State.withdrawHall unfit) s).outer = s.outer :=
    State.outer_foldl _ (State.outer_withdrawHall unfit) _ s
  have same : (s.withdraw unfit).bank b = ((s.hallsOf unfit).foldl (State.withdrawHall unfit) s).bank b := by
    refine State.bank_reexamine_of_ineligible fun v f kept _ eligible => other ?_
    have role := ((v.eligible_iff f b).1 eligible).2.2.2.2.1
    rw [State.role_of_outer (kept.trans outer), State.selection_of_outer (kept.trans outer)] at role
    exact role
  exact other (halls b g (same.symm.trans r))

end Sys2Proof.Machine
end

section
/-! The contacts that make banks unfit or usable: low pressure and the RESERVE key (R5, R10, R11, R148). -/

namespace Sys2Proof.Machine

/-! ## A state begun with other contacts -/

/-- The state with the contacts and the place of the scan that `t` has. -/
def State.sensing (s t : State) : State := { s with contacts := t.contacts, scan := t.scan }

theorem State.event_of_halls {s u : State} (same : u.halls = s.halls) (v : State) :
    State.Event u v (State.countChanges s v) := by
  refine ⟨PerHall.eq_of_get fun g => ?_, rfl⟩
  show (State.countChanges s v).hall g = (State.countChanges u v).hall g
  rw [State.hall_countChanges, State.hall_countChanges, State.hall_of_halls same g]

theorem State.Event.confCounter {s v t : State} (e : State.Event s v t) : t.confCounter = v.confCounter :=
  (congrArg State.confCounter e.rest).trans rfl

theorem State.portsPart_of_outer {s t : State} (e : t.outer = s.outer) : t.portsPart = s.portsPart := by
  unfold State.portsPart
  rw [State.links_of_outer e, State.hallPorts_of_outer e, State.stationPort_of_outer e]

theorem State.closed_sensed (s : State) (d r : Line) (closed : Bool) (sample : BitVec 8) :
    (s.sensed d r closed sample).closed d r = closed := by
  unfold State.closed State.sensed
  rw [State.contact_modContact, if_pos ⟨rfl, rfl⟩]

theorem State.closed_of_outer {s t : State} (e : t.outer = s.outer) (d r : Line) : t.closed d r = s.closed d r := by
  unfold State.closed State.contact
  rw [State.contacts_of_outer e]

/-- An event of the scanner whose consumer leaves what stands outside the tables. -/
theorem State.sensing_event {s v : State} {contacts : PerLine (PerLine Contact)} {scan : ScanPos} {f : State → State}
    (e : v = s.begun s.work s.write contacts scan) (outer : (f v).outer = v.outer) :
    State.Event (s.sensing (State.countChanges s (f v))) (f (s.sensing (State.countChanges s (f v))))
        (State.countChanges s (f v)) ∧
      (State.countChanges s (f v)).outer = (s.sensing (State.countChanges s (f v))).outer := by
  have again : s.sensing (State.countChanges s (f v)) = v := by
    have c : (State.countChanges s (f v)).contacts = v.contacts := State.contacts_of_outer outer
    have p : (State.countChanges s (f v)).scan = v.scan := State.scan_of_outer outer
    unfold State.sensing
    rw [c, p, e]
    rfl
  rw [again]
  exact ⟨State.event_of_halls (by rw [e]; rfl) _, outer⟩

/-- The dwell in which a low pressure contact alone changes, as one event on the state with the contact changed. -/
theorem State.exec_of_lowPressure {s : State} {b : BankId} {closed : Bool} {sample : BitVec 8}
    (e : s.sees .l6 (bankLine b) closed sample) :
    ∃ t, exec (.driveDwellEnd sample) s = .next t ∧
      State.Event (s.sensing t) ((s.sensing t).lowPressureMoved b closed) t ∧ t.outer = (s.sensing t).outer ∧
      t.lowPressure b = closed := by
  have event := State.exec_of_sees e
  have moved : (s.dwelt .l6 sample).contactMoved .l6 (bankLine b) closed =
      (s.sensed .l6 (bankLine b) closed sample).lowPressureMoved b closed := by
    unfold State.contactMoved
    rw [show assigned .l6 (bankLine b) = .lowPressure b by cases b <;> rfl]
    rfl
  rw [moved] at event
  have outer := State.outer_lowPressureMoved (s.sensed .l6 (bankLine b) closed sample) b closed
  obtain ⟨run, kept⟩ := State.sensing_event (f := fun x => x.lowPressureMoved b closed) (s.sensed_eq .l6 _ closed sample) outer
  exact ⟨_, event, run, kept, (State.closed_of_outer outer .l6 (bankLine b)).trans (s.closed_sensed .l6 _ closed sample)⟩

/-- The dwell in which the RESERVE key alone changes. -/
theorem State.exec_of_reserveKey {s : State} {closed : Bool} {sample : BitVec 8} (e : s.sees .l7 .l2 closed sample) :
    ∃ t, exec (.driveDwellEnd sample) s = .next t ∧
      State.Event (s.sensing t) (s.sensing t).selectionMoved t ∧ t.outer = (s.sensing t).outer ∧
      t.selection = if closed = true then .reserve else .main := by
  have event := State.exec_of_sees e
  have moved : (s.dwelt .l7 sample).contactMoved .l7 .l2 closed = (s.sensed .l7 .l2 closed sample).selectionMoved := rfl
  rw [moved] at event
  have outer := State.outer_withdraw (s.sensed .l7 .l2 closed sample)
    (BankId.all.filter fun b => ((s.sensed .l7 .l2 closed sample).bank b).isReserved &&
      !(((s.sensed .l7 .l2 closed sample).bankPlan b).role == (s.sensed .l7 .l2 closed sample).selection))
  obtain ⟨run, kept⟩ := State.sensing_event (f := State.selectionMoved) (s.sensed_eq .l7 .l2 closed sample) outer
  refine ⟨_, event, run, kept, ?_⟩
  unfold State.selection
  rw [show (State.countChanges s (s.sensed .l7 .l2 closed sample).selectionMoved).closed .l7 .l2 = closed from
    (State.closed_of_outer outer .l7 .l2).trans (s.closed_sensed .l7 .l2 closed sample)]

/-! ## One unfit bank -/

theorem only_of_single {s : State} {b : BankId} {h : HallId} (r : s.bank b = .reserved h) (g : HallId) :
    (∃ c, c ∈ [b] ∧ s.bank c = .reserved g) ↔ g = h := by
  constructor
  · rintro ⟨c, k, e⟩
    rw [List.mem_singleton.1 k, r] at e
    exact (BankState.reserved.inj e).symm
  · rintro rfl
    exact ⟨b, List.mem_singleton_self b, r⟩

theorem State.unfitOf_single {s : State} {b : BankId} {h : HallId} (r : s.bank b = .reserved h) :
    s.unfitOf h [b] = [b] := by
  unfold State.unfitOf
  rw [List.filter_cons_of_pos (by simp [r]), List.filter_nil]

theorem BankState.isReserved_iff (x : BankState) : x.isReserved = true ↔ ∃ h, x = .reserved h := by
  cases x <;> simp [BankState.isReserved]

/-- The record of a hall in COUNTDOWN or HELD that lost the banks `unfit` and took its replacement from the first `n` entries
of its preference list: SHORTFALL where the total is left short (R84). -/
def State.lostCounting (s : State) (h : HallId) (unfit : List BankId) (n : Nat) : Hall :=
  s.reallocated h (s.listAfter h unfit n) (s.hallState h)
    { (s.inc h).flags with
      shortfall :=
        (s.inc h).flags.shortfall || decide (entriesTotal (s.listAfter h unfit n) < s.recordedRequired h) }

/-- In COUNTDOWN and HELD a bank of low pressure is withdrawn, whatever else the state holds (R5, R82, R84). -/
theorem State.Event.lost_counting {s t : State} {b : BankId} {h : HallId} (e : State.Event s (s.withdraw [b]) t)
    (r : s.bank b = .reserved h) (st : s.hallState h = .countdown ∨ s.hallState h = .held) (out : ¬ h ∈ s.waitList) :
    ∃ u n k, State.Event s u.reexamine t ∧
      s.settledTo u h [b] (s.takenBy h [b] n) (.reserved h) ∧
      u =
        { s with
          banks := u.banks, mans := u.mans, selectors := u.selectors, selCircuits := u.selCircuits
          halls := s.halls.set h (s.lostCounting h [b] n) } ∧
      t.hall h = { s.lostCounting h [b] n with inc := { (s.lostCounting h [b] n).inc with change := k } } := by
  have notSel : ¬ s.hallState h = .selecting := by
    obtain k | k := st <;> rw [k] <;> simp
  rw [State.withdraw_single (only_of_single r)] at e
  have lost := State.lostTo_withdrawHall [b] fun k => absurd k notSel
  rw [State.unfitOf_single r] at lost
  obtain ⟨n, -, -, counting, -⟩ := lost
  obtain ⟨tables, whole⟩ := counting st
  generalize State.withdrawHall [b] s h = u at e tables whole
  have own : u.hall h = s.lostCounting h [b] n := (congrArg (fun x => State.hall x h) whole).trans (PerHall.get_set_same _ _ _)
  have waits : u.waitList = s.waitList := (congrArg State.waitList whole).trans rfl
  obtain ⟨k, hall⟩ := e.hall_but_change h
  have same := (State.hall_reexamine_other u (by rw [waits]; exact out)).trans own
  rw [show u.reexamine.inc h = (s.lostCounting h [b] n).inc from congrArg Hall.inc same, same] at hall
  exact ⟨u, n, k, e, tables, whole, hall⟩

/-! ## The one waiting hall, and no waiting hall -/

theorem State.Event.attemptedFrom_of_alone {s u t : State} {h : HallId} (e : State.Event s u.reexamine t)
    (alone : u.waitList = [h]) (st : u.hallState h = .waiting) : u.attemptedFrom t h :=
  (e.recounted h).attemptedFrom (State.attemptedFrom_reexamine alone st)

theorem State.Event.othersKept_of_reexamine {s u t : State} {h : HallId} (e : State.Event s u.reexamine t)
    (halls : u.halls = s.halls) (waits : u.waitList = s.waitList) : s.othersKept t h := by
  intro g _ away
  refine e.hall_of_same ((State.hall_reexamine_other u ?_).trans (congrArg (fun x => PerHall.get x g) halls))
  rw [waits]
  exact away

end Sys2Proof.Machine
end

section
/-! The conditions of the circuits that make banks unfit or usable (R10, R136 to R140). -/

namespace Sys2Proof.Machine

/-! ## The end of a measurement -/

theorem Circuit.applyReading_last (x : Circuit) (last : LastCount) (k : Reading) :
    ({ x with last := last } : Circuit).applyReading k = { x.applyReading k with last := last } := by
  unfold Circuit.applyReading
  by_cases untested : x.condition = .untested
  · simp only [if_pos untested]
  · simp only [if_neg untested]
    by_cases same : x.condition = k.condition
    · simp only [if_pos same]
    · simp only [if_neg same]
      cases x.run with
      | none => rfl
      | some r =>
        dsimp only
        by_cases kind : r.kind = k
        · simp only [if_pos kind]
          split <;> rfl
        · simp only [if_neg kind]

/-- The state in which a circuit has been read, nobody having acted on its condition yet. -/
def State.measured (s : State) (c : CircuitId) (read : Circuit) : State :=
  { s.modCircuit c fun _ => read with measuring := none }

theorem State.endMeasurement_eq {s : State} {x : Measurement} {old : Circuit} (o : s.circuit x.circuit = some old)
    (last : LastCount) (k : Reading) :
    s.endMeasurement x last k =
      (s.measured x.circuit { old.applyReading k with last := last }).conditionMoved x.circuit old.condition
        (old.applyReading k).condition := by
  unfold State.endMeasurement
  rw [o]
  dsimp only
  rw [Circuit.applyReading_last]
  have idle : ({ s with measuring := none } : State).modCircuit x.circuit
      (fun _ => { old.applyReading k with last := last }) =
        s.measured x.circuit { old.applyReading k with last := last } := by
    unfold State.measured
    cases x.circuit <;> rfl
  rw [idle]

/-- The three ends of a measurement, as one event each (R135, R136). -/
theorem State.exec_of_reading {s : State} {x : Measurement} {old : Circuit} {c : Instr} {n : Nat} {last : LastCount}
    {kind : Reading} (m : s.measuring = some x) (o : s.circuit x.circuit = some old)
    (ends : (c = .counterPasses4095 ∧ last = .over ∧ kind = .openCircuit) ∨
      (c = .comparatorTrip n ∧ n < x.shortLimit ∧ n ≤ x.openLimit ∧ last = .count n ∧ kind = .shortCircuit) ∨
      (c = .comparatorTrip n ∧ x.shortLimit ≤ n ∧ n ≤ x.openLimit ∧ last = .count n ∧ kind = .normal)) :
    exec c s =
      .next (State.countChanges s
        ((s.measured x.circuit { old.applyReading kind with last := last }).conditionMoved x.circuit old.condition
          (old.applyReading kind).condition)) := by
  rw [← State.endMeasurement_eq o last kind]
  have trip (reads : x.reading n = (last, kind)) : s.takeTrip n = s.endMeasurement x last kind := by
    unfold State.takeTrip
    rw [m]
    dsimp only
    rw [reads]
  obtain ⟨rfl, rfl, rfl⟩ | ⟨rfl, below, within, rfl, rfl⟩ | ⟨rfl, above, within, rfl, rfl⟩ := ends
  · have pass : s.takeCounterPass = s.endMeasurement x .over .openCircuit := by
      unfold State.takeCounterPass
      rw [m]
    exact congrArg Host.Outcome.next (State.asEvent_eq pass)
  · have reads : x.reading n = (.count n, .shortCircuit) := by
      unfold Measurement.reading
      rw [if_neg (Nat.not_lt.2 within), if_pos below]
    exact congrArg Host.Outcome.next (State.asEvent_eq (trip reads))
  · have reads : x.reading n = (.count n, .normal) := by
      unfold Measurement.reading
      rw [if_neg (Nat.not_lt.2 within), if_neg (Nat.not_lt.2 above)]
    exact congrArg Host.Outcome.next (State.asEvent_eq (trip reads))

/-! ## What a reading leaves alone -/

section
variable (s : State) (c : CircuitId) (read : Circuit)

theorem State.halls_measured : (s.measured c read).halls = s.halls := by
  unfold State.measured
  cases c <;> rfl

theorem State.waitList_measured : (s.measured c read).waitList = s.waitList := by
  unfold State.measured
  cases c <;> rfl

theorem State.bank_measured (b : BankId) : (s.measured c read).bank b = s.bank b := by
  unfold State.measured
  cases c <;> rfl

theorem State.tableLaw_measured (law : s.tableLaw) : (s.measured c read).tableLaw := by
  unfold State.measured
  cases c <;> exact law

end

/-! ## A condition that changes (R139, R140) -/

theorem State.conditionMoved_of_fault {s : State} {c : CircuitId} {old new : Condition}
    (usable : old = .untested ∨ old = .normal) (faulted : new = .openCircuit ∨ new = .shortCircuit) :
    s.conditionMoved c old new = if s.unfitBy c = [] then s else s.withdraw (s.unfitBy c) := by
  have fault : (old.usable && !new.usable) = true := by
    obtain rfl | rfl := usable <;> obtain rfl | rfl := faulted <;> rfl
  unfold State.conditionMoved
  rw [if_pos fault]
  cases s.unfitBy c with
  | nil => rfl
  | cons b rest => rfl

theorem State.conditionMoved_of_repair {s : State} {c : CircuitId} {old new : Condition}
    (faulted : old = .openCircuit ∨ old = .shortCircuit) (normal : new = .normal) :
    s.conditionMoved c old new = s.reexamine := by
  subst normal
  unfold State.conditionMoved
  obtain rfl | rfl := faulted <;> rfl

/-- The banks that a circuit's fault makes unfit are all of one hall (R139). -/
theorem State.Event.withdrawnFrom_unfit {s t : State} {unfit : List BankId} {h : HallId}
    (e : State.Event s (if unfit = [] then s else s.withdraw unfit) t) (law : s.tableLaw)
    (mine : ∀ b, b ∈ unfit → s.bank b = .reserved h) (some : ¬ unfit = []) :
    s.withdrawnFrom t h unfit ∧ s.withdrawnInto t unfit ∧ s.othersKept t h := by
  rw [if_neg some] at e
  obtain ⟨b, k⟩ := List.exists_mem_of_ne_nil unfit some
  have only (g : HallId) : (∃ b, b ∈ unfit ∧ s.bank b = .reserved g) ↔ g = h := by
    constructor
    · rintro ⟨c, k, r⟩
      rw [mine c k] at r
      exact (BankState.reserved.inj r).symm
    · rintro rfl
      exact ⟨b, k, mine b k⟩
  have whole : s.unfitOf h unfit = unfit := List.filter_eq_self.2 fun c k => beq_iff_eq.2 (mine c k)
  have event := e.withdrawnFrom_withdraw law only
  rw [whole] at event
  exact event

theorem State.unfitBy_selector (s : State) (m : ManId) (h : HallId) :
    (∀ b, b ∈ s.unfitBy (.selector m h) → s.bank b = .reserved h) ∧
    (s.unfitBy (.selector m h) = [] ↔ ∀ b, s.bank b = .reserved h → ¬ s.manifoldOf b = m) := by
  have mem (b : BankId) : b ∈ s.unfitBy (.selector m h) ↔ s.bank b = .reserved h ∧ s.manifoldOf b = m := by
    unfold State.unfitBy
    simp [List.mem_filter, bankId_mem_all]
  refine ⟨fun b k => ((mem b).1 k).1, ?_⟩
  rw [List.eq_nil_iff_forall_not_mem]
  exact ⟨fun none b r o => none b ((mem b).2 ⟨r, o⟩), fun none b k => none b ((mem b).1 k).1 ((mem b).1 k).2⟩

theorem State.unfitBy_bank_reserved {s : State} {b : BankId} {h : HallId} (r : s.bank b = .reserved h) :
    s.unfitBy (.bank b) = [b] :=
  if_pos ((BankState.isReserved_iff _).2 ⟨h, r⟩)

theorem State.unfitBy_bank_other {s : State} {b : BankId} (n : ∀ h, ¬ s.bank b = .reserved h) :
    s.unfitBy (.bank b) = [] :=
  if_neg fun k => ((BankState.isReserved_iff _).1 k).elim n

end Sys2Proof.Machine
end

section
/-! What makes banks unfit withdraws them; what makes one usable again is followed by a re-examination (O43). -/

namespace Sys2Proof.Machine

/-! ## Low pressure (R5, R10) -/

theorem State.lowPressureMoved_of_reserved {s : State} {b : BankId} {h : HallId} (r : s.bank b = .reserved h) :
    s.lowPressureMoved b true = s.withdraw [b] := by
  unfold State.lowPressureMoved
  rw [if_pos rfl, if_pos ((BankState.isReserved_iff _).2 ⟨h, r⟩)]

/-- Where the bank is not RESERVED or nobody waits, low pressure changes nothing else. -/
theorem State.lowPressureMoved_idle {s : State} {b : BankId} {closed : Bool}
    (idle : (closed = true ∧ ∀ h, ¬ s.bank b = .reserved h) ∨ (closed = false ∧ s.waitList = [])) :
    s.lowPressureMoved b closed = s := by
  unfold State.lowPressureMoved
  obtain ⟨rfl, n⟩ | ⟨rfl, nobody⟩ := idle
  · rw [if_pos rfl, if_neg fun k => ((BankState.isReserved_iff _).1 k).elim n]
  · rw [if_neg Bool.false_ne_true, State.reexamine_of_empty s nobody]

/-- The list after the withdrawal of one bank: entries of the list before, but not of that bank, and banks taken. -/
theorem State.mem_listAfter_single {s : State} {h : HallId} {b c : BankId} {n : Nat}
    (x : c ∈ (s.listAfter h [b] n).map AllocEntry.bank) :
    (c ∈ (s.inc h).allocBanks ∧ ¬ c = b) ∨ c ∈ s.takenBy h [b] n := by
  unfold State.listAfter at x
  rw [List.map_append, State.entriesFor_banks, List.mem_append] at x
  refine x.imp_left fun y => ?_
  obtain ⟨entry, z, rfl⟩ := List.mem_map.1 y
  obtain ⟨z, stays⟩ := List.mem_filter.1 z
  refine ⟨List.mem_map_of_mem z, fun same => ?_⟩
  rw [same] at stays
  simp at stays

theorem State.not_mem_takenBy_single (s : State) (h : HallId) (b : BankId) (n : Nat) : ¬ b ∈ s.takenBy h [b] n :=
  fun x => ((s.mayReplace_iff h [b] b).1 (List.mem_filter.1 x).2).2.2.1 (List.mem_singleton_self b)

/-- Low pressure of a RESERVED bank in COUNTDOWN and HELD, from any state (R82, R84). -/
theorem State.Event.counting_withdraw {s t : State} {b : BankId} {h : HallId}
    (e : State.Event s (s.withdraw [b]) t) (low : s.lowPressure b = true) (r : s.bank b = .reserved h)
    (st : s.hallState h = .countdown ∨ s.hallState h = .held) (out : ¬ h ∈ s.waitList) :
    t.bank b = .ready ∧ ¬ b ∈ (t.inc h).allocBanks ∧
      t.hallState h = s.hallState h ∧ (t.inc h).countdown = (s.inc h).countdown ∧
      (t.inc h).holdUsed = (s.inc h).holdUsed ∧ (t.hall h).stay = (s.hall h).stay ∧ s.sameIncident t h ∧
      (t.inc h).required = (s.inc h).required ∧
      ((t.inc h).flags.shortfall = true ↔
        (s.inc h).flags.shortfall = true ∨ (t.inc h).total < s.recordedRequired h) ∧
      (∀ c, c ∈ (t.inc h).allocBanks → c ∈ (s.inc h).allocBanks ∨ (t.bank c = .reserved h ∧ c ∈ s.preference h)) ∧
      s.othersKept t h ∧ t.storePart = s.storePart ∧ t.queue = s.queue ∧ t.slots = s.slots := by
  obtain ⟨u, n, k, final, tables, whole, hall⟩ := e.lost_counting r st out
  rw [State.withdraw_single (only_of_single r)] at e
  have others := State.othersKept_withdrawHall e
  have inc := congrArg Hall.inc hall
  have list : (t.inc h).allocBanks = (s.listAfter h [b] n).map AllocEntry.bank :=
    (congrArg Incident.allocBanks inc).trans rfl
  have total : (t.inc h).total = entriesTotal (s.listAfter h [b] n) := (congrArg Incident.total inc).trans rfl
  have flag : (t.inc h).flags.shortfall =
      ((s.inc h).flags.shortfall || decide (entriesTotal (s.listAfter h [b] n) < s.recordedRequired h)) :=
    (congrArg (fun i : Incident => i.flags.shortfall) inc).trans rfl
  have away := s.not_mem_takenBy_single h b n
  have kept_low : u.lowPressure b = true := (congrArg (fun x => State.lowPressure x b) whole).trans low
  obtain ⟨queue, slots, -, -, store⟩ := final.driver_of_reexamine
  refine ⟨?_, fun x => ?_, (congrArg Incident.state inc).trans rfl, (congrArg Incident.countdown inc).trans rfl,
    (congrArg Incident.holdUsed inc).trans rfl, (congrArg Hall.stay hall).trans rfl,
    ⟨(congrArg Incident.number inc).trans rfl, (congrArg Incident.cause inc).trans rfl,
      (congrArg Incident.confNumber inc).trans rfl, (congrArg Incident.latched inc).trans rfl,
      (congrArg Hall.clock hall).trans rfl⟩,
    (congrArg Incident.required inc).trans rfl, ?_, fun c x => ?_, others,
    store.trans ((congrArg State.storePart whole).trans rfl), queue.trans ((congrArg State.queue whole).trans rfl),
    slots.trans ((congrArg State.slots whole).trans rfl)⟩
  · rw [final.bank, State.bank_reexamine_of_lowPressure kept_low, tables.1 b,
      if_neg fun c => c.elim away fun y => y.2 (List.mem_singleton_self b)]
    exact if_pos r
  · rw [list] at x
    obtain ⟨-, n⟩ | taken := State.mem_listAfter_single x
    · exact n rfl
    · exact away taken
  · rw [flag, total, Bool.or_eq_true, decide_eq_true_iff]
  · rw [list] at x
    refine (State.mem_listAfter_single x).imp (fun y => y.1) fun taken => ⟨?_, ?_⟩
    · have reserved : u.bank c = .reserved h := (tables.1 c).trans (if_pos (Or.inl taken))
      rw [final.bank, State.bank_reexamine_of_not_ready (by rw [reserved]; simp), reserved]
    · exact List.mem_of_mem_take (List.mem_filter.1 taken).1

end Sys2Proof.Machine
end

section
/-! The RESERVE key, and the obligation of all that withdraws a bank (O43). -/

namespace Sys2Proof.Machine

/-- An event without an effect. -/
theorem State.Event.parts_of_same {s t : State} (e : State.Event s s t) :
    t.inventoryPart = s.inventoryPart ∧ t.hallsPart = s.hallsPart ∧ t.driverPart = s.driverPart ∧
      t.linesPart = s.linesPart ∧ t.storePart = s.storePart := by
  have halls : t.halls = s.halls := e.halls.trans (congrArg State.halls (State.countChanges_of_halls rfl))
  have whole := e.rest
  rw [halls] at whole
  rw [whole]
  exact ⟨rfl, rfl, rfl, rfl, rfl⟩

theorem State.kept_of_sensing {s t : State} (outer : t.outer = (s.sensing t).outer) :
    t.work = s.work ∧ t.portsPart = s.portsPart ∧ t.initiators = s.initiators := by
  have work := State.work_of_outer outer
  have ports := State.portsPart_of_outer outer
  have initiators := State.initiators_of_outer outer
  exact ⟨work, ports, initiators⟩

theorem State.othersKept_of_halls {s u t : State} {h : HallId} (halls : u.halls = s.halls)
    (waits : u.waitList = s.waitList) (others : u.othersKept t h) : s.othersKept t h := fun g n away =>
  (others g n (by rw [waits]; exact away)).trans (State.hall_of_halls halls g)

/-! ## The RESERVE key (R11) -/

/-- The RESERVED banks whose role the selection does not match. -/
def State.offRole (s : State) : List BankId :=
  BankId.all.filter fun b => (s.bank b).isReserved && !((s.bankPlan b).role == s.selection)

theorem State.selectionMoved_eq (s : State) : s.selectionMoved = s.withdraw s.offRole := rfl

theorem State.mem_offRole (s : State) (b : BankId) :
    b ∈ s.offRole ↔ (∃ h, s.bank b = .reserved h) ∧ ¬ (s.bankPlan b).role = s.selection := by
  unfold State.offRole
  simp [List.mem_filter, bankId_mem_all, BankState.isReserved_iff]

theorem State.offRole_nil {s : State} (fits : ∀ b g, s.bank b = .reserved g → (s.bankPlan b).role = s.selection) :
    s.offRole = [] := by
  refine List.eq_nil_iff_forall_not_mem.2 fun b k => ?_
  obtain ⟨⟨g, r⟩, n⟩ := (s.mem_offRole b).1 k
  exact n (fits b g r)

theorem State.withdraw_nil (s : State) : s.withdraw [] = s.reexamine := by
  have none : s.hallsOf [] = [] := List.eq_nil_iff_forall_not_mem.2 fun h k => by
    obtain ⟨b, k, -⟩ := (s.mem_hallsOf_iff [] h).1 k
    exact List.not_mem_nil k
  unfold State.withdraw
  rw [none]
  rfl

theorem State.unfitOf_offRole (s : State) (h : HallId) :
    s.unfitOf h s.offRole =
      BankId.all.filter fun b => s.bank b == BankState.reserved h && !((s.bankPlan b).role == s.selection) := by
  unfold State.unfitOf State.offRole
  rw [List.filter_filter]
  refine List.filter_congr fun b _ => ?_
  by_cases r : s.bank b = .reserved h
  · rw [r]
    simp [BankState.isReserved]
  · simp [beq_eq_false_iff_ne.2 r]

/-- A hall that does not wait: its record stays where its banks fit the selection; its countdown runs on where they do not
(R11, R84). -/
theorem State.Event.hall_of_selection {s t : State} (e : State.Event s (s.withdraw s.offRole) t) {g : HallId}
    (out : ¬ g ∈ s.waitList) :
    ((∀ b, s.bank b = .reserved g → (s.bankPlan b).role = s.selection) → t.hall g = s.hall g) ∧
    (s.hallState g = .countdown ∨ s.hallState g = .held →
      t.hallState g = s.hallState g ∧ (t.inc g).countdown = (s.inc g).countdown ∧
      (t.inc g).holdUsed = (s.inc g).holdUsed) := by
  refine ⟨fun fits => ?_, fun st => ?_⟩
  · have n : ¬ g ∈ s.hallsOf s.offRole := fun k => by
      obtain ⟨b, u, r⟩ := (s.mem_hallsOf_iff s.offRole g).1 k
      exact ((s.mem_offRole b).1 u).2 (fits b r)
    have passed := State.passesBy_withdrawHalls s.offRole _ s n
    exact e.hall_of_same ((State.hall_reexamine_other _ fun k => out (passed.waits.1 k)).trans passed.hall)
  · obtain ⟨state, countdown, used, away⟩ := State.countsOn_withdrawHalls s.offRole (s.hallsOf s.offRole) st out
    have same : (s.withdraw s.offRole).hall g = _ := State.hall_reexamine_other _ away
    have inc := State.inc_of_hall same
    obtain ⟨k, hall⟩ := e.hall_but_change g
    rw [inc, same] at hall
    have own := congrArg Hall.inc hall
    exact ⟨(congrArg Incident.state own).trans state, (congrArg Incident.countdown own).trans countdown,
      (congrArg Incident.holdUsed own).trans used⟩

/-- Where one hall alone has banks of another role, they are withdrawn from it (R11, R82). -/
theorem State.Event.withdrawnFrom_selection {s t : State} (e : State.Event s (s.withdraw s.offRole) t)
    (law : s.tableLaw) {h : HallId} (some : ∃ b, s.bank b = .reserved h ∧ ¬ (s.bankPlan b).role = s.selection)
    (alone : ∀ b g, s.bank b = .reserved g → ¬ (s.bankPlan b).role = s.selection → g = h) :
    s.withdrawnFrom t h
      (BankId.all.filter fun b => s.bank b == BankState.reserved h && !((s.bankPlan b).role == s.selection)) := by
  have only (g : HallId) : (∃ b, b ∈ s.offRole ∧ s.bank b = .reserved g) ↔ g = h := by
    constructor
    · rintro ⟨b, k, r⟩
      exact alone b g r ((s.mem_offRole b).1 k).2
    · rintro rfl
      obtain ⟨b, r, n⟩ := some
      exact ⟨b, (s.mem_offRole b).2 ⟨⟨_, r⟩, n⟩, r⟩
  rw [← s.unfitOf_offRole h]
  exact (e.withdrawnFrom_withdraw law only).1

/-! ## The conditions of the circuits (R139, R140) -/

section
variable {s u t : State} {read : Circuit}

/-- A fault of a bank's circuit withdraws the bank from the hall it is RESERVED to, and else acts on nobody. -/
theorem State.faulted_bank {b : BankId} (state : u = s.measured (.bank b) read)
    (moved : t = State.countChanges s (if u.unfitBy (.bank b) = [] then u else u.withdraw (u.unfitBy (.bank b)))) :
    ((∀ h, ¬ s.bank b = .reserved h) → t = u) ∧
    ∀ h, s.bank b = .reserved h → s.tableLaw →
      u.withdrawnFrom t h [b] ∧ u.withdrawnInto t [b] ∧ s.othersKept t h := by
  subst state moved
  have halls := s.halls_measured (.bank b) read
  have bank := s.bank_measured (.bank b) read b
  refine ⟨fun n => ?_, fun h r law => ?_⟩
  · have nil : (s.measured (.bank b) read).unfitBy (.bank b) = [] :=
      State.unfitBy_bank_other fun h => by rw [bank]; exact n h
    rw [if_pos nil, State.countChanges_of_halls halls]
  · have reserved : (s.measured (.bank b) read).bank b = .reserved h := bank.trans r
    rw [State.unfitBy_bank_reserved reserved]
    obtain ⟨lost, into, others⟩ := (State.event_of_halls halls _).withdrawnFrom_unfit (unfit := [b])
      (s.tableLaw_measured (.bank b) read law) (fun c k => by rw [List.mem_singleton.1 k]; exact reserved) (by simp)
    exact ⟨lost, into, State.othersKept_of_halls halls (s.waitList_measured (.bank b) read) others⟩

/-- A fault of a selector's circuit withdraws the banks that its hall has on its manifold. -/
theorem State.faulted_selector {m : ManId} {h : HallId} (state : u = s.measured (.selector m h) read)
    (moved : t =
      State.countChanges s (if u.unfitBy (.selector m h) = [] then u else u.withdraw (u.unfitBy (.selector m h)))) :
    ((∀ b, s.bank b = .reserved h → ¬ s.manifoldOf b = m) → t = u) ∧
    ((∃ b, s.bank b = .reserved h ∧ s.manifoldOf b = m) → s.tableLaw →
      u.withdrawnFrom t h (BankId.all.filter fun b => s.bank b == BankState.reserved h && s.manifoldOf b == m) ∧
      u.withdrawnInto t (BankId.all.filter fun b => s.bank b == BankState.reserved h && s.manifoldOf b == m) ∧
      s.othersKept t h) := by
  subst state moved
  have halls := s.halls_measured (.selector m h) read
  have same : (s.measured (.selector m h) read).unfitBy (.selector m h) = s.unfitBy (.selector m h) := rfl
  obtain ⟨mine, empty⟩ := s.unfitBy_selector m h
  rw [same]
  refine ⟨fun none => ?_, fun some law => ?_⟩
  · rw [if_pos (empty.2 none), State.countChanges_of_halls halls]
  · have any : ¬ s.unfitBy (.selector m h) = [] := fun nil => by
      obtain ⟨b, r, o⟩ := some
      exact empty.1 nil b r o
    obtain ⟨lost, into, others⟩ := (State.event_of_halls halls _).withdrawnFrom_unfit
      (s.tableLaw_measured (.selector m h) read law)
      (fun b k => (s.bank_measured (.selector m h) read b).trans (mine b k)) any
    exact ⟨lost, into, State.othersKept_of_halls halls (s.waitList_measured (.selector m h) read) others⟩

/-- A circuit NORMAL after a fault is followed by a re-examination. -/
theorem State.repaired {c : CircuitId} (state : u = s.measured c read) :
    s.thenReexamined u (State.countChanges s u.reexamine) ∧
    (s.waitList = [] → State.countChanges s u.reexamine = u) ∧
    ∀ h, s.waitList = [h] → s.hallState h = .waiting →
      u.attemptedFrom (State.countChanges s u.reexamine) h ∧ s.othersKept (State.countChanges s u.reexamine) h := by
  subst state
  have halls := s.halls_measured c read
  have waits := s.waitList_measured c read
  have run := State.event_countChanges s (s.measured c read).reexamine
  refine ⟨run.thenReexamined fun g => ?_, fun nobody => ?_, fun h alone st => ⟨?_, ?_⟩⟩
  · exact congrArg (fun x : Hall => x.inc.change) (State.hall_of_halls halls g)
  · exact State.countChanges_reexamine_of_empty halls (waits.trans nobody)
  · exact (State.event_of_halls halls _).attemptedFrom_of_alone (waits.trans alone)
      ((State.hallState_of_hall (State.hall_of_halls halls h)).trans st)
  · exact run.othersKept_of_reexamine halls waits

end

end Sys2Proof.Machine

open Sys2Proof Sys2Proof.Machine in
/-- Settles O43: each contact and each reading is one event, and `State.lostTo_withdrawHall` tells what one hall's withdrawal
leaves of it; the halls of one event follow each other by `State.allLostTo_foldl`. -/
theorem lowPressureWithdrawsBank : Obligations.LowPressureWithdrawsBank := by
  refine ⟨fun b h sample s sees r st out => ?_, fun b closed sample s sees idle => ?_,
    fun b h sample s law sees r => ?_, fun b sample s sees => ?_, fun b h sample s sees alone st => ?_,
    fun closed sample s sees => ?_, fun c n last kind x old s u m o ends eu => ?_⟩
  · obtain ⟨t, event, run, outer, low⟩ := State.exec_of_lowPressure sees
    rw [State.lowPressureMoved_of_reserved (s := s.sensing t) r] at run
    have counter := run.confCounter.trans (State.confCounter_withdraw (s.sensing t) [b])
    obtain ⟨work, ports, initiators⟩ := State.kept_of_sensing outer
    obtain ⟨ready, off, state, countdown, used, stay, incident, required, short, list, others, store, queue, slots⟩ :=
      run.counting_withdraw low r st out
    exact ⟨t, event, low, ready, off, state, countdown, used, stay, incident, required, short, list, others, counter,
      work, store, ports, queue, slots, initiators⟩
  · obtain ⟨t, event, run, outer, low⟩ := State.exec_of_lowPressure sees
    rw [State.lowPressureMoved_idle (s := s.sensing t) idle] at run
    obtain ⟨inventory, halls, driver, lines, store⟩ := run.parts_of_same
    obtain ⟨work, ports, -⟩ := State.kept_of_sensing outer
    exact ⟨t, event, low, inventory, halls, driver, lines, work, store, ports⟩
  · obtain ⟨t, event, run, -, -⟩ := State.exec_of_lowPressure sees
    rw [State.lowPressureMoved_of_reserved (s := s.sensing t) r] at run
    have told := run.withdrawnFrom_withdraw law (only_of_single (s := s.sensing t) r)
    rw [State.unfitOf_single (s := s.sensing t) r] at told
    exact ⟨t, event, told⟩
  · obtain ⟨t, event, run, -, -⟩ := State.exec_of_lowPressure sees
    exact ⟨t, event, State.Event.thenReexamined (u := s.sensing t) run fun _ => rfl⟩
  · obtain ⟨t, event, run, -, -⟩ := State.exec_of_lowPressure sees
    have attempted := State.Event.attemptedFrom_of_alone (u := s.sensing t) run alone st
    have others := State.Event.othersKept_of_reexamine (u := s.sensing t) (h := h) run rfl rfl
    exact ⟨t, event, attempted, others⟩
  · obtain ⟨t, event, run, outer, turned⟩ := State.exec_of_reserveKey sees
    rw [State.selectionMoved_eq] at run
    have counter := run.confCounter.trans (State.confCounter_withdraw (s.sensing t) _)
    have sel : t.selection = (s.sensing t).selection := State.selection_of_outer outer
    obtain ⟨work, ports, initiators⟩ := State.kept_of_sensing outer
    refine ⟨t, event, turned, ?_⟩
    rw [sel]
    refine ⟨fun b h r => ?_, work, ports, counter, initiators, fun g out => run.hall_of_selection out,
      fun fits => ⟨fun nobody => ?_, fun h alone st => ?_⟩, fun law => run.withdrawnInto law,
      fun h law some alone => run.withdrawnFrom_selection law some alone⟩
    · rw [run.bank] at r
      refine State.role_withdraw (s := s.sensing t) (fun b g k => or_iff_not_imp_left.2 fun n => ?_) r
      exact ((s.sensing t).mem_offRole b).2 ⟨⟨g, k⟩, n⟩
    · rw [State.offRole_nil (s := s.sensing t) fits, State.withdraw_nil,
        State.reexamine_of_empty (s.sensing t) nobody] at run
      obtain ⟨inventory, halls, -⟩ := run.parts_of_same
      exact ⟨inventory, halls⟩
    · rw [State.offRole_nil (s := s.sensing t) fits, State.withdraw_nil] at run
      exact State.Event.attemptedFrom_of_alone (u := s.sensing t) run alone st
  · have event := State.exec_of_reading m o ends
    have state : u = s.measured x.circuit { old.applyReading kind with last := last } := eu
    rw [← state] at event
    refine ⟨_, event, fun usable faulted => ?_, fun faulted normal => ?_⟩
    · have moved := State.conditionMoved_of_fault (s := u) (c := x.circuit) usable faulted
      refine ⟨fun b e => ?_, fun k h e => ?_⟩
      all_goals rw [e] at moved state ⊢
      · exact State.faulted_bank state (congrArg (State.countChanges s) moved)
      · exact State.faulted_selector state (congrArg (State.countChanges s) moved)
    · rw [State.conditionMoved_of_repair faulted normal]
      exact State.repaired state
end

section
/-! The valid plan records (R28, R176) and the laws of the calculator (R30 to R34). -/

namespace Sys2Proof.Machine

/-! ## The valid records (R28, R176) -/

theorem within_iff (lo n hi : Nat) : within lo n hi = true ↔ lo ≤ n ∧ n ≤ hi := decide_eq_true_iff

theorem limitsValid_iff (o t : Nat) :
    limitsValid o t = true ↔ (16 ≤ o ∧ o ≤ 4095) ∧ 1 ≤ t ∧ t < o := by
  rw [limitsValid, decide_eq_true_iff]
  omega

theorem distinctBanks_iff (l : List BankId) : distinctBanks l = true ↔ l.Nodup := by
  induction l with
  | nil => simp [distinctBanks]
  | cons b rest ih => simp [distinctBanks, ih]

theorem specificVolumeInt_eq_fdiv (k1 k2 : Nat) (t : Int) :
    specificVolumeInt k1 k2 t = (k1 : Int) + Int.fdiv ((k2 : Int) * t) 100 := by
  rw [specificVolumeInt, Int.fdiv_eq_ediv_of_nonneg _ (by decide)]

theorem SitePlan.valid_iff (r : SitePlan) :
    r.valid = true ↔
      (1000 ≤ r.k1 ∧ r.k1 ≤ 9999) ∧ r.k2 ≤ 9999 ∧ 900 ≤ specificVolumeInt r.k1 r.k2 (-10) ∧
      5 ≤ r.silence ∧ r.silence ≤ 50 := by
  simp only [SitePlan.valid, Bool.and_eq_true, within_iff, decide_eq_true_iff]
  omega

theorem ManPlan.valid_iff (r : ManPlan) :
    r.valid = true ↔
      (16 ≤ r.openLimit ∧ r.openLimit ≤ 4095) ∧ (1 ≤ r.shortLimit ∧ r.shortLimit < r.openLimit) ∧
      (1 ≤ r.selectorTimeout ∧ r.selectorTimeout ≤ 30) ∧ (1 ≤ r.flowTimeout ∧ r.flowTimeout ≤ 60) ∧
      5 ≤ r.ventTime ∧ r.ventTime ≤ 300 := by
  simp only [ManPlan.valid, Bool.and_eq_true, within_iff, limitsValid_iff, and_assoc]

theorem BankPlan.valid_iff (r : BankPlan) :
    r.valid = true ↔
      (1 ≤ r.cylinders ∧ r.cylinders ≤ 16) ∧ (100 ≤ r.fill ∧ r.fill ≤ 2000) ∧
      (16 ≤ r.openLimit ∧ r.openLimit ≤ 4095) ∧ 1 ≤ r.shortLimit ∧ r.shortLimit < r.openLimit := by
  simp only [BankPlan.valid, Bool.and_eq_true, within_iff, limitsValid_iff, and_assoc]

theorem HallPlan.valid_iff (r : HallPlan) :
    r.valid = true ↔
      (100 ≤ r.volume ∧ r.volume ≤ 65535) ∧ (40 ≤ r.design ∧ r.design ≤ 150) ∧
      (r.design ≤ r.maximum ∧ r.maximum ≤ 300) ∧
      (-10 ≤ r.designLow ∧ r.designLow ≤ r.designHigh ∧ r.designHigh ≤ 50) ∧
      r.autoDelay ≤ 120 ∧ r.manualDelay ≤ 60 ∧ r.holdLimit ≤ 600 ∧ r.restartFloor ≤ 30 ∧
      (10 ≤ r.waitLimit ∧ r.waitLimit ≤ 600) ∧ (10 ≤ r.discharge ∧ r.discharge ≤ 120) ∧
      (1 ≤ r.preference.length ∧ r.preference.length ≤ 8) ∧ r.preference.Nodup := by
  simp only [HallPlan.valid, Bool.and_eq_true, within_iff, decide_eq_true_iff, distinctBanks_iff, Nat.zero_le, true_and,
    and_assoc]

/-! ## The rounding (R32) -/

theorem ceilDiv_le_of_le_mul {n d w : Nat} (h : 0 < d) (e : n ≤ w * d) : ceilDiv n d ≤ w := by
  have below : ceilDiv n d * d < (w + 1) * d := by
    have := (ceilDiv_bounds n h).2
    rw [Nat.add_mul, Nat.one_mul]
    omega
  exact Nat.le_of_lt_succ (Nat.lt_of_mul_lt_mul_right below)

/-! ## The specific volume (R31) -/

theorem specificVolumeInt_mono (k1 k2 : Nat) {t u : Int} (h : t ≤ u) :
    specificVolumeInt k1 k2 t ≤ specificVolumeInt k1 k2 u :=
  Int.add_le_add_left (Int.ediv_le_ediv (by decide) (Int.mul_le_mul_of_nonneg_left h (Int.natCast_nonneg k2))) _

/-- Under a valid site record the specific volume of a temperature from -10 to +50 is never cut off at 0. -/
theorem SitePlan.specificVolume_bounds {r : SitePlan} (v : r.valid = true) {t : Int} (low : -10 ≤ t) (high : t ≤ 50) :
    (specificVolume r.k1 r.k2 t : Int) = specificVolumeInt r.k1 r.k2 t ∧
    900 ≤ specificVolumeInt r.k1 r.k2 t ∧ specificVolumeInt r.k1 r.k2 t ≤ 14998 := by
  obtain ⟨⟨-, k1⟩, k2, floor, -⟩ := r.valid_iff.1 v
  have least := Int.le_trans floor (specificVolumeInt_mono r.k1 r.k2 low)
  have most := specificVolumeInt_mono r.k1 r.k2 high
  have top : specificVolumeInt r.k1 r.k2 50 ≤ 14998 := by
    unfold specificVolumeInt
    omega
  exact ⟨Int.toNat_of_nonneg (by omega), least, Int.le_trans most top⟩

/-! ## The temperatures (R30) -/

theorem clampTemp_eq (t : Int) : clampTemp t = if t < -10 then -10 else if 50 < t then 50 else t := by
  unfold clampTemp
  omega

theorem State.usableLow_none {s : State} {h : HallId} (n : ¬ (s.link h).state = .running ∨ (s.link h).low = none) :
    s.usableLow h = none := by
  unfold State.usableLow
  obtain n | n := n
  · rw [if_neg n]
  · rw [n, ite_self]

theorem State.usableHigh_none {s : State} {h : HallId} (n : ¬ (s.link h).state = .running ∨ (s.link h).high = none) :
    s.usableHigh h = none := by
  unfold State.usableHigh
  obtain n | n := n
  · rw [if_neg n]
  · rw [n, ite_self]

theorem State.chooseLow_of_reported {s : State} {h : HallId} {x : Int} (r : (s.link h).state = .running)
    (e : (s.link h).low = some x) : s.chooseLow h = clampTemp (min x (s.hallPlan h).designLow) := by
  rw [State.chooseLow, State.usableLow, if_pos r, e]

theorem State.chooseHigh_of_reported {s : State} {h : HallId} {x : Int} (r : (s.link h).state = .running)
    (e : (s.link h).high = some x) : s.chooseHigh h = clampTemp (max x (s.hallPlan h).designHigh) := by
  rw [State.chooseHigh, State.usableHigh, if_pos r, e]

theorem State.chooseLow_of_none {s : State} {h : HallId} (n : s.usableLow h = none) :
    s.chooseLow h = (s.hallPlan h).designLow := by
  rw [State.chooseLow, n]

theorem State.chooseHigh_of_none {s : State} {h : HallId} (n : s.usableHigh h = none) :
    s.chooseHigh h = (s.hallPlan h).designHigh := by
  rw [State.chooseHigh, n]

/-- T_low never lies above the design low, T_high never below the design high, as long as those lie in the range. -/
theorem State.chosen_bounds {s : State} {h : HallId} (v : (s.hallPlan h).valid = true) :
    -10 ≤ s.chooseLow h ∧ s.chooseLow h ≤ s.chooseHigh h ∧ s.chooseHigh h ≤ 50 := by
  obtain ⟨-, -, -, ⟨least, order, most⟩, -⟩ := (s.hallPlan h).valid_iff.1 v
  have low : -10 ≤ s.chooseLow h ∧ s.chooseLow h ≤ (s.hallPlan h).designLow := by
    unfold State.chooseLow clampTemp
    cases s.usableLow h <;> dsimp only <;> omega
  have high : (s.hallPlan h).designHigh ≤ s.chooseHigh h ∧ s.chooseHigh h ≤ 50 := by
    unfold State.chooseHigh clampTemp
    cases s.usableHigh h <;> dsimp only <;> omega
  omega

/-! ## The required quantity (R32) -/

theorem requiredQuantity_bounds {volume design sv : Nat} (s0 : 0 < sv) (d : design < 1000) :
    volume * 100000 * design ≤ requiredQuantity volume design sv * (sv * (1000 - design)) ∧
    ∀ w, volume * 100000 * design ≤ w * (sv * (1000 - design)) → requiredQuantity volume design sv ≤ w := by
  have pos : 0 < sv * (1000 - design) := Nat.mul_pos s0 (Nat.sub_pos_of_lt d)
  exact ⟨(ceilDiv_bounds _ pos).1, fun w e => ceilDiv_le_of_le_mul pos e⟩

/-- The required quantity in the ranges of valid records: 28 kg of the smallest hall at the largest specific volume, and
1285000 kg of the largest hall at the smallest. -/
theorem requiredQuantity_range {volume design sv : Nat} (v : 100 ≤ volume ∧ volume ≤ 65535)
    (d : 40 ≤ design ∧ design ≤ 150) (k : 900 ≤ sv ∧ sv ≤ 14998) :
    28 ≤ requiredQuantity volume design sv ∧ requiredQuantity volume design sv ≤ 1285000 := by
  obtain ⟨enough, least⟩ :=
    requiredQuantity_bounds (volume := volume) (show 0 < sv by omega) (show design < 1000 by omega)
  constructor
  · by_contra small
    have most : requiredQuantity volume design sv * (sv * (1000 - design)) ≤ 27 * (14998 * 960) :=
      Nat.mul_le_mul (by omega) (Nat.mul_le_mul k.2 (by omega))
    have need : 100 * 100000 * 40 ≤ volume * 100000 * design :=
      Nat.mul_le_mul (Nat.mul_le_mul_right _ v.1) d.1
    omega
  · refine least _ ?_
    have need : volume * 100000 * design ≤ 65535 * 100000 * 150 :=
      Nat.mul_le_mul (Nat.mul_le_mul_right _ v.2) d.2
    have divisor : 900 * 850 ≤ sv * (1000 - design) := Nat.mul_le_mul k.1 (by omega)
    omega

/-! ## The estimate (R34) -/

theorem estimatedConcentration_bounds {volume : Nat} (allocated sv : Nat) (v : 0 < volume) :
    estimatedConcentration volume allocated sv ≤ 999 ∧
    (estimatedConcentration volume allocated sv < 999 →
      1000 * (allocated * sv) ≤
        estimatedConcentration volume allocated sv * (volume * 100000 + allocated * sv)) ∧
    ∀ c, 1000 * (allocated * sv) ≤ c * (volume * 100000 + allocated * sv) →
      estimatedConcentration volume allocated sv ≤ c := by
  have pos : 0 < volume * 100000 + allocated * sv := by omega
  refine ⟨Nat.min_le_left _ _, fun uncapped => ?_, fun c e =>
    Nat.le_trans (Nat.min_le_right _ _) (ceilDiv_le_of_le_mul pos e)⟩
  have uncut : estimatedConcentration volume allocated sv =
      ceilDiv (1000 * (allocated * sv)) (volume * 100000 + allocated * sv) := by
    unfold estimatedConcentration at uncapped ⊢
    omega
  rw [uncut]
  exact (ceilDiv_bounds _ pos).1

end Sys2Proof.Machine

open Sys2Proof Sys2Proof.Machine in
/-- Settles O51: each law from the rounding (`ceilDiv_bounds`) and the ranges of the valid records. -/
theorem calculatorLaws : Obligations.CalculatorLaws := by
  refine ⟨fun volume design sv pos d => requiredQuantity_bounds pos d,
    fun volume allocated sv v => estimatedConcentration_bounds allocated sv v,
    fun k1 k2 t u le => Int.toNat_le_toNat (specificVolumeInt_mono k1 k2 le), fun h s site plan => ?_⟩
  obtain ⟨low, order, high⟩ := State.chosen_bounds plan
  obtain ⟨volume, design, -⟩ := (s.hallPlan h).valid_iff.1 plan
  have range (t : Int) (above : -10 ≤ t) (below : t ≤ 50) :
      900 ≤ s.volumeAt t ∧ s.volumeAt t ≤ 14998 ∧
      100 * ((s.volumeAt t : Int) - s.work.site.k1) ≤ s.work.site.k2 * t ∧
      s.work.site.k2 * t < 100 * ((s.volumeAt t : Int) - s.work.site.k1) + 100 := by
    obtain ⟨whole, least, most⟩ := SitePlan.specificVolume_bounds site above below
    have floor : (s.volumeAt t : Int) = s.work.site.k1 + (s.work.site.k2 * t) / 100 := whole
    rw [← show (s.volumeAt t : Int) = specificVolumeInt s.work.site.k1 s.work.site.k2 t from whole] at least most
    omega
  obtain ⟨least, most, -⟩ := range (s.chooseLow h) low (Int.le_trans order high)
  refine ⟨low, order, high, fun x r e => ?_, fun n => State.chooseLow_of_none (State.usableLow_none n), fun x r e => ?_,
    fun n => State.chooseHigh_of_none (State.usableHigh_none n), range, rfl,
    requiredQuantity_range volume design ⟨least, most⟩⟩
  · rw [State.chooseLow_of_reported r e, clampTemp_eq]
  · rw [State.chooseHigh_of_reported r e, clampTemp_eq]
end

section
/-! The plan records and their payload bytes (R172, R174, R176). -/

namespace Sys2Proof.Machine

/-! ## Numbers, names and codes as bytes (R172) -/

theorem byteOf_toNat (b : Byte) : byteOf b.toNat = b := by simp [byteOf]

theorem toNat_byteOf_of_lt {n : Nat} (h : n < 256) : (byteOf n).toNat = n :=
  (toNat_byteOf n).trans (Nat.mod_eq_of_lt h)

theorem nat2_byteOf {n : Nat} (h : n < 65536) : nat2 (byteOf (n / 256)) (byteOf n) = n := by
  unfold nat2
  rw [toNat_byteOf, toNat_byteOf]
  omega

theorem bytes2_nat2 (hi lo : Byte) : bytes2 (nat2 hi lo) = [hi, lo] := by
  have below := lo.isLt
  have high : nat2 hi lo / 256 = hi.toNat := by unfold nat2; omega
  have low : byteOf (nat2 hi lo) = lo := BitVec.eq_of_toNat_eq (by rw [toNat_byteOf]; unfold nat2; omega)
  rw [bytes2, high, low, byteOf_toNat]

theorem toInt_tempByte {t : Int} (low : -128 ≤ t) (high : t ≤ 127) : (tempByte t).toInt = t := by
  rw [tempByte, BitVec.toInt_ofInt]
  exact Int.bmod_eq_of_le (by omega) (by omega)

theorem tempByte_toInt (b : Byte) : tempByte b.toInt = b := BitVec.ofInt_toInt

theorem getLsbD_maskByte (t : PerHall Bool) :
    (maskByte t).getLsbD 0 = t.h1 ∧ (maskByte t).getLsbD 1 = t.h2 ∧ (maskByte t).getLsbD 2 = t.h3 ∧
    (maskByte t).getLsbD 3 = t.h4 ∧ (maskByte t).getLsbD 4 = t.h5 ∧ (maskByte t).getLsbD 5 = t.h6 ∧
    (maskByte t).getLsbD 6 = false ∧ (maskByte t).getLsbD 7 = false := by
  obtain ⟨a, b, c, d, e, f⟩ := t
  revert a b c d e f
  decide

theorem maskOf_maskByte (t : PerHall Bool) : maskOf (maskByte t) = some t := by
  obtain ⟨h1, h2, h3, h4, h5, h6, none6, none7⟩ := getLsbD_maskByte t
  rw [maskOf, h1, h2, h3, h4, h5, h6, none6, none7]
  rfl

theorem maskByte_of_maskOf {b : Byte} {t : PerHall Bool} (h : maskOf b = some t) : maskByte t = b := by
  rw [maskOf, Option.ite_none_left_eq_some, Bool.or_eq_true, not_or, Bool.not_eq_true, Bool.not_eq_true] at h
  obtain ⟨⟨none6, none7⟩, h⟩ := h
  cases h
  obtain ⟨h1, h2, h3, h4, h5, h6, h7, h8⟩ := getLsbD_maskByte
    { h1 := b.getLsbD 0, h2 := b.getLsbD 1, h3 := b.getLsbD 2, h4 := b.getLsbD 3, h5 := b.getLsbD 4, h6 := b.getLsbD 5 }
  refine BitVec.eq_of_getLsbD_eq fun i lt => ?_
  match i, lt with
  | 0, _ => exact h1
  | 1, _ => exact h2
  | 2, _ => exact h3
  | 3, _ => exact h4
  | 4, _ => exact h5
  | 5, _ => exact h6
  | 6, _ => exact h7.trans none6.symm
  | 7, _ => exact h8.trans none7.symm

theorem hallOfNum_num (h : HallId) : hallOfNum (byteOf h.num).toNat = some h := by cases h <;> rfl

theorem bankOfNum_num (b : BankId) : bankOfNum (byteOf b.num).toNat = some b := by cases b <;> rfl

theorem manOfNum_num (m : ManId) : manOfNum (byteOf m.num).toNat = some m := by cases m <;> rfl

theorem num_of_hallOfNum {n : Nat} {h : HallId} (e : hallOfNum n = some h) : n = h.num := by
  unfold hallOfNum at e
  split at e <;> cases e <;> rfl

theorem num_of_bankOfNum {n : Nat} {b : BankId} (e : bankOfNum n = some b) : n = b.num := by
  unfold bankOfNum at e
  split at e <;> cases e <;> rfl

theorem num_of_manOfNum {n : Nat} {m : ManId} (e : manOfNum n = some m) : n = m.num := by
  unfold manOfNum at e
  split at e <;> cases e <;> rfl

/-- A byte that carries a name's number is that number's byte. -/
theorem byteOf_of_toNat_eq {b : Byte} {n : Nat} (e : b.toNat = n) : b = byteOf n := by rw [← e, byteOf_toNat]

theorem ite_two_eq_some {α : Type} {b c d : Byte} {x y v : α}
    (e : (if b = c then some x else if b = d then some y else none) = some v) : (b = c ∧ v = x) ∨ (b = d ∧ v = y) := by
  split at e
  · cases e; exact .inl ⟨by assumption, rfl⟩
  · split at e
    · cases e; exact .inr ⟨by assumption, rfl⟩
    · cases e

theorem boolOf_bit (v : Bool) : boolOf (byteOf (bitAt v 0)) = some v := by cases v <;> rfl

theorem bit_of_boolOf {b : Byte} {v : Bool} (e : boolOf b = some v) : byteOf (bitAt v 0) = b := by
  obtain ⟨rfl, rfl⟩ | ⟨rfl, rfl⟩ := ite_two_eq_some e <;> rfl

theorem roleOf_code (r : Role) : roleOf r.code = some r := by cases r <;> rfl

theorem code_of_roleOf {b : Byte} {r : Role} (e : roleOf b = some r) : r.code = b := by
  obtain ⟨rfl, rfl⟩ | ⟨rfl, rfl⟩ := ite_two_eq_some e <;> rfl

theorem ruleOf_code (r : Rule) : ruleOf r.code = some r := by cases r <;> rfl

theorem code_of_ruleOf {b : Byte} {r : Rule} (e : ruleOf b = some r) : r.code = b := by
  obtain ⟨rfl, rfl⟩ | ⟨rfl, rfl⟩ := ite_two_eq_some e <;> rfl

theorem banksOf_nums (l : List BankId) : banksOf (l.map fun b => byteOf b.num) = some l := by
  induction l with
  | nil => rfl
  | cons b rest ih => rw [List.map_cons, banksOf, bankOfNum_num, ih]

theorem nums_of_banksOf {bytes : List Byte} {l : List BankId} (e : banksOf bytes = some l) :
    bytes = l.map fun b => byteOf b.num := by
  induction bytes generalizing l with
  | nil => cases e; rfl
  | cons x rest ih =>
    rw [banksOf] at e
    split at e
    · rename_i b bs first others
      cases e
      rw [List.map_cons, ← ih others, ← byteOf_of_toNat_eq (num_of_bankOfNum first)]
    · cases e

/-! ## A record from its bytes and its bytes from the record (R174, R176) -/

theorem checked_of_valid {α : Type} {valid : α → Bool} {r : α} (v : valid r = true) : checked valid r = some r :=
  if_pos v

theorem checked_eq_some {α : Type} {valid : α → Bool} {x r : α} (e : checked valid x = some r) :
    valid r = true ∧ x = r := by
  rw [checked, Option.ite_none_right_eq_some] at e
  obtain ⟨v, e⟩ := e
  cases e
  exact ⟨v, rfl⟩

theorem SitePlan.siteOf_bytes {r : SitePlan} (v : r.valid = true) : siteOf r.bytes = some r := by
  obtain ⟨⟨-, k1⟩, k2, -, -, silence⟩ := r.valid_iff.1 v
  show (maskOf (maskByte r.portMask)).bind _ = _
  rw [maskOf_maskByte, Option.bind_some, nat2_byteOf (by omega), nat2_byteOf (by omega), toNat_byteOf_of_lt (by omega)]
  exact checked_of_valid v

theorem SitePlan.bytes_of_siteOf {body : List Byte} {r : SitePlan} (e : siteOf body = some r) :
    r.valid = true ∧ body = r.bytes := by
  unfold siteOf at e
  split at e
  · obtain ⟨ports, mask, e⟩ := Option.bind_eq_some_iff.1 e
    obtain ⟨v, rfl⟩ := checked_eq_some e
    refine ⟨v, ?_⟩
    simp only [SitePlan.bytes, bytes2_nat2, maskByte_of_maskOf mask, byteOf_toNat, List.cons_append, List.nil_append]
  · cases e

theorem ManPlan.manPlanOf_bytes {r : ManPlan} (v : r.valid = true) : manPlanOf r.bytes = some r := by
  obtain ⟨o, t, selector, flow, vent⟩ := r.valid_iff.1 v
  show (maskOf (maskByte r.reach)).bind _ = _
  rw [maskOf_maskByte, Option.bind_some, nat2_byteOf (by omega), nat2_byteOf (by omega), nat2_byteOf (by omega),
    toNat_byteOf_of_lt (by omega), toNat_byteOf_of_lt (by omega)]
  exact checked_of_valid v

theorem ManPlan.bytes_of_manPlanOf {body : List Byte} {r : ManPlan} (e : manPlanOf body = some r) :
    r.valid = true ∧ body = r.bytes := by
  unfold manPlanOf at e
  split at e
  · obtain ⟨halls, mask, e⟩ := Option.bind_eq_some_iff.1 e
    obtain ⟨v, rfl⟩ := checked_eq_some e
    refine ⟨v, ?_⟩
    simp only [ManPlan.bytes, bytes2_nat2, maskByte_of_maskOf mask, byteOf_toNat, List.cons_append, List.nil_append]
  · cases e

theorem BankPlan.bankPlanOf_bytes {r : BankPlan} (v : r.valid = true) : bankPlanOf r.bytes = some r := by
  obtain ⟨cylinders, fill, o, t⟩ := r.valid_iff.1 v
  show (manOfNum (byteOf r.manifold.num).toNat).bind _ = _
  rw [manOfNum_num, Option.bind_some, roleOf_code, Option.bind_some, nat2_byteOf (by omega), nat2_byteOf (by omega),
    nat2_byteOf (by omega), toNat_byteOf_of_lt (by omega)]
  exact checked_of_valid v

theorem BankPlan.bytes_of_bankPlanOf {body : List Byte} {r : BankPlan} (e : bankPlanOf body = some r) :
    r.valid = true ∧ body = r.bytes := by
  unfold bankPlanOf at e
  split at e
  · obtain ⟨m, man, e⟩ := Option.bind_eq_some_iff.1 e
    obtain ⟨role, code, e⟩ := Option.bind_eq_some_iff.1 e
    obtain ⟨v, rfl⟩ := checked_eq_some e
    refine ⟨v, ?_⟩
    simp only [BankPlan.bytes, bytes2_nat2, ← byteOf_of_toNat_eq (num_of_manOfNum man), code_of_roleOf code, byteOf_toNat,
      List.cons_append, List.nil_append]
  · cases e

theorem HallPlan.hallPlanOf_bytes {r : HallPlan} (v : r.valid = true) : hallPlanOf r.bytes = some r := by
  obtain ⟨volume, design, maximum, temps, auto, manual, limit, floor, wait, discharge, -⟩ := r.valid_iff.1 v
  have low := toInt_tempByte (t := r.designLow) (by omega) (by omega)
  have high := toInt_tempByte (t := r.designHigh) (by omega) (by omega)
  unfold hallPlanOf
  simp only [HallPlan.bytes, bytes2, List.cons_append, List.nil_append, ruleOf_code, boolOf_bit, banksOf_nums]
  rw [nat2_byteOf (by omega), nat2_byteOf (by omega), nat2_byteOf (by omega), low, high, toNat_byteOf_of_lt (by omega),
    toNat_byteOf_of_lt (by omega), nat2_byteOf (by omega), toNat_byteOf_of_lt (by omega), nat2_byteOf (by omega),
    toNat_byteOf_of_lt (by omega)]
  exact checked_of_valid v

/-- A body read as a hall record is its bytes where its count of banks agrees with their number (R174). -/
theorem HallPlan.bytes_of_hallPlanOf {body : List Byte} {r : HallPlan} (fits : planBodyFits .hall body = true)
    (e : hallPlanOf body = some r) : r.valid = true ∧ body = r.bytes := by
  unfold hallPlanOf at e
  split at e
  · split at e
    · rename_i counted tail _ _ _ _ r f p bs rule fallback part banks
      obtain ⟨v, rfl⟩ := checked_eq_some e
      have nums := nums_of_banksOf banks
      have len := congrArg List.length nums
      simp only [planBodyFits, List.getElem?_cons_succ, List.getElem?_cons_zero, decide_eq_true_eq, List.length_cons] at fits
      rw [List.length_map] at len
      have count : counted = byteOf bs.length := byteOf_of_toNat_eq (by omega)
      refine ⟨v, ?_⟩
      simp only [HallPlan.bytes, bytes2_nat2, code_of_ruleOf rule, bit_of_boolOf fallback, bit_of_boolOf part, tempByte_toInt,
        byteOf_toNat, ← nums, List.cons_append, List.nil_append, ← count]
    · cases e
  · cases e

theorem planBodyFits_hall {r : HallPlan} (v : r.valid = true) : planBodyFits .hall r.bytes = true := by
  obtain ⟨-, -, -, -, -, -, -, -, -, -, ⟨one, eight⟩, -⟩ := r.valid_iff.1 v
  have count : r.bytes[19]? = some (byteOf r.preference.length) := rfl
  have len : r.bytes.length = 20 + r.preference.length := by
    simp only [HallPlan.bytes, bytes2, List.length_append, List.length_cons, List.length_nil, List.length_map]
  have number : (byteOf r.preference.length).toNat = r.preference.length := toNat_byteOf_of_lt (by omega)
  rw [planBodyFits, count]
  exact decide_eq_true (by rw [number]; exact ⟨one, eight, len⟩)

theorem planEditOf_eq_some {kind : RecordKind} {number : Byte} {body : List Byte} {e : PlanEdit}
    (h : planEditOf kind number body = some e) :
    ∃ name, recordName kind number.toNat = some name ∧
      match name with
      | .site => ∃ r, siteOf body = some r ∧ e = .site r
      | .man m => ∃ r, manPlanOf body = some r ∧ e = .man m r
      | .bank b => ∃ r, bankPlanOf body = some r ∧ e = .bank b r
      | .hall g => ∃ r, hallPlanOf body = some r ∧ e = .hall g r := by
  obtain ⟨name, named, h⟩ := Option.bind_eq_some_iff.1 h
  refine ⟨name, named, ?_⟩
  cases name <;> · obtain ⟨r, read, rfl⟩ := Option.map_eq_some_iff.1 h; exact ⟨r, read, rfl⟩

theorem recordName_eq_some {kind : RecordKind} {number : Byte} {name : RecordName}
    (h : recordName kind number.toNat = some name) :
    match name with
    | .site => kind = .site ∧ number = 1
    | .man m => kind = .man ∧ number = byteOf m.num
    | .bank b => kind = .bank ∧ number = byteOf b.num
    | .hall g => kind = .hall ∧ number = byteOf g.num := by
  cases kind with
  | site =>
    obtain ⟨one, h⟩ := Option.ite_none_right_eq_some.1 h
    cases h
    exact ⟨rfl, byteOf_of_toNat_eq one⟩
  | man =>
    obtain ⟨m, num, rfl⟩ := Option.map_eq_some_iff.1 h
    exact ⟨rfl, byteOf_of_toNat_eq (num_of_manOfNum num)⟩
  | bank =>
    obtain ⟨b, num, rfl⟩ := Option.map_eq_some_iff.1 h
    exact ⟨rfl, byteOf_of_toNat_eq (num_of_bankOfNum num)⟩
  | hall =>
    obtain ⟨g, num, rfl⟩ := Option.map_eq_some_iff.1 h
    exact ⟨rfl, byteOf_of_toNat_eq (num_of_hallOfNum num)⟩

end Sys2Proof.Machine

open Sys2Proof Sys2Proof.Machine in
/-- Settles O21: each kind of record by its two lemmas, its bytes read and its bytes recovered. -/
theorem planRecordsReadBack : Obligations.PlanRecordsReadBack := by
  refine ⟨fun r => specificVolumeInt_eq_fdiv r.k1 r.k2 (-10) ▸ r.valid_iff, ManPlan.valid_iff, BankPlan.valid_iff, HallPlan.valid_iff, fun r v => ⟨rfl, ?_⟩,
    fun m r v => ⟨rfl, ?_⟩, fun b r v => ⟨rfl, ?_⟩, fun h r v => ⟨planBodyFits_hall v, ?_⟩, fun kind number body e fits h => ?_⟩
  · show (siteOf r.bytes).map _ = _
    rw [SitePlan.siteOf_bytes v]
    rfl
  · rw [planEditOf, recordName, manOfNum_num]
    show (manPlanOf r.bytes).map _ = _
    rw [ManPlan.manPlanOf_bytes v]
    rfl
  · rw [planEditOf, recordName, bankOfNum_num]
    show (bankPlanOf r.bytes).map _ = _
    rw [BankPlan.bankPlanOf_bytes v]
    rfl
  · rw [planEditOf, recordName, hallOfNum_num]
    show (hallPlanOf r.bytes).map _ = _
    rw [HallPlan.hallPlanOf_bytes v]
    rfl
  · obtain ⟨name, named, read⟩ := planEditOf_eq_some h
    have names := recordName_eq_some named
    cases name with
    | site =>
      obtain ⟨r, read, rfl⟩ := read
      exact ⟨names.1, names.2, SitePlan.bytes_of_siteOf read⟩
    | man m =>
      obtain ⟨r, read, rfl⟩ := read
      exact ⟨names.1, names.2, ManPlan.bytes_of_manPlanOf read⟩
    | bank b =>
      obtain ⟨r, read, rfl⟩ := read
      exact ⟨names.1, names.2, BankPlan.bytes_of_bankPlanOf read⟩
    | hall g =>
      obtain ⟨r, read, rfl⟩ := read
      obtain ⟨rfl, number⟩ := names
      exact ⟨rfl, number, HallPlan.bytes_of_hallPlanOf fits read⟩
end

section
/-! What the event of one hall leaves alone: the records of the halls that do not wait, the write and the marks under way,
and the hall's own change number, which the end of the event advances (R63, R66). One lemma for each operation of a
zone report and of a hold demand. -/

namespace Sys2Proof.Machine

/-- State `t` follows from `s` by operations of an event of hall `h`. -/
structure State.Confined (h : HallId) (s t : State) : Prop where
  change : (t.inc h).change = (s.inc h).change
  others : ∀ g, ¬ h = g → ¬ g ∈ s.waitList → t.hall g = s.hall g
  waits : ∀ g, ¬ h = g → g ∈ t.waitList → g ∈ s.waitList
  write : t.write = s.write
  markQueue : t.markQueue = s.markQueue

theorem State.Confined.refl (h : HallId) (s : State) : State.Confined h s s :=
  ⟨rfl, fun _ _ _ => rfl, fun _ _ => id, rfl, rfl⟩

theorem State.Confined.trans {h : HallId} {s t u : State} (a : State.Confined h s t) (b : State.Confined h t u) :
    State.Confined h s u where
  change := b.change.trans a.change
  others g n out := (b.others g n fun k => out (a.waits g n k)).trans (a.others g n out)
  waits g n k := a.waits g n (b.waits g n k)
  write := b.write.trans a.write
  markQueue := b.markQueue.trans a.markQueue

/-! ## The updates -/

theorem State.Confined.of_modHall (s : State) (h : HallId) {f : Hall → Hall}
    (e : (f (s.hall h)).inc.change = (s.inc h).change) : State.Confined h s (s.modHall h f) :=
  ⟨(congrArg Incident.change (State.inc_modHall_same s h f)).trans e, fun _ n _ => State.hall_modHall_other s f n,
    fun _ _ => id, rfl, rfl⟩

theorem State.Confined.of_modInc (s : State) (h : HallId) {f : Incident → Incident}
    (e : (f (s.inc h)).change = (s.inc h).change) : State.Confined h s (s.modInc h f) :=
  State.Confined.of_modHall s h e

theorem State.Confined.of_modFlags (s : State) (h : HallId) (f : Flags → Flags) : State.Confined h s (s.modFlags h f) :=
  State.Confined.of_modInc s h rfl

theorem State.Confined.of_still {h : HallId} {s t : State} (still : t.still = s.still)
    (change : (t.inc h).change = (s.inc h).change) (others : ∀ g, ¬ h = g → ¬ g ∈ s.waitList → t.hall g = s.hall g)
    (waits : ∀ g, ¬ h = g → g ∈ t.waitList → g ∈ s.waitList) : State.Confined h s t :=
  ⟨change, others, waits, State.write_of_still still, State.markQueue_of_still still⟩

/-! ## Chapters 4 and 5 -/

theorem State.mem_waitList_of_enterWaiting {s : State} {h g : HallId} (n : ¬ h = g) (k : g ∈ (s.enterWaiting h).waitList) :
    g ∈ s.waitList := by
  rw [State.enterWaiting_eq, State.joinWaitList] at k
  split at k
  · exact k
  · exact ((mem_insertAt _ h g s.waitList).1 k).resolve_left fun e => n e.symm

theorem State.Confined.of_enterWaiting (s : State) (h : HallId) : State.Confined h s (s.enterWaiting h) :=
  State.Confined.of_still (State.still_enterWaiting s h)
    ((congrArg (fun x : Hall => x.inc.change) (State.hall_enterWaiting s h)).trans rfl)
    (fun _ n _ => State.hall_enterWaiting_other s n) fun _ n => State.mem_waitList_of_enterWaiting n

theorem State.Confined.of_enterSelecting (s : State) (h : HallId) : State.Confined h s (s.enterSelecting h) :=
  State.Confined.of_still (State.still_enterSelecting s h)
    ((congrArg (fun x : Hall => x.inc.change) (State.hall_enterSelecting_same s h)).trans rfl)
    (fun _ n _ => State.hall_enterSelecting_other s n) fun _ _ k => State.waitList_enterSelecting s h ▸ k

theorem State.Confined.of_returnAll (s : State) (h : HallId) : State.Confined h s (s.returnAll h) :=
  State.Confined.of_still (State.still_returnAll s h)
    ((congrArg (fun x : Hall => x.inc.change) (State.hall_returnAll s h)).trans rfl)
    (fun _ n _ => State.hall_returnAll_other s n) fun _ _ k => State.waitList_returnAll s h ▸ k

theorem State.Confined.of_reexamine (s : State) (h : HallId) : State.Confined h s s.reexamine :=
  State.Confined.of_still (State.still_reexamine s) (State.change_reexamine s h)
    (fun _ _ out => State.hall_reexamine_other s out) fun _ _ => State.mem_waitList_of_reexamine

theorem State.Confined.of_attempt (s : State) (h : HallId) (guarded : List BankId) :
    State.Confined h s (s.attempt h guarded).1 := by
  refine State.Confined.of_still (State.still_attempt s h guarded) (State.change_attempt s h guarded h)
    (fun _ n _ => State.hall_attempt_other s guarded n) fun g _ k => ?_
  obtain e | e := State.attempt_fst s h guarded <;> rw [e] at k
  · rw [State.waitList_succeeded] at k
    exact List.mem_of_mem_filter k
  · exact k

theorem State.Confined.of_singleAttempt (s : State) (h : HallId) : State.Confined h s (s.singleAttempt h) := by
  have attempt := State.Confined.of_attempt s h (s.protectedFrom h)
  unfold State.singleAttempt
  dsimp only
  split
  · exact attempt
  · exact attempt.trans (State.Confined.of_enterWaiting _ h)

theorem State.Confined.of_expireToWaiting (s : State) (h : HallId) : State.Confined h s (s.expireToWaiting h) :=
  ((State.Confined.of_modFlags s h _).trans (State.Confined.of_returnAll _ h)).trans
    ((State.Confined.of_enterWaiting _ h).trans (State.Confined.of_reexamine _ h))

theorem State.Confined.of_countdownExpires (s : State) (h : HallId) : State.Confined h s (s.countdownExpires h) := by
  unfold State.countdownExpires
  split
  · exact State.Confined.of_expireToWaiting s h
  · split
    · exact State.Confined.of_enterSelecting s h
    · split
      · exact (State.Confined.of_modFlags s h _).trans (State.Confined.of_enterSelecting _ h)
      · exact State.Confined.of_expireToWaiting s h

theorem State.Confined.of_leaveHeld (s : State) (h : HallId) : State.Confined h s (s.leaveHeld h) := by
  unfold State.leaveHeld
  split
  · exact State.Confined.of_modHall s h rfl
  · exact State.Confined.refl h s

theorem State.Confined.of_leaveHeldByManual (s : State) (h : HallId) : State.Confined h s (s.leaveHeldByManual h) := by
  unfold State.leaveHeldByManual
  split
  · exact State.Confined.refl h s
  · exact State.Confined.of_leaveHeld s h

theorem State.Confined.of_resumeCountdown (s : State) (h : HallId) (n : Nat) :
    State.Confined h s (s.resumeCountdown h n) := State.Confined.of_modHall s h rfl

theorem State.Confined.of_manualRelease (s : State) (h : HallId) : State.Confined h s (s.manualRelease h) := by
  have released := (((State.Confined.of_modInc s h (f := fun i => { i with manualSeen := true }) rfl).trans
    (State.Confined.of_modFlags _ h fun f => { f with manualOverride := true })).trans
    (State.Confined.of_leaveHeldByManual _ h)).trans
    (State.Confined.of_resumeCountdown _ h (min (s.remaining h) (10 * s.manualReleaseDelay h)))
  unfold State.manualRelease
  dsimp only
  split
  · exact released.trans (State.Confined.of_countdownExpires _ h)
  · exact released

theorem State.Confined.of_demandMoved (s : State) (h : HallId) (before : Bool) :
    State.Confined h s (s.demandMoved h before) := by
  unfold State.demandMoved
  split
  · unfold State.holdBegins
    split
    · exact State.Confined.of_modHall s h rfl
    · exact State.Confined.refl h s
  · split
    · unfold State.holdEnds
      split
      · exact (State.Confined.of_leaveHeld s h).trans (State.Confined.of_resumeCountdown _ h _)
      · exact State.Confined.refl h s
    · exact State.Confined.refl h s

/-! ## Chapter 3 -/

theorem State.hall_numbered (s : State) (h : HallId) (c : Cause) :
    (s.numbered h c).hall h =
      { s.hall h with
        inc := { s.inc h with cause := some c, confNumber := some s.confCounter }, wait := some ⟨0, 0, false⟩ } :=
  PerHall.get_set_same _ _ _

theorem State.Confined.of_recordConfirmation (s : State) (h : HallId) (c : Cause) :
    State.Confined h s (s.recordConfirmation h c) :=
  ⟨(congrArg (fun x : Hall => x.inc.change) (State.hall_numbered s h c)).trans rfl,
    fun _ n _ => State.hall_recordConfirmation_other s c n,
    fun _ _ => id, rfl, rfl⟩

theorem State.Confined.of_confirm (s : State) (h : HallId) (c : Cause) : State.Confined h s (s.confirm h c) := by
  have numbered := State.Confined.of_recordConfirmation s h c
  unfold State.confirm
  dsimp only
  split
  · exact (numbered.trans (State.Confined.of_modInc _ h rfl)).trans (State.Confined.of_modInc _ h rfl)
  · exact numbered.trans (State.Confined.of_singleAttempt _ h)

theorem State.Confined.of_testConfirmation (s : State) (h : HallId) : State.Confined h s (s.testConfirmation h) := by
  unfold State.testConfirmation
  split
  · split
    · exact State.Confined.of_confirm s h _
    · exact State.Confined.refl h s
  · exact State.Confined.refl h s

theorem State.Confined.of_openIncident (s : State) (h : HallId) : State.Confined h s (s.openIncident h) :=
  State.Confined.of_modHall s h rfl

theorem State.Confined.of_manualEvent (s : State) (h : HallId) (c : Cause) :
    State.Confined h s (s.manualEvent h c) := by
  have seen (t : State) : State.Confined h t (t.setManualSeen h) := State.Confined.of_modInc t h rfl
  unfold State.manualEvent
  split
  · exact ((State.Confined.of_openIncident s h).trans (seen _)).trans (State.Confined.of_confirm _ h c)
  · exact (seen s).trans (State.Confined.of_confirm _ h c)
  · exact State.Confined.of_manualRelease s h
  · exact State.Confined.of_manualRelease s h
  all_goals exact seen s

theorem State.Confined.of_openOnAlarm (s : State) (h : HallId) : State.Confined h s (s.openOnAlarm h) := by
  unfold State.openOnAlarm
  split
  · exact State.Confined.of_openIncident s h
  · exact State.Confined.refl h s

theorem State.Confined.of_takeZones (s : State) (h : HallId) : State.Confined h s (s.takeZones h) := by
  have opened := State.Confined.of_openOnAlarm s h
  have latched : State.Confined h s ((s.openOnAlarm h).latchZones h) := opened.trans (State.Confined.of_modInc _ h rfl)
  unfold State.takeZones
  dsimp only
  split
  · exact opened
  · split
    · exact latched.trans (State.Confined.of_manualEvent _ h _)
    · exact latched.trans (State.Confined.of_testConfirmation _ h)

end Sys2Proof.Machine
end

section
/-! A report of zones: what latches (R43), the rules it is tested by (R46 to R48), and the confirmation it may lead to
(R49, R50). -/

namespace Sys2Proof.Machine

/-! ## Latching (R43) -/

/-- What the zones of a report add to the latched zones `l`, at `time` seconds (R43). -/
def newlyLatched (time : Nat) (l : List Latched) (zones : List Zone) : List Latched :=
  ((zones.filter fun z => z.held == .alarm && l.all fun e => !(e.zone == z.id)).take (16 - l.length)).map fun z =>
    { zone := z.id, group := z.group, time := time }

theorem State.latchedNow_eq (s : State) (h : HallId) (reported : List Zone) :
    s.latchedNow h reported = newlyLatched (s.hall h).clock.secs (s.inc h).latched reported := rfl

theorem newlyLatched_of_full (time : Nat) {l : List Latched} (full : 16 ≤ l.length) (zones : List Zone) :
    newlyLatched time l zones = [] := by
  rw [newlyLatched, Nat.sub_eq_zero_of_le full]
  rfl

/-- Latching zone by zone, of zones declared once each, appends the new ones while there is room. -/
theorem latchInto_eq (time : Nat) (l : List Latched) {zones : List Zone} (once : (zones.map Zone.id).Nodup) :
    latchInto time l zones = l ++ newlyLatched time l zones := by
  induction zones generalizing l with
  | nil => simp [latchInto, newlyLatched]
  | cons z rest ih =>
    obtain ⟨fresh, once⟩ := List.nodup_cons.1 once
    have skip (full : ¬ l.length < 16) : latchInto time l (z :: rest) = l ++ newlyLatched time l (z :: rest) := by
      rw [latchInto, if_neg fun k => full k.2.2, ih l once, newlyLatched_of_full time (Nat.le_of_not_lt full),
        newlyLatched_of_full time (Nat.le_of_not_lt full)]
    by_cases new : (z.held == .alarm && l.all fun e => !(e.zone == z.id)) = true
    · by_cases room : l.length < 16
      · obtain ⟨alarm, unseen⟩ := Bool.and_eq_true_iff.1 new
        have others : (rest.filter fun y => y.held == .alarm &&
              (l ++ [{ zone := z.id, group := z.group, time := time : Latched }]).all fun e => !(e.zone == y.id)) =
            rest.filter fun y => y.held == .alarm && l.all fun e => !(e.zone == y.id) :=
          List.filter_congr fun y k => by
            have apart : ¬ z.id = y.id := fun e => fresh (e ▸ List.mem_map_of_mem k)
            simp only [List.all_append, List.all_cons, List.all_nil, beq_false_of_ne apart, Bool.not_false, Bool.and_true]
        have left : 16 - l.length = 16 - (l.length + 1) + 1 := by omega
        rw [latchInto, if_pos ⟨beq_iff_eq.1 alarm, unseen, room⟩, ih _ once, newlyLatched, newlyLatched, others,
          List.filter_cons_of_pos (by exact new), left, List.take_succ_cons, List.length_append]
        simp
      · exact skip room
    · rw [latchInto, if_neg fun k => new (Bool.and_eq_true_iff.2 ⟨beq_iff_eq.2 k.1, k.2.1⟩), ih l once, newlyLatched,
        newlyLatched, List.filter_cons_of_neg (by exact new)]

/-! ## The confirmation rules (R46 to R49) -/

theorem hasGroup_iff (g : ZoneGroup) (l : List Latched) : hasGroup g l = true ↔ ∃ e, e ∈ l ∧ e.group = g := by
  simp [hasGroup]

theorem groupUnavailable_iff (g : ZoneGroup) (zones : List Zone) :
    groupUnavailable g zones = true ↔ unavailable g zones := by
  simp [groupUnavailable, unavailable, imp_iff_not_or]

theorem fallbackMet_iff (zones : List Zone) (l : List Latched) :
    fallbackMet (some zones) l = true ↔
      ((∃ e, e ∈ l ∧ e.group = .a) ∧ unavailable .b zones ∧ ¬ unavailable .a zones) ∨
      ((∃ e, e ∈ l ∧ e.group = .b) ∧ unavailable .a zones ∧ ¬ unavailable .b zones) := by
  simp only [fallbackMet, Bool.or_eq_true, Bool.and_eq_true, Bool.not_eq_true', ← Bool.not_eq_true, hasGroup_iff,
    groupUnavailable_iff]
  exact or_congr (and_comm) (and_comm)

/-- The cause that the model finds is the one that R46 to R48 give. -/
theorem State.zoneCause_iff {s : State} {h : HallId} {zones : List Zone} (link : (s.link h).zones = some zones)
    (c : Cause) : s.zoneCause h = some c ↔ (s.hallPlan h).confirmsBy zones (s.inc h).latched c := by
  have cross : crossMet (s.inc h).latched = true ↔
      (∃ e, e ∈ (s.inc h).latched ∧ e.group = .a) ∧ ∃ e, e ∈ (s.inc h).latched ∧ e.group = .b := by
    rw [crossMet, Bool.and_eq_true, hasGroup_iff, hasGroup_iff]
  have fallback := fallbackMet_iff zones (s.inc h).latched
  unfold State.zoneCause
  rw [link]
  cases rule : (s.hallPlan h).rule with
  | double => cases c <;> simp [HallPlan.confirmsBy, rule, doubleMet, Nat.succ_le_iff]
  | cross =>
    by_cases met : crossMet (s.inc h).latched = true
    · have groups := cross.1 met
      cases c <;> simp [HallPlan.confirmsBy, rule, met, groups]
    · have groups : ¬ _ := fun k => met (cross.2 k)
      cases c with
      | cross => simpa [HallPlan.confirmsBy, rule, met] using fun x p q y k r => groups ⟨⟨x, p, q⟩, y, k, r⟩
      | fallback =>
        simp only [HallPlan.confirmsBy, rule, met, groups, not_false_eq_true, true_and, ← fallback, if_false,
          Bool.false_eq_true]
        simp
      | double => simp [HallPlan.confirmsBy, rule, met]
      | panelManual => simp [HallPlan.confirmsBy, met]
      | localManual => simp [HallPlan.confirmsBy, met]

/-! ## What attempts leave of a hall's record -/

/-- The parts of a hall's record that no attempt writes, beside those that name the incident (R61, R66). -/
def Hall.kept (x : Hall) : Option WaitClock × Bool × Bool × Bool :=
  (x.wait, x.inc.isOpen, x.inc.manualSeen, x.inc.flags.manualOverride)

theorem State.kept_succeeded (s : State) (h : HallId) (taken : List BankId) :
    ((s.succeeded h taken).hall h).kept = (s.hall h).kept := by
  have committed : ((s.afterCommit h taken).hall h).kept = (s.hall h).kept := by
    rw [State.afterCommit, State.committed_eq]
    exact (congrArg Hall.kept (State.hall_modHall_same _ h _)).trans rfl
  rw [← committed]
  obtain ⟨-, e⟩ | ⟨-, -, e⟩ := State.succeeded_cases s h taken <;> rw [e]
  · exact (congrArg Hall.kept (State.hall_enterSelecting_same _ h)).trans rfl
  · exact (congrArg Hall.kept (State.hall_modHall_same _ h _)).trans rfl

theorem State.kept_attempt (s : State) (h : HallId) (guarded : List BankId) :
    ((s.attempt h guarded).1.hall h).kept = (s.hall h).kept := by
  obtain e | e := State.attempt_fst s h guarded <;> rw [e]
  · exact State.kept_succeeded s h _
  · exact (congrArg Hall.kept (State.hall_withComputation s h)).trans rfl

theorem State.kept_singleAttempt (s : State) (h : HallId) : ((s.singleAttempt h).hall h).kept = (s.hall h).kept := by
  obtain ⟨-, e⟩ | ⟨-, e⟩ := State.singleAttempt_cases s h <;> rw [e]
  · exact State.kept_succeeded s h _
  · refine (congrArg Hall.kept (State.hall_enterWaiting _ h)).trans ?_
    rw [State.hall_withComputation]
    rfl

theorem State.kept_reexamine (s : State) (h : HallId) : (s.reexamine.hall h).kept = (s.hall h).kept :=
  State.reexamine_induct (P := fun u => (u.hall h).kept = (s.hall h).kept) rfl fun u g guarded _ p => by
    by_cases n : g = h
    · subst n
      exact (State.kept_attempt u g guarded).trans p
    · exact (congrArg Hall.kept (State.hall_attempt_other u guarded n)).trans p

/-! ## A confirmation (R49, R50) -/

theorem State.confirm_of_withheld {s : State} {h : HallId} (w : s.withheld h = true) (c : Cause) :
    s.confirm h c = ((s.numbered h c).recordComputation h).enterInhibited h := if_pos w

theorem State.confirm_of_free {s : State} {h : HallId} (w : s.withheld h = false) (c : Cause) :
    s.confirm h c = (s.numbered h c).singleAttempt h :=
  if_neg fun k => Bool.false_ne_true (w.symm.trans k)

theorem State.hall_confirm_of_withheld {s : State} {h : HallId} (w : s.withheld h = true) (c : Cause) :
    (s.confirm h c).hall h =
      { s.hall h with
        inc :=
          { { s.inc h with cause := some c, confNumber := some s.confCounter }.computed (s.chooseLow h) (s.chooseHigh h)
              (s.computeRequired h) (decide (s.unspentPreference h < s.computeRequired h)) with
            state := .inhibited, countdown := none }
        wait := some ⟨0, 0, false⟩ } := by
  rw [State.confirm_of_withheld w, State.enterInhibited, State.recordComputation_eq, State.modInc_modInc]
  refine (State.hall_modHall_same (s.numbered h c) h _).trans ?_
  rw [State.hall_numbered]
  rfl

/-- A confirmation states all that R49 and R50 say of it. -/
theorem State.confirmedFrom_confirm (s : State) (h : HallId) (c : Cause) : s.confirmedFrom (s.confirm h c) h c := by
  have numbered := State.hall_numbered s h c
  cases w : s.withheld h with
  | true =>
    have hall := State.hall_confirm_of_withheld w c
    have inc : (s.confirm h c).inc h = _ := congrArg Hall.inc hall
    have own : (s.numbered h c).inc h = _ := congrArg Hall.inc numbered
    have whole := State.confirm_of_withheld w c
    have counter : (s.confirm h c).confCounter = (s.numbered h c).confCounter := (congrArg State.confCounter whole).trans rfl
    have parts : (s.confirm h c).inventoryPart = s.inventoryPart := (congrArg State.inventoryPart whole).trans rfl
    have waits : (s.confirm h c).waitList = s.waitList := (congrArg State.waitList whole).trans rfl
    unfold State.confirmedFrom State.sameIncident State.hallState
    rw [hall, inc, numbered, own, counter, parts, waits]
    exact ⟨rfl, rfl, rfl, rfl, ⟨rfl, rfl, rfl, rfl, rfl⟩, rfl, rfl, rfl, fun _ => ⟨rfl, rfl, rfl, rfl⟩,
      fun k => absurd (w.symm.trans k) (by simp)⟩
  | false =>
    have attempted := State.attemptedFrom_singleAttempt (s.numbered h c) h
    obtain ⟨⟨required, low, high, same⟩, -, -⟩ := id attempted
    have kept := (State.kept_singleAttempt (s.numbered h c) h).trans (congrArg Hall.kept numbered)
    rw [State.confirm_of_free w]
    exact ⟨State.confCounter_of_still (State.still_singleAttempt _ h), congrArg (fun x => x.1) kept,
      congrArg (fun x => x.2.2.1) kept, congrArg (fun x => x.2.1) kept, same, required, low, high,
      fun k => absurd (w.symm.trans k) (by simp), fun _ => attempted⟩

/-- The change number that ends the event takes nothing from what was confirmed. -/
theorem State.Event.confirmedFrom {o s u t : State} {h : HallId} {c : Cause} (e : State.Event o u t)
    (a : s.confirmedFrom u h c) : s.confirmedFrom t h c := by
  have st := (e.recounted h).hallState
  obtain ⟨n, hall⟩ := e.hall_but_change h
  have inc : t.inc h = { u.inc h with change := n } := congrArg Hall.inc hall
  have parts : t.inventoryPart = u.inventoryPart := by rw [e.rest]; rfl
  obtain ⟨counter, wait, seen, isOpen, same, required, low, high, withheld, free⟩ := a
  unfold State.confirmedFrom State.sameIncident
  rw [e.confCounter, st, hall, inc, parts, e.waitList]
  exact ⟨counter, wait, seen, isOpen, same, required, low, high, withheld,
    fun k => (e.recounted h).attemptedFrom (free k)⟩

/-! ## The hold demand after a confirmation (R93) -/

/-- Hold demand that moved acts in COUNTDOWN where the hall may be held, and in HELD where the demand is gone. -/
theorem State.demandMoved_idle {s : State} {h : HallId}
    (counting : s.hallState h = .countdown → s.holdDemand h = true → s.mayHold h = false)
    (held : s.hallState h = .held → s.holdDemand h = true) (before : Bool) : s.demandMoved h before = s := by
  unfold State.demandMoved
  split
  · rename_i begun
    refine if_neg fun k => ?_
    rw [counting k.1 (Bool.and_eq_true_iff.1 begun).2] at k
    exact Bool.false_ne_true k.2
  · split
    · rename_i ended
      refine if_neg fun k => ?_
      rw [held k] at ended
      simp at ended
    · rfl

/-- A confirmation tests the hold demand itself where it starts a countdown (R91, R95). -/
theorem State.demandMoved_confirm (s : State) (h : HallId) (c : Cause) (before : Bool) :
    (s.confirm h c).demandMoved h before = s.confirm h c := by
  have outer := State.outer_confirm s h c
  have demand : (s.confirm h c).holdDemand h = s.holdDemand h := by
    unfold State.holdDemand State.holdContact State.closed State.contact State.link
    rw [State.contacts_of_outer outer, State.links_of_outer outer]
  obtain ⟨-, -, -, -, -, -, -, -, withheld, free⟩ := State.confirmedFrom_confirm s h c
  have elsewhere {x : HallState} (st : (s.confirm h c).hallState h = x) (n : ¬ x = .countdown) (m : ¬ x = .held) :
      (s.confirm h c).demandMoved h before = s.confirm h c :=
    State.demandMoved_idle (fun k => absurd (st.symm.trans k) n) (fun k => absurd (st.symm.trans k) m) before
  cases w : s.withheld h with
  | true => exact elsewhere (withheld w).1 (by simp) (by simp)
  | false =>
    obtain ⟨-, success, failure⟩ := free w
    cases ok : (s.numbered h c).attemptSucceeds h ((s.numbered h c).attemptTakes h ((s.numbered h c).protectedFrom h)) with
    | false => exact elsewhere (failure ok).2.2.2.1 (by simp) (by simp)
    | true =>
      obtain ⟨-, -, -, -, -, -, -, -, selecting, counting⟩ := success ok
      by_cases now : ((s.numbered h c).inc h).flags.countdownSpent = true ∨ (s.confirm h c).startDelay h = 0
      · exact elsewhere (selecting now) (by simp) (by simp)
      · obtain ⟨unspent, delay⟩ := not_or.1 now
        have st := (counting (Bool.eq_false_iff.2 unspent) delay).2
        have numbered : (s.numbered h c).holdDemand h = s.holdDemand h := rfl
        rw [numbered] at st
        refine State.demandMoved_idle (fun k d => ?_) (fun k => ?_) before
        · rw [demand] at d
          rw [k, d] at st
          by_contra may
          rw [if_pos ⟨rfl, by simpa using may⟩] at st
          cases st
        · rw [demand]
          by_contra none
          rw [k, if_neg fun a => none a.1] at st
          cases st

end Sys2Proof.Machine
end

section
/-! A manual release of the countdown (R99), its expiry at the same event (R102, R103), and the hold demand (R93 to R97). -/

namespace Sys2Proof.Machine

/-! ## The release (R99) -/

theorem State.manualRemaining_eq (s : State) (h : HallId) :
    min (s.remaining h) (10 * s.manualReleaseDelay h) = s.manualRemaining h := rfl

theorem State.leaveHeldByManual_eq (s : State) (h : HallId) :
    s.leaveHeldByManual h =
      s.modInc h fun i =>
        { i with
          holdUsed :=
            i.holdUsed + (if s.hallState h = .held ∧ (s.hall h).stay.ms < 100 then (s.hall h).stay.adds else 0) } := by
  have idle (n : ¬ (s.hallState h = .held ∧ (s.hall h).stay.ms < 100)) : s = s.modInc h fun i =>
      { i with
        holdUsed :=
          i.holdUsed + (if s.hallState h = .held ∧ (s.hall h).stay.ms < 100 then (s.hall h).stay.adds else 0) } := by
    rw [if_neg n]
    exact (State.modInc_id rfl).symm
  unfold State.leaveHeldByManual State.leaveHeld
  split
  · rename_i past
    exact idle fun k => Nat.not_lt.2 past k.2
  · rename_i before
    split
    · rename_i held
      rw [if_pos ⟨held, Nat.lt_of_not_le before⟩]
      exact State.modHall_congr rfl
    · rename_i other
      exact idle fun k => other k.1

theorem State.resumed_eq_releasedWith (s : State) (h : HallId) (n : Nat) :
    ((s.setManualOverride h).leaveHeldByManual h).resumeCountdown h n = s.releasedWith h n := by
  have stay : ((s.setManualOverride h).hall h).stay = (s.hall h).stay :=
    (congrArg Hall.stay (State.hall_modHall_same s h _)).trans rfl
  rw [State.leaveHeldByManual_eq, show (s.setManualOverride h).hallState h = s.hallState h from
    State.hallState_modFlags s h _, stay]
  refine (State.modHall_modHall (s.setManualOverride h) h _ _).trans ?_
  exact State.modHall_modHall s h
    (fun x => { x with inc := { x.inc with flags := { x.inc.flags with manualOverride := true } } }) _

/-- A release leaves the hall in COUNTDOWN with the tenths that R99 gives, and expires with none. -/
theorem State.manualRelease_eq (s : State) (h : HallId) :
    s.manualRelease h =
      if s.manualRemaining h = 0 then ((s.setManualSeen h).releasedWith h 0).countdownExpires h
      else (s.setManualSeen h).releasedWith h (s.manualRemaining h) := by
  unfold State.manualRelease
  dsimp only
  rw [State.resumed_eq_releasedWith, State.manualRemaining_eq]
  split
  · rename_i none
    rw [none]
  · rfl

theorem State.hall_releasedWith (s : State) (h : HallId) (n : Nat) :
    (s.releasedWith h n).hall h =
      { s.hall h with
        inc :=
          { s.inc h with
            state := .countdown
            countdown := some n
            holdUsed :=
              (s.inc h).holdUsed +
                (if s.hallState h = .held ∧ (s.hall h).stay.ms < 100 then (s.hall h).stay.adds else 0)
            flags := { (s.inc h).flags with manualOverride := true } }
        stay := ⟨0, false⟩ } := PerHall.get_set_same _ _ _

/-! ## The expiry (R102, R103) -/

/-- The state in which a hall whose countdown expired short has joined the wait list (R87, R103). -/
def State.expiredShort (s : State) (h : HallId) : State := ((s.setCountdownSpent h).returnAll h).enterWaiting h

theorem State.sentBackInto_expiredShort {s : State} {h : HallId} (out : ¬ h ∈ s.waitList) :
    s.sentBackInto (s.expiredShort h) h { (s.inc h).flags with countdownSpent := true } := by
  have spent : (s.setCountdownSpent h).inc h = { s.inc h with flags := { (s.inc h).flags with countdownSpent := true } } :=
    State.inc_modInc_same s h _
  have kept : (s.setCountdownSpent h).keptEntries h = s.keptEntries h := by
    unfold State.keptEntries
    rw [spent]
    rfl
  have spentHall : (s.setCountdownSpent h).hall h =
      { s.hall h with inc := { s.inc h with flags := { (s.inc h).flags with countdownSpent := true } } } :=
    State.hall_modHall_same s h _
  have own : ((s.setCountdownSpent h).returnAll h).hall h =
      { s.hall h with
        inc := { s.inc h with flags := { (s.inc h).flags with countdownSpent := true } }.returned (s.keptEntries h) } := by
    rw [State.hall_returnAll, kept, spent, spentHall]
  have others (g : HallId) (n : ¬ h = g) : ((s.setCountdownSpent h).returnAll h).hall g = s.hall g :=
    (State.hall_returnAll_other _ n).trans (State.hall_setCountdownSpent_other s n)
  have number (g : HallId) : (((s.setCountdownSpent h).returnAll h).inc g).confNumber = (s.inc g).confNumber := by
    by_cases n : h = g
    · subst n
      exact (congrArg (fun x : Hall => x.inc.confNumber) own).trans rfl
    · exact congrArg (fun x : Hall => x.inc.confNumber) (others g n)
  have joined : s.joinedAt (s.expiredShort h) h :=
    State.joinedAt_enterWaiting ((State.waitList_returnAll _ h).trans rfl) number out
  have still : (s.expiredShort h).still = s.still :=
    (State.still_enterWaiting _ h).trans ((State.still_returnAll _ h).trans (State.still_setCountdownSpent s h))
  have measuring : (s.expiredShort h).measuring = s.measuring :=
    (State.measuring_enterWaiting _ h).trans ((State.measuring_returnAll _ h).trans rfl)
  have record := State.hall_enterWaiting ((s.setCountdownSpent h).returnAll h) h
  rw [own] at record
  have halls := State.halls_of_others (s := s) (t := s.expiredShort h) (h := h) fun g n =>
    (State.hall_enterWaiting_other _ fun e => n e.symm).trans (others g fun e => n e.symm)
  rw [show (s.expiredShort h).hall h = _ from record] at halls
  have whole := State.eq_of_still still
  rw [measuring, halls] at whole
  obtain ⟨banks, mans⟩ := State.handedBack_returnAll (s.setCountdownSpent h) h
  refine ⟨whole, ⟨fun b => ?_, fun m => ?_⟩, joined⟩
  · have list : ((s.setCountdownSpent h).inc h).allocBanks = (s.inc h).allocBanks := by rw [spent]; rfl
    have bank := banks b
    rw [list] at bank
    rw [State.bank, State.expiredShort, State.banks_enterWaiting]
    exact bank
  · have both := mans m
    unfold State.man at both ⊢
    rw [State.expiredShort, State.mans_enterWaiting, State.selectors_enterWaiting, State.selCircuits_enterWaiting]
    exact both

/-- The expiry leads to SELECTING where the allocation is met or may be short, else back to wait (R102). -/
theorem State.countdownExpires_cases (s : State) (h : HallId) :
    (¬ (s.inc h).alloc = [] ∧ s.recordedRequired h ≤ (s.inc h).total ∧ s.countdownExpires h = s.enterSelecting h) ∨
    (¬ (s.inc h).alloc = [] ∧ (s.inc h).total < s.recordedRequired h ∧
      ((s.hallPlan h).partialPermitted = true ∨ (s.inc h).flags.isPartial = true) ∧
      s.countdownExpires h = (s.setPartial h).enterSelecting h) ∨
    (((s.inc h).alloc = [] ∨
        ((s.inc h).total < s.recordedRequired h ∧ (s.hallPlan h).partialPermitted = false ∧
          (s.inc h).flags.isPartial = false)) ∧
      s.countdownExpires h = (s.expiredShort h).reexamine) := by
  unfold State.countdownExpires State.falling
  by_cases empty : (s.inc h).alloc = []
  · rw [if_pos (by simp [empty])]
    exact .inr (.inr ⟨.inl empty, rfl⟩)
  · rw [if_neg (by simpa using empty)]
    by_cases short : (s.inc h).total < s.recordedRequired h
    · rw [if_neg (by simpa using short)]
      by_cases may : (s.hallPlan h).partialPermitted = true ∨ (s.inc h).flags.isPartial = true
      · rw [if_pos (Bool.or_eq_true_iff.2 may)]
        exact .inr (.inl ⟨empty, short, may, rfl⟩)
      · rw [if_neg fun k => may (Bool.or_eq_true_iff.1 k)]
        simp only [not_or, Bool.not_eq_true] at may
        exact .inr (.inr ⟨.inr ⟨short, may⟩, rfl⟩)
    · rw [if_pos (by simpa using short)]
      exact .inl ⟨empty, Nat.le_of_not_lt short, rfl⟩

theorem State.retried_expiredShort {s : State} {h : HallId} (out : ¬ h ∈ s.waitList) :
    State.Retried h (s.expiredShort h) (s.expiredShort h).reexamine :=
  State.retried_reexamine ((State.sentBackInto_expiredShort out).retried rfl)

theorem State.hallState_countdownExpires {s : State} {h : HallId} (out : ¬ h ∈ s.waitList) :
    (s.countdownExpires h).hallState h = .selecting ∨ (s.countdownExpires h).hallState h = .waiting := by
  obtain ⟨-, -, e⟩ | ⟨-, -, -, e⟩ | ⟨-, e⟩ := State.countdownExpires_cases s h <;> rw [e]
  · exact .inl (State.hallState_enterSelecting s h)
  · exact .inl (State.hallState_enterSelecting _ h)
  · exact (State.retried_expiredShort out).place.symm.imp (fun p => p.1) fun w => w.state

theorem State.kept_countdownExpires {s : State} {h : HallId} (out : ¬ h ∈ s.waitList) :
    ((s.countdownExpires h).hall h).kept = (s.hall h).kept := by
  have selected (u : State) : ((u.enterSelecting h).hall h).kept = (u.hall h).kept :=
    (congrArg Hall.kept (State.hall_enterSelecting_same u h)).trans rfl
  obtain ⟨-, -, e⟩ | ⟨-, -, -, e⟩ | ⟨-, e⟩ := State.countdownExpires_cases s h <;> rw [e]
  · exact selected s
  · exact (selected _).trans ((congrArg Hall.kept (State.hall_modHall_same s h _)).trans rfl)
  · exact (State.kept_reexamine _ h).trans ((congrArg Hall.kept (State.sentBackInto_expiredShort out).hall).trans rfl)

/-! ## The expiry as an event (R55, R63, R103) -/

theorem State.selectingFrom_enterSelecting (s : State) (h : HallId) : s.selectingFrom (s.enterSelecting h) h := by
  have own := State.hall_enterSelecting_same s h
  refine ⟨congrArg (fun x : Hall => x.inc.state) own, congrArg (fun x : Hall => x.inc.countdown) own, fun m => ?_⟩
  have selectors := State.selectors_enterSelecting s h m
  have circuits := State.selCircuits_enterSelecting s h m
  unfold State.selector
  rw [State.man_enterSelecting, selectors, circuits]
  refine ⟨fun c => ?_, fun c => ?_, fun g n => ?_⟩
  · rw [if_pos c, if_pos c, if_pos c, PerHall.get_set_same, PerHall.get_set_same]
    refine ⟨rfl, rfl, rfl, fun x e => ?_⟩
    obtain ⟨y, -, rfl⟩ := Option.map_eq_some_iff.1 e
    exact ⟨rfl, rfl⟩
  · rw [if_neg c, if_neg c]
    exact ⟨rfl, rfl⟩
  · split
    · exact PerHall.get_set_other _ _ fun e => n e.symm
    · rfl

theorem State.Recounted.selectingFrom {h : HallId} {s u t : State} (e : State.Recounted h u t)
    (a : s.selectingFrom u h) : s.selectingFrom t h := by
  have st := e.hallState
  obtain ⟨n, hall⟩ := e.hall
  have countdown : (t.inc h).countdown = (u.inc h).countdown := (congrArg (fun x : Hall => x.inc.countdown) hall).trans rfl
  unfold State.selectingFrom State.man State.selector
  rw [st, countdown, e.mans, e.selectors, e.selCircuits]
  exact a

/-- An event in which a countdown expires leaves what R102 and R103 say. -/
theorem State.Event.expiredFrom {s t : State} {h : HallId} (e : State.Event s (s.countdownExpires h) t)
    (out : ¬ h ∈ s.waitList) : s.expiredFrom t h := by
  have counted := e.recounted h
  obtain ⟨n, hall⟩ := e.hall_but_change h
  have inc : t.inc h = { (s.countdownExpires h).inc h with change := n } := congrArg Hall.inc hall
  have cases := State.countdownExpires_cases s h
  generalize s.countdownExpires h = u at *
  obtain ⟨some, met, rfl⟩ | ⟨some, short, may, rfl⟩ | ⟨sent, rfl⟩ := cases
  · have own := State.hall_enterSelecting_same s h
    have record : (s.enterSelecting h).inc h = _ := congrArg Hall.inc own
    rw [own] at hall
    rw [record] at inc
    have selecting := counted.selectingFrom (State.selectingFrom_enterSelecting s h)
    have banks : t.banks = s.banks := counted.banks.trans (State.banks_enterSelecting s h)
    have waits : t.waitList = s.waitList := counted.waitList.trans (State.waitList_enterSelecting s h)
    unfold State.expiredFrom State.sameIncident
    rw [hall, inc]
    exact ⟨⟨rfl, rfl, rfl, rfl, rfl⟩, rfl, rfl, fun _ _ => ⟨selecting, banks, waits, rfl, rfl⟩,
      fun _ short => absurd met (Nat.not_le.2 short),
      fun k => (k.elim some fun short => Nat.not_le.2 short.1 met).elim⟩
  · have flagged : (s.setPartial h).inc h = { s.inc h with flags := { (s.inc h).flags with isPartial := true } } :=
      State.inc_modInc_same s h _
    have clock : ((s.setPartial h).hall h).clock = (s.hall h).clock :=
      (congrArg Hall.clock (State.hall_modHall_same s h _)).trans rfl
    have own := State.hall_enterSelecting_same (s.setPartial h) h
    have record : ((s.setPartial h).enterSelecting h).inc h = _ := congrArg Hall.inc own
    rw [own, flagged] at hall
    rw [record, flagged] at inc
    have selecting : s.selectingFrom t h :=
      counted.selectingFrom (s := s.setPartial h) (State.selectingFrom_enterSelecting (s.setPartial h) h)
    have banks : t.banks = s.banks := counted.banks.trans (State.banks_enterSelecting _ h)
    have waits : t.waitList = s.waitList := counted.waitList.trans (State.waitList_enterSelecting _ h)
    unfold State.expiredFrom State.sameIncident
    rw [hall, inc]
    refine ⟨⟨rfl, rfl, rfl, rfl, clock⟩, rfl, rfl, fun _ met => absurd met (Nat.not_le.2 short),
      fun _ _ _ => ⟨selecting, banks, waits, rfl, rfl⟩, fun k => (k.elim some fun k => ?_).elim⟩
    obtain ⟨-, permitted, flag⟩ := k
    rw [permitted, flag] at may
    simp at may
  · have back := ((State.sentBackInto_expiredShort out).sentBackTo out rfl e).1
    obtain ⟨-, incident, used, countdown, -⟩ := id back
    refine ⟨incident, used, countdown, fun some met => ?_, fun some short may => ?_, fun _ => back⟩
    · exact (sent.elim some fun short => Nat.not_le.2 short.1 met).elim
    · obtain none | ⟨-, permitted, flag⟩ := sent
      · exact absurd none some
      · rw [permitted, flag] at may
        simp at may

/-- The change number of an event counts from any state in which the records differ from those that the event leaves as
they did when it began. -/
theorem State.Event.rebase {o s v t : State} {h : HallId} (e : State.Event o v t)
    (others : ∀ g, ¬ h = g → s.hall g = o.hall g) (before : ¬ o.hallState h = v.hallState h)
    (now : ¬ s.hallState h = v.hallState h) : State.Event s v t := by
  refine ⟨e.halls.trans (PerHall.eq_of_get fun g => ?_), e.rest⟩
  show (State.countChanges o v).hall g = (State.countChanges s v).hall g
  by_cases n : h = g
  · subst n
    rw [State.hall_countChanges_of_changed (State.content_ne_of_state fun k => before k.symm),
      State.hall_countChanges_of_changed (State.content_ne_of_state fun k => now k.symm)]
  · rw [State.hall_countChanges, State.hall_countChanges, others g n]

/-! ## The hold demand (R93 to R97) -/

theorem State.demandMoved_of_state {s : State} {h : HallId} {x : HallState} (st : s.hallState h = x)
    (n : ¬ x = .countdown) (m : ¬ x = .held) (before : Bool) : s.demandMoved h before = s :=
  State.demandMoved_idle (fun k => absurd (st.symm.trans k) n) (fun k => absurd (st.symm.trans k) m) before

theorem State.mayHold_iff (s : State) (h : HallId) :
    s.mayHold h = true ↔
      (s.inc h).flags.manualOverride = false ∧ (s.inc h).flags.holdOverridden = false ∧
      (s.inc h).holdUsed < 10 * (s.hallPlan h).holdLimit := by
  simp [State.mayHold, and_assoc]

/-- A hall that a manual event released cannot be held any more (R95, R99). -/
theorem State.demandMoved_releasedWith (s : State) (h : HallId) (n : Nat) (before : Bool) :
    (s.releasedWith h n).demandMoved h before = s.releasedWith h n := by
  have own := State.hall_releasedWith s h n
  have st : (s.releasedWith h n).hallState h = .countdown := congrArg (fun x : Hall => x.inc.state) own
  have override : ((s.releasedWith h n).inc h).flags.manualOverride = true :=
    congrArg (fun x : Hall => x.inc.flags.manualOverride) own
  refine State.demandMoved_idle (fun _ _ => Bool.eq_false_iff.2 fun k => ?_) (fun k => ?_) before
  · rw [State.mayHold_iff, override] at k
    exact absurd k.1 (by simp)
  · rw [st] at k
    cases k

/-- What hold demand that moved makes of a hall in COUNTDOWN or HELD (R93 to R97). -/
def State.heldOrResumed (s : State) (h : HallId) (before : Bool) : Hall :=
  if s.hallState h = .countdown ∧ before = false ∧ s.holdDemand h = true ∧
      (s.inc h).flags.manualOverride = false ∧ (s.inc h).flags.holdOverridden = false ∧
      (s.inc h).holdUsed < 10 * (s.hallPlan h).holdLimit then
    { s.hall h with inc := { s.inc h with state := .held }, stay := ⟨0, false⟩ }
  else if s.hallState h = .held ∧ before = true ∧ s.holdDemand h = false then
    { s.hall h with
      inc :=
        { s.inc h with
          state := .countdown
          countdown := some (max ((s.inc h).countdown.getD 0) (10 * (s.hallPlan h).restartFloor))
          holdUsed := (s.inc h).holdUsed + (s.hall h).stay.adds }
      stay := ⟨0, false⟩ }
  else s.hall h

theorem State.demandMoved_eq (s : State) (h : HallId) (before : Bool) :
    s.demandMoved h before = s.modHall h fun _ => s.heldOrResumed h before := by
  have same : s = s.modHall h fun _ => s.hall h := by
    show s = { s with halls := s.halls.set h (s.halls.get h) }
    rw [PerHall.set_get]
  unfold State.heldOrResumed
  by_cases begins : s.hallState h = .countdown ∧ before = false ∧ s.holdDemand h = true ∧
      (s.inc h).flags.manualOverride = false ∧ (s.inc h).flags.holdOverridden = false ∧
      (s.inc h).holdUsed < 10 * (s.hallPlan h).holdLimit
  · obtain ⟨st, off, on, may⟩ := id begins
    rw [if_pos begins, State.demandMoved, if_pos (by simp [off, on]), State.holdBegins,
      if_pos ⟨st, (State.mayHold_iff s h).2 may⟩]
    rfl
  · by_cases ends : s.hallState h = .held ∧ before = true ∧ s.holdDemand h = false
    · obtain ⟨st, on, off⟩ := id ends
      rw [if_neg begins, if_pos ends, State.demandMoved, if_neg (by simp [on]), if_pos (by simp [on, off]),
        State.holdEnds, if_pos st, State.leaveHeld, if_pos st]
      exact State.modHall_modHall s h _ _
    · rw [if_neg begins, if_neg ends, ← same]
      unfold State.demandMoved
      split
      · rename_i c
        obtain ⟨off, on⟩ := Bool.and_eq_true_iff.1 c
        exact if_neg fun k => begins ⟨k.1, by simpa using off, on, (State.mayHold_iff s h).1 k.2⟩
      · split
        · rename_i c
          obtain ⟨on, off⟩ := Bool.and_eq_true_iff.1 c
          exact if_neg fun k => ends ⟨k, on, by simpa using off⟩
        · rfl

end Sys2Proof.Machine
end

section
/-! A report of zones taken whole (R42 to R49), as the event of a CYCLE leaves it. -/

namespace Sys2Proof.Machine

/-! ## Opening (R44) -/

theorem opensIncident_iff (zones : List Zone) :
    opensIncident zones = true ↔ ∃ z, z ∈ zones ∧ z.held = .alarm ∧ ¬ z.group = .advisory := by
  simp [opensIncident]

theorem State.openIncident_eq (s : State) (h : HallId) : s.openIncident h = s.openedFor h := rfl

theorem State.hallState_openedFor (s : State) (h : HallId) : (s.openedFor h).hallState h = .alert :=
  congrArg (fun x : Hall => x.inc.state) (PerHall.get_set_same s.halls h _)

theorem State.openOnAlarm_of_open {s : State} {h : HallId} (n : ¬ s.hallState h = .quiet) : s.openOnAlarm h = s :=
  if_neg fun k => n k.1

theorem State.takeZones_of_opening {s : State} {h : HallId} {reported : List Zone}
    (link : (s.link h).zones = some reported) (quiet : s.hallState h = .quiet)
    (alarm : ∃ z, z ∈ reported ∧ z.held = .alarm ∧ ¬ z.group = .advisory) :
    s.takeZones h = (s.openedFor h).takeZones h := by
  have zones : s.zones h = reported := by rw [State.zones, link]; rfl
  have opened : s.openOnAlarm h = s.openedFor h :=
    (if_pos ⟨quiet, zones ▸ (opensIncident_iff reported).2 alarm⟩).trans (State.openIncident_eq s h)
  have same : (s.openedFor h).openOnAlarm h = s.openedFor h :=
    State.openOnAlarm_of_open (by rw [State.hallState_openedFor]; simp)
  rw [State.takeZones, State.takeZones, opened, same]

theorem State.takeZones_of_quiet {s : State} {h : HallId} {reported : List Zone}
    (link : (s.link h).zones = some reported) (quiet : s.hallState h = .quiet)
    (none : ∀ z, z ∈ reported → z.held = .alarm → z.group = .advisory) : s.takeZones h = s := by
  have zones : s.zones h = reported := by rw [State.zones, link]; rfl
  have opened : s.openOnAlarm h = s := by
    refine if_neg fun k => ?_
    obtain ⟨z, declared, alarm, group⟩ := (opensIncident_iff reported).1 (zones ▸ k.2)
    exact group (none z declared alarm)
  unfold State.takeZones
  rw [opened]
  exact if_pos quiet

/-! ## What a report does in an open incident -/

theorem State.hall_withLatched (s : State) (h : HallId) (new : List Latched) :
    (s.withLatched h new).hall h =
      { s.hall h with
        inc :=
          { s.inc h with
            latched := (s.inc h).latched ++ new
            manualSeen := (s.inc h).manualSeen || new.any fun e => e.group == .manual } } := PerHall.get_set_same _ _ _

theorem State.heldOrResumed_withLatched (s : State) (h : HallId) (new : List Latched) (before : Bool) :
    (s.withLatched h new).heldOrResumed h before =
      if s.hallState h = .countdown ∧ before = false ∧ s.holdDemand h = true ∧
          (s.inc h).flags.manualOverride = false ∧ (s.inc h).flags.holdOverridden = false ∧
          (s.inc h).holdUsed < 10 * (s.hallPlan h).holdLimit then
        { (s.withLatched h new).hall h with
          inc := { (s.withLatched h new).inc h with state := .held }, stay := ⟨0, false⟩ }
      else if s.hallState h = .held ∧ before = true ∧ s.holdDemand h = false then
        { (s.withLatched h new).hall h with
          inc :=
            { (s.withLatched h new).inc h with
              state := .countdown
              countdown := some (max ((s.inc h).countdown.getD 0) (10 * (s.hallPlan h).restartFloor))
              holdUsed := (s.inc h).holdUsed + (s.hall h).stay.adds }
          stay := ⟨0, false⟩ }
      else (s.withLatched h new).hall h := by
  have own := State.hall_withLatched s h new
  have inc : (s.withLatched h new).inc h = _ := congrArg Hall.inc own
  unfold State.heldOrResumed State.hallState
  rw [own, inc]
  rfl

theorem State.hallState_withLatched (s : State) (h : HallId) (new : List Latched) :
    (s.withLatched h new).hallState h = s.hallState h :=
  (congrArg (fun x : Hall => x.inc.state) (State.hall_withLatched s h new)).trans rfl

section
variable {s : State} {h : HallId} {reported : List Zone} (link : (s.link h).zones = some reported)
  (once : (reported.map Zone.id).Nodup)

include link once

theorem State.latchInto_zones :
    latchInto (s.hall h).clock.secs (s.inc h).latched (s.zones h) = (s.inc h).latched ++ s.latchedNow h reported := by
  rw [State.zones, link, State.latchedNow_eq]
  exact latchInto_eq _ _ once

theorem State.latchesManual_iff : s.latchesManual h = true ↔ ∃ e, e ∈ s.latchedNow h reported ∧ e.group = .manual := by
  rw [State.latchesManual, State.latchInto_zones link once, List.drop_left, hasGroup_iff]

theorem State.latchZones_eq :
    s.latchZones h = s.modInc h fun i => { i with latched := (s.inc h).latched ++ s.latchedNow h reported } := by
  rw [← State.latchInto_zones link once]
  unfold State.latchZones State.modInc
  exact State.modHall_congr rfl

theorem State.latchZones_of_none (none : ∀ e, e ∈ s.latchedNow h reported → ¬ e.group = .manual) :
    s.latchZones h = s.withLatched h (s.latchedNow h reported) := by
  have unseen : ((s.latchedNow h reported).any fun e => e.group == .manual) = false := by
    rw [← Bool.not_eq_true, ← hasGroup, hasGroup_iff]
    exact fun ⟨e, new, group⟩ => none e new group
  rw [State.latchZones_eq link once, State.withLatched, unseen, Bool.or_false]
  rfl

theorem State.setManualSeen_latchZones (some : ∃ e, e ∈ s.latchedNow h reported ∧ e.group = .manual) :
    (s.latchZones h).setManualSeen h = s.withLatched h (s.latchedNow h reported) := by
  have seen : ((s.latchedNow h reported).any fun e => e.group == .manual) = true := (hasGroup_iff _ _).2 some
  rw [State.latchZones_eq link once, State.setManualSeen, State.modInc_modInc, State.withLatched, seen, Bool.or_true]
  rfl

theorem State.takeZones_of_manual (n : ¬ s.hallState h = .quiet)
    (some : ∃ e, e ∈ s.latchedNow h reported ∧ e.group = .manual) :
    s.takeZones h = (s.latchZones h).manualEvent h .panelManual := by
  unfold State.takeZones
  rw [State.openOnAlarm_of_open n]
  exact (if_neg n).trans (if_pos ((State.latchesManual_iff link once).2 some))

theorem State.takeZones_of_none (n : ¬ s.hallState h = .quiet)
    (none : ∀ e, e ∈ s.latchedNow h reported → ¬ e.group = .manual) :
    s.takeZones h = (s.withLatched h (s.latchedNow h reported)).testConfirmation h := by
  unfold State.takeZones
  rw [State.openOnAlarm_of_open n, ← State.latchZones_of_none link once none]
  refine (if_neg n).trans (if_neg fun k => ?_)
  obtain ⟨e, new, group⟩ := (State.latchesManual_iff link once).1 k
  exact none e new group

theorem State.hallState_latchZones : (s.latchZones h).hallState h = s.hallState h := by
  rw [State.latchZones_eq link once]
  exact (congrArg Incident.state (State.inc_modInc_same s h _)).trans rfl

/-! ## In ALERT (R45, R46 to R49) -/

theorem State.takeZones_alert_manual (alert : s.hallState h = .alert)
    (some : ∃ e, e ∈ s.latchedNow h reported ∧ e.group = .manual) :
    s.takeZones h = (s.withLatched h (s.latchedNow h reported)).confirm h .panelManual := by
  rw [State.takeZones_of_manual link once (by simp [alert]) some, State.manualEvent,
    State.hallState_latchZones link once, alert, ← State.setManualSeen_latchZones link once some]

theorem State.takeZones_alert_cause (alert : s.hallState h = .alert)
    (none : ∀ e, e ∈ s.latchedNow h reported → ¬ e.group = .manual) {c : Cause}
    (met : (s.hallPlan h).confirmsBy reported ((s.withLatched h (s.latchedNow h reported)).inc h).latched c) :
    s.takeZones h = (s.withLatched h (s.latchedNow h reported)).confirm h c := by
  have cause := (State.zoneCause_iff (s := s.withLatched h (s.latchedNow h reported)) link c).2 met
  rw [State.takeZones_of_none link once (by simp [alert]) none, State.testConfirmation,
    if_pos ((State.hallState_withLatched s h _).trans alert), cause]

theorem State.takeZones_alert_none (alert : s.hallState h = .alert)
    (none : ∀ e, e ∈ s.latchedNow h reported → ¬ e.group = .manual)
    (unmet : ∀ c,
      ¬ (s.hallPlan h).confirmsBy reported ((s.withLatched h (s.latchedNow h reported)).inc h).latched c) :
    s.takeZones h = s.withLatched h (s.latchedNow h reported) := by
  have cause : (s.withLatched h (s.latchedNow h reported)).zoneCause h = Option.none :=
    Option.eq_none_iff_forall_ne_some.2 fun c k =>
      unmet c ((State.zoneCause_iff (s := s.withLatched h (s.latchedNow h reported)) link c).1 k)
  rw [State.takeZones_of_none link once (by simp [alert]) none, State.testConfirmation,
    if_pos ((State.hallState_withLatched s h _).trans alert), cause]

/-! ## In COUNTDOWN and HELD (R99), and elsewhere (R43, R45) -/

theorem State.takeZones_release (counting : s.hallState h = .countdown ∨ s.hallState h = .held)
    (some : ∃ e, e ∈ s.latchedNow h reported ∧ e.group = .manual) :
    s.takeZones h =
      if s.manualRemaining h = 0 then
        ((s.withLatched h (s.latchedNow h reported)).releasedWith h 0).countdownExpires h
      else (s.withLatched h (s.latchedNow h reported)).releasedWith h (s.manualRemaining h) := by
  have remaining : (s.latchZones h).manualRemaining h = s.manualRemaining h := by
    have own : (s.latchZones h).inc h = { s.inc h with latched := (s.inc h).latched ++ s.latchedNow h reported } := by
      rw [State.latchZones_eq link once]
      exact State.inc_modInc_same s h _
    unfold State.manualRemaining
    rw [own]
    rfl
  have unquiet : ¬ s.hallState h = .quiet := by rintro k; simp [k] at counting
  rw [State.takeZones_of_manual link once unquiet some, State.manualEvent, State.hallState_latchZones link once,
    ← remaining, ← State.setManualSeen_latchZones link once some]
  obtain st | st := counting <;> rw [st] <;> exact State.manualRelease_eq _ h

theorem State.takeZones_unconfirmed (alert : ¬ s.hallState h = .alert) (quiet : ¬ s.hallState h = .quiet)
    (none : ∀ e, e ∈ s.latchedNow h reported → ¬ e.group = .manual) :
    s.takeZones h = s.withLatched h (s.latchedNow h reported) := by
  rw [State.takeZones_of_none link once quiet none, State.testConfirmation]
  exact if_neg fun k => alert ((State.hallState_withLatched s h _).symm.trans k)

theorem State.takeZones_elsewhere (quiet : ¬ s.hallState h = .quiet) (alert : ¬ s.hallState h = .alert)
    (countdown : ¬ s.hallState h = .countdown) (held : ¬ s.hallState h = .held) :
    s.takeZones h = s.withLatched h (s.latchedNow h reported) := by
  by_cases some : ∃ e, e ∈ s.latchedNow h reported ∧ e.group = .manual
  · rw [State.takeZones_of_manual link once quiet some, State.manualEvent, State.hallState_latchZones link once,
      ← State.setManualSeen_latchZones link once some]
    split
    · exact absurd ‹_› quiet
    · exact absurd ‹_› alert
    · exact absurd ‹_› countdown
    · exact absurd ‹_› held
    all_goals rfl
  · exact State.takeZones_unconfirmed link once alert quiet fun e new group => some ⟨e, new, group⟩

end

/-! ## The report and the hold demand as one event (R63, R93 to R99) -/

theorem State.Event.hallAsIn {o u t : State} (e : State.Event o u t) (h : HallId) : u.hallAsIn t h := by
  obtain ⟨n, hall⟩ := e.hall_but_change h
  have inc : t.inc h = { u.inc h with change := n } := congrArg Hall.inc hall
  rw [State.hallAsIn, inc]
  exact hall

theorem State.Event.inventoryPart {o u t : State} (e : State.Event o u t) : t.inventoryPart = u.inventoryPart := by
  rw [e.rest]
  rfl

/-- What the clauses of a report say where nothing but the hall's own record moved. -/
theorem State.Event.latchedOnly {o s t : State} {h : HallId} {new : List Latched}
    (e : State.Event o (s.withLatched h new) t) :
    (s.withLatched h new).hallAsIn t h ∧ t.confCounter = s.confCounter ∧ t.inventoryPart = s.inventoryPart ∧
      t.waitList = s.waitList :=
  ⟨e.hallAsIn h, e.confCounter, e.inventoryPart, e.waitList⟩

section
variable {s : State} {h : HallId} {reported : List Zone} (link : (s.link h).zones = some reported)
  (once : (reported.map Zone.id).Nodup)

include link once

/-- The clause of ALERT. -/
theorem State.Event.reportTaken_alert {o t : State} {before : Bool}
    (e : State.Event o ((s.takeZones h).demandMoved h before) t) (alert : s.hallState h = .alert) :
    ((∃ e, e ∈ s.latchedNow h reported ∧ e.group = .manual) →
      (s.withLatched h (s.latchedNow h reported)).confirmedFrom t h .panelManual) ∧
    ((∀ e, e ∈ s.latchedNow h reported → ¬ e.group = .manual) →
      (∀ c, (s.hallPlan h).confirmsBy reported ((s.withLatched h (s.latchedNow h reported)).inc h).latched c →
        (s.withLatched h (s.latchedNow h reported)).confirmedFrom t h c) ∧
      ((∀ c, ¬ (s.hallPlan h).confirmsBy reported ((s.withLatched h (s.latchedNow h reported)).inc h).latched c) →
        (s.withLatched h (s.latchedNow h reported)).hallAsIn t h ∧ t.confCounter = s.confCounter ∧
        t.inventoryPart = s.inventoryPart ∧ t.waitList = s.waitList)) := by
  refine ⟨fun some => ?_, fun none => ⟨fun c met => ?_, fun unmet => ?_⟩⟩
  · rw [State.takeZones_alert_manual link once alert some, State.demandMoved_confirm] at e
    exact e.confirmedFrom (State.confirmedFrom_confirm _ h _)
  · rw [State.takeZones_alert_cause link once alert none met, State.demandMoved_confirm] at e
    exact e.confirmedFrom (State.confirmedFrom_confirm _ h _)
  · rw [State.takeZones_alert_none link once alert none unmet,
      State.demandMoved_of_state ((State.hallState_withLatched s h _).trans alert) (by simp) (by simp)] at e
    exact e.latchedOnly

/-- A release with tenths left (R99). -/
theorem State.Event.reportTaken_released {o t : State} {before : Bool}
    (e : State.Event o ((s.takeZones h).demandMoved h before) t)
    (counting : s.hallState h = .countdown ∨ s.hallState h = .held)
    (some : ∃ e, e ∈ s.latchedNow h reported ∧ e.group = .manual) (left : 0 < s.manualRemaining h) :
    ((s.withLatched h (s.latchedNow h reported)).releasedWith h (s.manualRemaining h)).hallAsIn t h ∧
      t.inventoryPart = s.inventoryPart ∧ t.waitList = s.waitList := by
  rw [State.takeZones_release link once counting some, if_neg (Nat.pos_iff_ne_zero.1 left),
    State.demandMoved_releasedWith] at e
  exact ⟨e.hallAsIn h, e.inventoryPart, e.waitList⟩

/-- A release with none left: the countdown expires at the same event (R99, R102). -/
theorem State.Event.reportTaken_expired {t : State} {before : Bool}
    (e : State.Event s ((s.takeZones h).demandMoved h before) t)
    (counting : s.hallState h = .countdown ∨ s.hallState h = .held)
    (some : ∃ e, e ∈ s.latchedNow h reported ∧ e.group = .manual) (out : ¬ h ∈ s.waitList)
    (none : s.manualRemaining h = 0) :
    ((s.withLatched h (s.latchedNow h reported)).releasedWith h 0).expiredFrom t h ∧ (t.inc h).manualSeen = true ∧
      (t.inc h).flags.manualOverride = true := by
  have seen : ((s.latchedNow h reported).any fun e => e.group == .manual) = true := (hasGroup_iff _ _).2 some
  have latched := State.hall_withLatched s h (s.latchedNow h reported)
  have released := State.hall_releasedWith (s.withLatched h (s.latchedNow h reported)) h 0
  have others (g : HallId) (n : ¬ h = g) :
      ((s.withLatched h (s.latchedNow h reported)).releasedWith h 0).hall g = s.hall g :=
    (PerHall.get_set_other _ _ n).trans (PerHall.get_set_other _ _ n)
  have out : ¬ h ∈ ((s.withLatched h (s.latchedNow h reported)).releasedWith h 0).waitList := out
  rw [State.takeZones_release link once counting some, if_pos none] at e
  generalize (s.withLatched h (s.latchedNow h reported)).releasedWith h 0 = v at *
  have st := State.hallState_countdownExpires out
  have kept := State.kept_countdownExpires out
  rw [State.demandMoved_idle (fun k => by simp [k] at st) (fun k => by simp [k] at st)] at e
  have countdown : v.hallState h = .countdown := congrArg (fun x : Hall => x.inc.state) released
  have rebased := e.rebase (s := v) others (fun k => by rw [← k] at st; rcases counting with c | c <;> simp [c] at st)
    (fun k => by rw [← k, countdown] at st; simp at st)
  obtain ⟨n, hall⟩ := e.hall_but_change h
  rw [released] at kept
  have inc : t.inc h = { (v.countdownExpires h).inc h with change := n } := congrArg Hall.inc hall
  rw [inc]
  exact ⟨rebased.expiredFrom out,
    (congrArg (fun x => x.2.2.1) kept).trans
      ((congrArg (fun x : Hall => x.inc.manualSeen) latched).trans (by simp [seen])),
    congrArg (fun x => x.2.2.2) kept⟩

/-- No manual event in COUNTDOWN or HELD: the hold demand that began or ended acts (R93 to R97). -/
theorem State.Event.reportTaken_demand {o t : State} {before : Bool}
    (e : State.Event o ((s.takeZones h).demandMoved h before) t)
    (counting : s.hallState h = .countdown ∨ s.hallState h = .held)
    (none : ∀ e, e ∈ s.latchedNow h reported → ¬ e.group = .manual) :
    t.inventoryPart = s.inventoryPart ∧ t.waitList = s.waitList ∧
      t.hall h =
        { (s.withLatched h (s.latchedNow h reported)).heldOrResumed h before with
          inc :=
            { ((s.withLatched h (s.latchedNow h reported)).heldOrResumed h before).inc with
              change := (t.inc h).change } } := by
  rw [State.takeZones_unconfirmed link once (fun k => by simp [k] at counting) (fun k => by simp [k] at counting) none,
    State.demandMoved_eq] at e
  have hall := e.hallAsIn h
  rw [State.hallAsIn, State.inc_modHall_same, State.hall_modHall_same] at hall
  exact ⟨e.inventoryPart, e.waitList, hall⟩

/-- A report in an open incident does what chapter 3 says, and the hold demand what chapter 6 says. -/
theorem State.Event.reportTakenFrom {t : State} {before : Bool}
    (e : State.Event s ((s.takeZones h).demandMoved h before) t) (quiet : ¬ s.hallState h = .quiet) :
    s.reportTakenFrom t h before reported := by
  refine ⟨fun alert => e.reportTaken_alert link once alert, fun counting => ⟨fun some out => ⟨fun left =>
    e.reportTaken_released link once counting some left, fun none => e.reportTaken_expired link once counting some out none⟩,
    fun none => ?_⟩, fun alert countdown held => ?_⟩
  · obtain ⟨parts, waits, hall⟩ := e.reportTaken_demand link once counting none
    refine ⟨parts, waits, hall.trans ?_⟩
    rw [State.heldOrResumed_withLatched]
    generalize (t.inc h).change = n
    split_ifs
    · rfl
    · rfl
    · rfl
  · rw [State.takeZones_elsewhere link once quiet alert countdown held,
      State.demandMoved_of_state (State.hallState_withLatched s h _) countdown held] at e
    exact e.latchedOnly

end

/-- A report that opens an incident goes on in ALERT. -/
theorem State.Event.reportTakenFrom_opened {s t : State} {h : HallId} {reported : List Zone} {before : Bool}
    (e : State.Event s ((s.takeZones h).demandMoved h before) t) (link : (s.link h).zones = some reported)
    (once : (reported.map Zone.id).Nodup) (quiet : s.hallState h = .quiet)
    (alarm : ∃ z, z ∈ reported ∧ z.held = .alarm ∧ ¬ z.group = .advisory) :
    (s.openedFor h).reportTakenFrom t h before reported := by
  have alert := State.hallState_openedFor s h
  rw [State.takeZones_of_opening link quiet alarm] at e
  exact ⟨fun _ => e.reportTaken_alert (s := s.openedFor h) link once alert, fun k => by simp [alert] at k,
    fun n => absurd alert n⟩

end Sys2Proof.Machine
end

section
/-! The ports of the halls stand aside: what an event does to a hall is the same whatever bytes the ports hold. The answer
of a CYCLE is sent after its event (R159), and the statements on the event speak of the state with the answer. -/

namespace Sys2Proof.Machine

/-- The state with the receivers and senders of the hall ports as in `p`. -/
def State.withPorts (s : State) (p : PerHall PortIo) : State := { s with hallPorts := p }

theorem State.examinedTo_withPorts {s u : State} {h : HallId} {guarded : List BankId} (p : PerHall PortIo)
    (a : s.examinedTo u h guarded) : (s.withPorts p).examinedTo (u.withPorts p) h guarded := by
  refine ⟨fun ok => ?_, fun failed => ?_⟩
  · obtain ⟨computed, allocated, whole⟩ := a.1 ok
    exact ⟨computed, allocated, congrArg (fun x => State.withPorts x p) whole⟩
  · exact congrArg (fun x => State.withPorts x p) (a.2 failed)

theorem State.walkedTo_withPorts (p : PerHall PortIo) {l : List HallId} {guarded : List BankId} {s v : State}
    (a : State.walkedTo l guarded s v) : State.walkedTo l guarded (s.withPorts p) (v.withPorts p) := by
  induction l generalizing guarded s with
  | nil => exact congrArg (fun x => State.withPorts x p) a
  | cons h rest ih =>
    obtain ⟨u, examined, success, failure⟩ := a
    exact ⟨u.withPorts p, State.examinedTo_withPorts p examined, fun ok => ih (success ok), fun failed => ih (failure failed)⟩

theorem State.thenReexamined_withPorts {s u t : State} (p : PerHall PortIo) (a : s.thenReexamined u t) :
    (s.withPorts p).thenReexamined (u.withPorts p) (t.withPorts p) := by
  obtain ⟨v, walked, whole, counted⟩ := a
  exact ⟨v.withPorts p, State.walkedTo_withPorts p walked, congrArg (fun x => State.withPorts x p) whole, counted⟩

theorem State.sentBackInto_withPorts {s u : State} {h : HallId} {f : Flags} (p : PerHall PortIo)
    (a : s.sentBackInto u h f) : (s.withPorts p).sentBackInto (u.withPorts p) h f := by
  obtain ⟨whole, back, joined⟩ := a
  exact ⟨congrArg (fun x => State.withPorts x p) whole, back, joined⟩

theorem State.sentBackTo_withPorts {s t : State} {h : HallId} {f : Flags} (p : PerHall PortIo)
    (a : s.sentBackTo t h f) : (s.withPorts p).sentBackTo (t.withPorts p) h f := by
  obtain ⟨⟨u, sent, walked⟩, rest⟩ := a
  exact ⟨⟨u.withPorts p, State.sentBackInto_withPorts p sent, State.thenReexamined_withPorts p walked⟩, rest⟩

theorem State.expiredFrom_withPorts {s t : State} {h : HallId} (p : PerHall PortIo) (a : s.expiredFrom t h) :
    (s.withPorts p).expiredFrom (t.withPorts p) h := by
  obtain ⟨same, used, countdown, met, short, sent⟩ := a
  exact ⟨same, used, countdown, met, short, fun k => State.sentBackTo_withPorts p (sent k)⟩

theorem State.reportTakenFrom_withPorts {s t : State} {h : HallId} {before : Bool} {reported : List Zone}
    (p : PerHall PortIo) (a : s.reportTakenFrom t h before reported) :
    (s.withPorts p).reportTakenFrom (t.withPorts p) h before reported := by
  obtain ⟨alert, counting, elsewhere⟩ := a
  refine ⟨alert, fun st => ⟨fun some out => ⟨((counting st).1 some out).1, fun none => ?_⟩, (counting st).2⟩, elsewhere⟩
  obtain ⟨expired, seen, override⟩ := ((counting st).1 some out).2 none
  exact ⟨State.expiredFrom_withPorts p expired, seen, override⟩

end Sys2Proof.Machine
end

section
/-! The request CYCLE: its payload, the event it is (R29, R93, R165), and its answer (R170, R173). -/

namespace Sys2Proof.Machine

/-! ## The payload (R165, R174) -/

theorem zoneStatesOf_codes (states : List ZoneState) : zoneStatesOf (states.map ZoneState.code) = some states := by
  induction states with
  | nil => rfl
  | cons x rest ih =>
    have first : zoneStateOf x.code = some x := by cases x <;> rfl
    rw [List.map_cons, zoneStatesOf, first, ih]

theorem reportedTemp_optionalTemp {t : Option Int} (range : ∀ x, t = some x → -40 ≤ x ∧ x ≤ 85) :
    reportedTemp (optionalTemp t) = some t := by
  cases t with
  | none => rfl
  | some x =>
    obtain ⟨low, high⟩ := range x rfl
    have read : (optionalTemp (some x)).toInt = x := toInt_tempByte (by omega) (by omega)
    rw [reportedTemp, read, if_neg (by omega), if_pos ⟨low, high⟩]

theorem requestOf_cycle {states : List ZoneState} (hold : Bool) {low high : Option Int}
    (lowRange : ∀ x, low = some x → -40 ≤ x ∧ x ≤ 85) (highRange : ∀ x, high = some x → -40 ≤ x ∧ x ≤ 85) :
    requestOf states.length .cycle
        (states.map ZoneState.code ++ [if hold then 1 else 0, optionalTemp low, optionalTemp high]) =
      some (.cycle states hold low high) := by
  have bit : boolOf (if hold then 1 else 0) = some hold := by cases hold <;> rfl
  have whole := List.length_map (as := states) ZoneState.code
  have three : [if hold then 1 else 0, optionalTemp low, optionalTemp high].length = 3 := rfl
  rw [requestOf, cycleOf, List.length_append, whole, three, if_pos rfl, List.take_left' whole, List.drop_left' whole,
    zoneStatesOf_codes]
  show cycleTail states _ = _
  rw [cycleTail, bit, reportedTemp_optionalTemp lowRange, reportedTemp_optionalTemp highRange]

/-! ## CYCLE_RESULT (R170, R173) -/

/-- The fields of a CYCLE_RESULT. -/
def State.cycleFields (s : State) (h : HallId) : List (List Byte) :=
  [[(s.hallState h).code], bytes2 ((s.inc h).countdown.getD 0xFFFF), [byteOf (bitAt (s.holdDemand h) 0)],
    bytes2 (s.inc h).change.toNat, bytes3 (s.available h), bytes3 ((s.inc h).required.getD 0xFFFFFF),
    bytes3 (s.inc h).total, bytes2 (s.inc h).flags.bits]

theorem State.cycleResult_eq (s : State) (h : HallId) : s.cycleResult h = (s.cycleFields h).flatten := by
  simp [State.cycleResult, State.cycleFields, optional2_eq, optional3_eq]

theorem State.stands_cycleFields {s : State} {h : HallId} (n : Nat) {place : Nat} {x : List Byte}
    (e : (s.cycleFields h)[n]? = some x) (before : ([1, 2, 1, 2, 3, 3, 3, 2].take n).sum = place) :
    stands (s.cycleResult h) place x := by
  have field := stands_field (fields := s.cycleFields h) rfl e before []
  rwa [List.append_nil, ← State.cycleResult_eq] at field

theorem State.cycleLaidOut_cycleResult (s : State) (h : HallId) : s.cycleLaidOut h (s.cycleResult h) := by
  refine ⟨?_, carries_code (State.stands_cycleFields 0 rfl rfl), carries_bytes2 (State.stands_cycleFields 1 rfl rfl),
    carries_byteOf (State.stands_cycleFields 2 rfl rfl), carries_bytes2 (State.stands_cycleFields 3 rfl rfl),
    carries_bytes3 (State.stands_cycleFields 4 rfl rfl), carries_bytes3 (State.stands_cycleFields 5 rfl rfl),
    carries_bytes3 (State.stands_cycleFields 6 rfl rfl), carries_bytes2 (State.stands_cycleFields 7 rfl rfl)⟩
  rw [State.cycleResult_eq]
  rfl

/-! ## The event -/

/-- The state with the link record that an accepted CYCLE leaves (R29, R165). -/
def State.withReport (s : State) (h : HallId) (reported : List Zone) (hold : Bool) (low high : Option Int) : State :=
  { s with
    links := s.links.set h
      { s.link h with
        state := .running
        zones := some reported
        hold := hold
        low := low
        high := high
        silence := some (Timer.start s.work.site.silence) } }

theorem State.acceptCycle_eq {s : State} {h : HallId} {zones : List Zone} (link : (s.link h).zones = some zones)
    (states : List ZoneState) (hold : Bool) (low high : Option Int) :
    s.acceptCycle h states hold low high =
      ((s.withReport h (withStates zones states) hold low high).takeZones h).demandMoved h (s.holdDemand h) := by
  have record : s.modLink h (Link.afterCycle s.silenceTimer states hold low high) =
      s.withReport h (withStates zones states) hold low high := by
    unfold State.modLink Link.afterCycle State.withReport
    rw [show (s.links.get h).zones = some zones from link]
    rfl
  rw [State.acceptCycle, record]

theorem State.link_withReport (s : State) (h : HallId) (reported : List Zone) (hold : Bool) (low high : Option Int) :
    (s.withReport h reported hold low high).link h =
      { s.link h with
        state := .running
        zones := some reported
        hold := hold
        low := low
        high := high
        silence := some (Timer.start s.work.site.silence) } := PerHall.get_set_same _ _ _

theorem State.demandMoved_takeZones_of_quiet {s : State} {h : HallId} {reported : List Zone}
    (link : (s.link h).zones = some reported) (quiet : s.hallState h = .quiet)
    (none : ∀ z, z ∈ reported → z.held = .alarm → z.group = .advisory) (before : Bool) :
    (s.takeZones h).demandMoved h before = s := by
  rw [State.takeZones_of_quiet link quiet none, State.demandMoved_of_state quiet (by simp) (by simp)]

theorem ids_withStates {zones : List Zone} {states : List ZoneState} (count : states.length = zones.length) :
    (withStates zones states).map Zone.id = zones.map Zone.id := by
  induction zones generalizing states with
  | nil => rfl
  | cons z rest ih =>
    cases states with
    | nil => simp at count
    | cons x xs => exact congrArg (z.id :: ·) (ih (Nat.succ.inj count))

/-- What an accepted CYCLE whose link record reports `reported` leaves before it is answered (R63, R93, R165). -/
def State.afterReport (s : State) (h : HallId) (reported : List Zone) (hold : Bool) (low high : Option Int) : State :=
  State.countChanges s (((s.withReport h reported hold low high).takeZones h).demandMoved h (s.holdDemand h))

section
variable (s : State) (h : HallId) (reported : List Zone) (hold : Bool) (low high : Option Int)

theorem State.event_afterReport :
    State.Event (s.withReport h reported hold low high)
      (((s.withReport h reported hold low high).takeZones h).demandMoved h (s.holdDemand h))
      (s.afterReport h reported hold low high) := ⟨rfl, rfl⟩

theorem State.outer_afterReport :
    (s.afterReport h reported hold low high).outer = (s.withReport h reported hold low high).outer :=
  (State.outer_demandMoved _ h _).trans (State.outer_takeZones _ h)

theorem State.confined_report :
    State.Confined h (s.withReport h reported hold low high)
      (((s.withReport h reported hold low high).takeZones h).demandMoved h (s.holdDemand h)) :=
  (State.Confined.of_takeZones _ h).trans (State.Confined.of_demandMoved _ h _)

theorem State.links_afterReport :
    (s.afterReport h reported hold low high).links = (s.withReport h reported hold low high).links :=
  State.links_of_outer (State.outer_afterReport s h reported hold low high)

theorem State.holdDemand_afterReport :
    (s.afterReport h reported hold low high).holdDemand h = (s.holdContact h || hold) := by
  have contacts := State.contacts_of_outer (State.outer_afterReport s h reported hold low high)
  have own := State.link_withReport s h reported hold low high
  unfold State.holdDemand State.holdContact State.closed State.contact State.link
  rw [contacts, State.links_afterReport]
  rw [State.link] at own
  rw [own]
  rfl

theorem State.port_afterReport (q : Port) : (s.afterReport h reported hold low high).port q = s.port q := by
  have outer := State.outer_afterReport s h reported hold low high
  cases q with
  | hall g => exact congrArg (PerHall.get · g) ((State.hallPorts_of_outer outer).trans rfl)
  | station => exact (State.stationPort_of_outer outer).trans rfl

theorem State.work_afterReport : (s.afterReport h reported hold low high).work = s.work :=
  (State.work_of_outer (State.outer_afterReport s h reported hold low high)).trans rfl

theorem State.storePart_afterReport : (s.afterReport h reported hold low high).storePart = s.storePart := by
  have outer := State.outer_afterReport s h reported hold low high
  have confined := State.confined_report s h reported hold low high
  have write : (s.afterReport h reported hold low high).write = s.write := confined.write
  have marks : (s.afterReport h reported hold low high).markQueue = s.markQueue := confined.markQueue
  unfold State.storePart
  rw [State.nvPlan_of_outer outer, State.nvSpent_of_outer outer, State.overlay_of_outer outer, write, marks]
  rfl

theorem State.scannerPart_afterReport : (s.afterReport h reported hold low high).scannerPart = s.scannerPart := by
  have outer := State.outer_afterReport s h reported hold low high
  unfold State.scannerPart
  rw [State.contacts_of_outer outer, State.returns_of_outer outer, State.scan_of_outer outer]
  rfl

theorem State.othersKept_afterReport : s.othersKept (s.afterReport h reported hold low high) h := fun g n out =>
  (State.event_afterReport s h reported hold low high).hall_of_same
    ((State.confined_report s h reported hold low high).others g (fun e => n e.symm) out)

theorem State.change_afterReport :
    ((s.afterReport h reported hold low high).inc h).change =
      (s.inc h).change +
        (if { (s.afterReport h reported hold low high).inc h with change := 0 } = { s.inc h with change := 0 } then 0
          else 1) := by
  have counted := ((State.event_afterReport s h reported hold low high).hall h).trans
    (Hall.countChange_eq (State.confined_report s h reported hold low high).change)
  have inc : (s.afterReport h reported hold low high).inc h = _ := congrArg Hall.inc counted
  rw [inc]
  rfl

end

/-! ## The answer -/

/-- A CYCLE on a link that has declared is one event and is answered with the hall as it stands after it (R160, R165,
R170). -/
theorem State.frameArrives_cycle {s : State} {h : HallId} (seq : Byte) {zones : List Zone} {states : List ZoneState}
    (hold : Bool) {low high : Option Int} (ready : s.portReady (.hall h))
    (declared : ¬ (s.link h).state = .awaitingDeclare) (link : (s.link h).zones = some zones)
    (count : states.length = zones.length) (few : zones.length ≤ 16)
    (lowRange : ∀ x, low = some x → -40 ≤ x ∧ x ≤ 85) (highRange : ∀ x, high = some x → -40 ≤ x ∧ x ≤ 85) :
    s.frameArrives (.hall h) Kind.cycle.code seq
        (states.map ZoneState.code ++ [if hold then 1 else 0, optionalTemp low, optionalTemp high]) =
      (s.afterReport h (withStates zones states) hold low high).send (.hall h)
        (frameBytes 0x82 seq ((s.afterReport h (withStates zones states) hold low high).cycleResult h)) := by
  have zoneCount : s.declaredCount (.hall h) = states.length := by
    rw [State.declaredCount, State.zones, link, count]
    rfl
  rw [State.afterReport, ← State.acceptCycle_eq link]
  refine State.frameArrives_carriedOut seq ready ?_ rfl ?_ (r := .cycle states hold low high) ?_ rfl (by simp)
  · rw [List.length_append, List.length_map, count]
    exact Nat.le_trans (Nat.add_le_add_right few 3) (by decide)
  · simpa [State.linkAllows] using declared
  · rw [zoneCount]
    exact requestOf_cycle hold lowRange highRange

theorem State.send_hall (s : State) (h : HallId) (frame : List Byte) :
    s.send (.hall h) frame = s.withPorts (s.hallPorts.set h { rx := .hunting, tx := some frame }) := rfl

theorem State.port_send_other (s : State) {p q : Port} (n : ¬ q = p) (frame : List Byte) :
    (s.send p frame).port q = s.port q :=
  (State.port_modPort s p q _).trans (if_neg fun e => n e.symm)

end Sys2Proof.Machine

open Sys2Proof Sys2Proof.Machine in
/-- Settles O15: the event of a CYCLE is the link record, the report and the hold demand; its answer at the hall's port
is built from the state that the event leaves and takes nothing from what it did. -/
theorem cycleIsAccepted : Obligations.CycleIsAccepted := by
  intro h seq zones reported states hold low high s ready declared link count few reportedEq lowRange highRange
  have awaits : ¬ (s.link h).state = .awaitingDeclare := by rintro k; simp [k] at declared
  have arrives := State.frameArrives_cycle seq hold ready awaits link count few lowRange highRange
  have reportLink : ((s.withReport h reported hold low high).link h).zones = some reported := by
    rw [State.link_withReport]
  have event := State.event_afterReport s h reported hold low high
  have links := State.links_afterReport s h reported hold low high
  rw [show withStates zones states = reported from reportedEq.symm] at arrives
  refine ⟨_, congrArg Host.Outcome.next arrives, links, State.port_send _ _ _, State.cycleLaidOut_cycleResult _ h,
    State.holdDemand_afterReport s h reported hold low high,
    fun q n => (State.port_send_other _ n _).trans (State.port_afterReport s h reported hold low high q),
    State.work_afterReport s h reported hold low high,
    State.storePart_afterReport s h reported hold low high, State.scannerPart_afterReport s h reported hold low high,
    State.othersKept_afterReport s h reported hold low high, State.change_afterReport s h reported hold low high, ?_, ?_⟩
  · intro quiet none
    have calm := State.demandMoved_takeZones_of_quiet reportLink quiet none (s.holdDemand h)
    have whole : s.afterReport h reported hold low high = s.withReport h reported hold low high := by
      rw [State.afterReport, calm]
      exact State.countChanges_of_halls rfl
    rw [whole]
    exact ⟨rfl, rfl⟩
  · intro distinct
    have once : (reported.map Zone.id).Nodup := by rwa [reportedEq, ← withStates, ids_withStates count]
    have base (p : PerHall PortIo) :
        { s with links := (s.afterReport h reported hold low high).links, hallPorts := p } =
          (s.withReport h reported hold low high).withPorts p := by
      rw [links]
      rfl
    rw [State.send_hall]
    refine ⟨fun quiet alarm => ?_, fun unquiet => ?_⟩
    · exact (base _).symm ▸
        State.reportTakenFrom_withPorts _ (event.reportTakenFrom_opened reportLink once quiet alarm)
    · exact (base _).symm ▸ State.reportTakenFrom_withPorts _ (event.reportTakenFrom reportLink once unquiet)
end

section
/-! RESTART at every block (O5). -/

namespace Sys2Proof.Machine

theorem State.link_restart (s : State) (h : HallId) :
    s.restart.link h = linkAfterRestart (s.nvPlan.site.portMask.get h) := by
  show (s.nvPlan.site.portMask.mapId fun _ on => linkAfterRestart on).get h = _
  rw [PerHall.get_mapId]

theorem State.port_restart (s : State) (p : Port) : s.restart.port p = ⟨.hunting, none⟩ := by
  cases p with
  | station => rfl
  | hall h => exact PerHall.get_fill _ h

/-- What a restart leaves of a link (R129, R161): it waits for a declaration where its port is permitted, and remembers
nothing. -/
theorem linkAfterRestart_fields (on : Bool) :
    (linkAfterRestart on).state = (if on = true then .awaitingDeclare else .stopped) ∧
    (linkAfterRestart on).zones = none ∧ (linkAfterRestart on).hold = false ∧ (linkAfterRestart on).low = none ∧
    (linkAfterRestart on).high = none ∧ (linkAfterRestart on).silence = none ∧
    (linkAfterRestart on).sticky = ⟨false, false, false, false⟩ := by
  cases on <;> exact ⟨rfl, rfl, rfl, rfl, rfl, rfl, rfl⟩

end Sys2Proof.Machine

open Sys2Proof Sys2Proof.Machine in
/-- Settles O5: every block reads as the restart wrote it. -/
theorem restartClearsEveryBlock : Obligations.RestartClearsEveryBlock := by
  intro s
  refine ⟨s.restart, exec_restart s, fun h => ?_, rfl, rfl, rfl, s.slot_restart, fun b => PerBank.get_fill false b,
    s.selector_restart, fun m => ?_, s.bankCircuit_restart, s.selCircuit_restart, rfl, rfl, s.contact_restart,
    s.return_restart, rfl, fun h => ?_, s.port_restart⟩
  · rw [s.inc_restart h, s.hall_restart h]
    exact ⟨rfl, rfl, rfl, rfl⟩
  · rw [s.man_restart m]
  · rw [s.link_restart h]
    exact linkAfterRestart_fields _
end

section
/-! The laws of a hall's record (R51, R55, R61, R90, R96), each with the law of the wait list (R75): what each asks of one
record, and the shapes of record that meet it. A hall that is about to leave its state need only be `live`. -/

namespace Sys2Proof.Machine

/-! ## What the laws ask of one record -/

/-- The laws of a hall's record: of the inhibited hall (R51), the hold budget (R96), release entry (R55), and the open flag
with the countdown (R61, R90). -/
inductive RecordLaw where
  | inhibited | hold | entry | record

/-- What a law asks of the record of a hall that is withheld or not and has the given hold limit in tenths. -/
def Incident.meets (k : RecordLaw) (withheld : Bool) (limit : Nat) (i : Incident) : Prop :=
  match k with
  | .inhibited =>
    (i.state = .countdown ∨ i.state = .held → withheld = false) ∧
    (i.state = .waiting → withheld = false ∨ i.flags.countdownSpent = true)
  | .hold => (¬ i.state = .quiet → i.holdUsed ≤ limit) ∧ (i.state = .held → i.holdUsed < limit)
  | .entry =>
    i.state = .selecting → i.required.getD 0 ≤ i.total ∨ (i.flags.isPartial = true ∧ ¬ i.alloc = [])
  | .record =>
    (i.isOpen = true ↔ ¬ i.state = .quiet) ∧
    (i.countdown.isSome = true ↔ i.state = .countdown ∨ i.state = .held)

/-- What a law asks of an open record in whatever state. -/
def Incident.live (k : RecordLaw) (limit : Nat) (i : Incident) : Prop :=
  match k with
  | .inhibited => True
  | .hold => i.holdUsed ≤ limit
  | .entry => True
  | .record => i.isOpen = true

/-- What the laws read of a record in every state. -/
def Incident.lawPart (i : Incident) : HallState × Bool × Nat × Bool × Bool :=
  (i.state, i.isOpen, i.holdUsed, i.countdown.isSome, i.flags.countdownSpent)

/-- What the law of release entry reads of a record in SELECTING. -/
def Incident.entryPart (i : Incident) : Option Nat × List AllocEntry × Bool := (i.required, i.alloc, i.flags.isPartial)

/-! ## Records that meet a law -/

section
variable {k : RecordLaw} {withheld : Bool} {limit : Nat} {i j : Incident}

theorem Incident.live_of_meets (m : i.meets k withheld limit) (n : ¬ i.state = .quiet) : i.live k limit := by
  cases k with
  | inhibited => trivial
  | hold => exact m.1 n
  | entry => trivial
  | record => exact m.1.2 n

theorem Incident.live_of_same (l : i.live k limit) (o : j.isOpen = i.isOpen) (u : j.holdUsed = i.holdUsed) :
    j.live k limit := by
  cases k with
  | inhibited => trivial
  | hold => exact u.le.trans l
  | entry => trivial
  | record => exact o.trans l

theorem Incident.meets_of_same (m : i.meets k withheld limit) (e : j.lawPart = i.lawPart)
    (f : i.state = .selecting → j.entryPart = i.entryPart) : j.meets k withheld limit := by
  simp only [Incident.lawPart, Prod.mk.injEq] at e
  obtain ⟨st, opens, used, counts, spent⟩ := e
  cases k with
  | inhibited =>
    unfold Incident.meets
    rw [st, spent]
    exact m
  | hold =>
    unfold Incident.meets
    rw [st, used]
    exact m
  | entry =>
    intro c
    have same := f (st ▸ c)
    simp only [Incident.entryPart, Prod.mk.injEq] at same
    obtain ⟨required, alloc, whole⟩ := same
    unfold Incident.total
    rw [required, alloc, whole]
    exact m (st ▸ c)
  | record =>
    unfold Incident.meets
    rw [st, opens, counts]
    exact m

/-- The laws of a hall in no state of theirs do not ask whether it is withheld. -/
theorem Incident.meets_withheld (m : i.meets k withheld limit) (n : ¬ i.state = .waiting)
    (c : ¬ (i.state = .countdown ∨ i.state = .held)) (w : Bool) : i.meets k w limit := by
  cases k with
  | inhibited => exact ⟨fun e => absurd e c, fun e => absurd e n⟩
  | hold => exact m
  | entry => exact m
  | record => exact m

/-- A hall that is withheld no more than before meets what it met. -/
theorem Incident.meets_of_le (m : i.meets k withheld limit) {w : Bool} (le : w = true → withheld = true) :
    i.meets k w limit := by
  cases k with
  | inhibited =>
    have free (e : withheld = false) : w = false := by
      cases w with
      | false => rfl
      | true => rw [le rfl] at e; exact e
    exact ⟨fun c => free (m.1 c), fun c => (m.2 c).imp_left free⟩
  | hold => exact m
  | entry => exact m
  | record => exact m

/-- The laws of a QUIET hall do not ask for its hold limit. -/
theorem Incident.meets_limit (m : i.meets k withheld limit) (q : i.state = .quiet) (n : Nat) : i.meets k withheld n := by
  cases k with
  | inhibited => exact m
  | hold => exact ⟨fun c => absurd q c, fun e => by simp [q] at e⟩
  | entry => exact m
  | record => exact m

theorem Incident.meets_quiet (q : i.state = .quiet) (o : i.isOpen = false) (c : i.countdown = none) :
    i.meets k withheld limit := by
  cases k <;> simp [Incident.meets, q, o, c]

/-- A state that no law singles out: ALERT, INHIBITED, and those from DISCHARGING on. -/
def HallState.plain (x : HallState) : Prop :=
  x = .alert ∨ x = .inhibited ∨ x = .discharging ∨ x = .soak ∨ x = .discharged ∨ x = .stalled

theorem Incident.meets_plain (l : i.live k limit) (p : i.state.plain) (c : k = .record → i.countdown = none) :
    i.meets k withheld limit := by
  obtain p | p | p | p | p | p := p <;> cases k <;> simp_all [Incident.meets, Incident.live]

theorem Incident.meets_waiting (l : i.live k limit) (st : i.state = .waiting) (c : i.countdown = none)
    (free : k = .inhibited → withheld = false ∨ i.flags.countdownSpent = true) : i.meets k withheld limit := by
  cases k <;> simp_all [Incident.meets, Incident.live]

theorem Incident.meets_counting (l : i.live k limit) (st : i.state = .countdown) (c : i.countdown.isSome = true)
    (free : k = .inhibited → withheld = false) : i.meets k withheld limit := by
  cases k <;> simp_all [Incident.meets, Incident.live]

theorem Incident.meets_held (l : i.live k limit) (st : i.state = .held) (c : k = .record → i.countdown.isSome = true)
    (free : k = .inhibited → withheld = false) (u : i.holdUsed < limit) : i.meets k withheld limit := by
  cases k <;> simp_all [Incident.meets, Incident.live]

theorem Incident.meets_selecting (l : i.live k limit) (st : i.state = .selecting)
    (c : k = .record → i.countdown = none)
    (entry : i.required.getD 0 ≤ i.total ∨ (i.flags.isPartial = true ∧ ¬ i.alloc = [])) : i.meets k withheld limit := by
  cases k <;> simp_all [Incident.meets, Incident.live]

/-- Outside COUNTDOWN and HELD no countdown runs (R61, R90). -/
theorem Incident.countdown_of_meets (m : i.meets k withheld limit) (n : ¬ (i.state = .countdown ∨ i.state = .held)) :
    k = .record → i.countdown = none := by
  rintro rfl
  cases c : i.countdown with
  | none => rfl
  | some _ => exact absurd (m.2.1 (by simp [c])) n

/-- A hall in COUNTDOWN or HELD is not withheld (R51). -/
theorem Incident.free_of_counting (m : i.meets k withheld limit) (c : i.state = .countdown ∨ i.state = .held) :
    k = .inhibited → withheld = false := by
  rintro rfl
  exact m.1 c

/-- A waiting hall that is withheld has spent its countdown (log entry 16). -/
theorem Incident.free_of_waiting (m : i.meets k withheld limit) (c : i.state = .waiting) :
    k = .inhibited → withheld = false ∨ i.flags.countdownSpent = true := by
  rintro rfl
  exact m.2 c

/-- The tenth that a stay in HELD still costs is within the budget (R90, R96). -/
theorem Incident.live_owed (m : i.meets k withheld limit) (st : i.state = .held) (x : Stay) (o : j.isOpen = i.isOpen)
    (u : j.holdUsed = i.holdUsed + x.owed) : j.live k limit := by
  cases k with
  | inhibited => trivial
  | hold =>
    have below := m.2 st
    show j.holdUsed ≤ limit
    unfold Stay.owed at u
    split at u <;> omega
  | entry => trivial
  | record => exact o.trans (m.1.2 (by simp [st]))

end

end Sys2Proof.Machine
end

section
/-! The laws of the records together with the wait list's: in the whole state, and in all but one hall, which a change of
that hall alone keeps (the frame of R51 to R61). -/

namespace Sys2Proof.Machine

/-! ## The laws in a state -/

/-- A hall's record meets a law. -/
def State.meets (k : RecordLaw) (s : State) (h : HallId) : Prop :=
  (s.inc h).meets k (s.withheld h) (10 * (s.hallPlan h).holdLimit)

/-- A hall's open record, in whatever state, is within a law. -/
def State.live (k : RecordLaw) (s : State) (h : HallId) : Prop := (s.inc h).live k (10 * (s.hallPlan h).holdLimit)

/-- The wait list's law (R75) and one law of the records. -/
structure State.Lawful (k : RecordLaw) (s : State) : Prop where
  ranked : s.waitList.Pairwise fun g h => s.ranksBefore g h = true
  waits : ∀ h, h ∈ s.waitList ↔ s.hallState h = .waiting
  meets : ∀ h, s.meets k h

/-- The same of all halls but one. -/
structure State.LawfulBut (k : RecordLaw) (h : HallId) (s : State) : Prop where
  ranked : (s.waitList.filter fun g => !(g == h)).Pairwise fun f g => s.ranksBefore f g = true
  waits : ∀ g, ¬ g = h → (g ∈ s.waitList ↔ s.hallState g = .waiting)
  meets : ∀ g, ¬ g = h → s.meets k g

/-- The law of the state that a name stands for. -/
def State.recordLaws (s : State) : RecordLaw → Prop
  | .inhibited => s.inhibitedLaw
  | .hold => s.holdLaw
  | .entry => s.entryLaw
  | .record => s.recordLaw

theorem State.lawful_iff (k : RecordLaw) (s : State) : s.Lawful k ↔ s.waitListLaw ∧ s.recordLaws k := by
  have meets : (∀ h, s.meets k h) ↔ s.recordLaws k := by cases k <;> exact Iff.rfl
  rw [← meets]
  exact ⟨fun w => ⟨⟨w.waits, w.ranked⟩, w.meets⟩, fun w => ⟨w.1.2, w.1.1, w.2⟩⟩

section
variable {k : RecordLaw} {h : HallId} {s t : State}

theorem State.Lawful.but (w : s.Lawful k) (h : HallId) : s.LawfulBut k h :=
  ⟨w.ranked.filter _, fun g _ => w.waits g, fun g _ => w.meets g⟩

theorem State.LawfulBut.lawful (a : s.LawfulBut k h) (ranked : s.waitList.Pairwise fun f g => s.ranksBefore f g = true)
    (waits : h ∈ s.waitList ↔ s.hallState h = .waiting) (own : s.meets k h) : s.Lawful k := by
  refine ⟨ranked, fun g => ?_, fun g => ?_⟩
  · by_cases e : g = h
    · exact e ▸ waits
    · exact a.waits g e
  · by_cases e : g = h
    · exact e ▸ own
    · exact a.meets g e

theorem State.filter_of_out (n : ¬ h ∈ s.waitList) : (s.waitList.filter fun g => !(g == h)) = s.waitList := by
  rw [List.filter_eq_self]
  intro g hg
  have : ¬ g = h := fun e => n (e ▸ hg)
  simpa using this

/-- A hall out of the wait list and not in WAITING completes the laws of the others. -/
theorem State.LawfulBut.lawful_of_out (a : s.LawfulBut k h) (n : ¬ h ∈ s.waitList) (st : ¬ s.hallState h = .waiting)
    (own : s.meets k h) : s.Lawful k :=
  a.lawful (State.filter_of_out n ▸ a.ranked) ⟨fun c => absurd c n, fun c => absurd c st⟩ own

/-! ## Changes of one hall -/

/-- The two states differ in hall `h` alone, as far as the laws can see. -/
structure State.Turns (h : HallId) (s t : State) : Prop where
  outer : t.outer = s.outer
  others : ∀ g, ¬ g = h → t.hall g = s.hall g
  waits : (t.waitList.filter fun g => !(g == h)) = s.waitList.filter fun g => !(g == h)

theorem State.Turns.trans {u : State} (a : State.Turns h s t) (b : State.Turns h t u) : State.Turns h s u :=
  ⟨b.outer.trans a.outer, fun g n => (b.others g n).trans (a.others g n), b.waits.trans a.waits⟩

theorem State.Turns.of_waitList (o : t.outer = s.outer) (e : ∀ g, ¬ h = g → t.hall g = s.hall g)
    (w : t.waitList = s.waitList) : State.Turns h s t := ⟨o, fun g n => e g fun c => n c.symm, by rw [w]⟩

theorem State.Turns.of_modHall (s : State) (h : HallId) (f : Hall → Hall) : State.Turns h s (s.modHall h f) :=
  .of_waitList (State.outer_modHall s h f) (fun _ n => State.hall_modHall_other s f n) rfl

theorem State.Turns.of_modInc (s : State) (h : HallId) (f : Incident → Incident) : State.Turns h s (s.modInc h f) :=
  State.Turns.of_modHall s h _

theorem State.withheld_of_outer (o : t.outer = s.outer) (g : HallId) : t.withheld g = s.withheld g := by
  unfold State.withheld State.isolated State.lockout State.closed State.contact
  rw [State.work_of_outer o, State.contacts_of_outer o]

theorem State.hallPlan_of_outer (o : t.outer = s.outer) (g : HallId) : t.hallPlan g = s.hallPlan g := by
  unfold State.hallPlan
  rw [State.work_of_outer o]

/-- A law of a record, where the plan, the flags and the contacts stand as they did. -/
theorem State.meets_of_outer (o : t.outer = s.outer) (g : HallId) :
    t.meets k g ↔ (t.inc g).meets k (s.withheld g) (10 * (s.hallPlan g).holdLimit) := by
  unfold State.meets
  rw [State.withheld_of_outer o, State.hallPlan_of_outer o]

theorem State.live_of_outer (o : t.outer = s.outer) (g : HallId) :
    t.live k g ↔ (t.inc g).live k (10 * (s.hallPlan g).holdLimit) := by
  unfold State.live
  rw [State.hallPlan_of_outer o]

theorem State.LawfulBut.turns (a : s.LawfulBut k h) (e : State.Turns h s t) : t.LawfulBut k h := by
  have inc (g : HallId) (n : ¬ g = h) : t.inc g = s.inc g := State.inc_of_hall (e.others g n)
  refine ⟨?_, fun g n => ?_, fun g n => ?_⟩
  · rw [e.waits]
    refine a.ranked.imp_of_mem ?_
    intro f g hf hg r
    have nf : ¬ f = h := by simpa using (List.mem_filter.1 hf).2
    have ng : ¬ g = h := by simpa using (List.mem_filter.1 hg).2
    rw [State.ranksBefore_congr (congrArg Incident.confNumber (inc f nf)) (congrArg Incident.confNumber (inc g ng))]
    exact r
  · have listed (l : List HallId) : g ∈ l ↔ g ∈ l.filter fun f => !(f == h) := by simp [n]
    rw [listed t.waitList, e.waits, ← listed, State.hallState, inc g n]
    exact a.waits g n
  · rw [State.meets_of_outer e.outer, inc g n]
    exact a.meets g n

/-! ## Changes that the laws do not see -/

/-- States with the same wait list, whose records agree in state and rank and meet the law, are lawful alike. -/
theorem State.Lawful.of_same (w : s.Lawful k) (l : t.waitList = s.waitList)
    (st : ∀ g, t.hallState g = s.hallState g) (rank : ∀ g, (t.inc g).confNumber = (s.inc g).confNumber)
    (meets : ∀ g, t.meets k g) : t.Lawful k := by
  refine ⟨?_, fun g => ?_, meets⟩
  · rw [l]
    exact w.ranked.imp fun {f g} r => (State.ranksBefore_congr (rank f) (rank g)).trans r
  · rw [l, st]
    exact w.waits g

/-- What the laws read of a state. -/
def State.lawSide (s : State) : PerHall Hall × List HallId × Plan × PerLine (PerLine Contact) :=
  (s.halls, s.waitList, s.work, s.contacts)

theorem State.Lawful.of_lawSide (w : s.Lawful k) (e : t.lawSide = s.lawSide) : t.Lawful k := by
  simp only [State.lawSide, Prod.mk.injEq] at e
  obtain ⟨halls, list, work, contacts⟩ := e
  have inc (g : HallId) : t.inc g = s.inc g := by
    unfold State.inc
    rw [halls]
  refine w.of_same list (fun g => congrArg Incident.state (inc g)) (fun g => congrArg Incident.confNumber (inc g))
    fun g => ?_
  have same := w.meets g
  unfold State.meets State.withheld State.isolated State.lockout State.closed State.contact State.hallPlan at same ⊢
  rw [inc, work, contacts]
  exact same

theorem State.Lawful.of_outer (w : s.Lawful k) (o : t.outer = s.outer) (e : t.halls = s.halls)
    (l : t.waitList = s.waitList) : t.Lawful k :=
  w.of_lawSide (by simp only [State.lawSide, e, l, State.work_of_outer o, State.contacts_of_outer o])

/-- One hall's records change in what the laws do not read. -/
theorem State.Lawful.turned (w : s.Lawful k) (e : State.Turns h s t) (l : t.waitList = s.waitList)
    (p : (t.inc h).lawPart = (s.inc h).lawPart)
    (f : (s.inc h).state = .selecting → (t.inc h).entryPart = (s.inc h).entryPart)
    (c : (t.inc h).confNumber = (s.inc h).confNumber) : t.Lawful k := by
  have other (g : HallId) (n : ¬ g = h) : t.inc g = s.inc g := State.inc_of_hall (e.others g n)
  refine w.of_same l (fun g => ?_) (fun g => ?_) fun g => ?_
  · by_cases n : g = h
    · exact n ▸ congrArg Prod.fst p
    · exact congrArg Incident.state (other g n)
  · by_cases n : g = h
    · exact n ▸ c
    · exact congrArg Incident.confNumber (other g n)
  · rw [State.meets_of_outer e.outer]
    by_cases n : g = h
    · exact n ▸ Incident.meets_of_same (w.meets h) p f
    · rw [other g n]
      exact w.meets g

theorem State.Lawful.modHall (w : s.Lawful k) (h : HallId) (f : Hall → Hall)
    (p : (f (s.hall h)).inc.lawPart = (s.inc h).lawPart)
    (e : (s.inc h).state = .selecting → (f (s.hall h)).inc.entryPart = (s.inc h).entryPart)
    (c : (f (s.hall h)).inc.confNumber = (s.inc h).confNumber) : (s.modHall h f).Lawful k :=
  w.turned (State.Turns.of_modHall s h f) rfl (by rw [State.inc_modHall_same]; exact p)
    (by rw [State.inc_modHall_same]; exact e) (by rw [State.inc_modHall_same]; exact c)

theorem State.Lawful.modInc (w : s.Lawful k) (h : HallId) (f : Incident → Incident)
    (p : (f (s.inc h)).lawPart = (s.inc h).lawPart)
    (e : (s.inc h).state = .selecting → (f (s.inc h)).entryPart = (s.inc h).entryPart)
    (c : (f (s.inc h)).confNumber = (s.inc h).confNumber) : (s.modInc h f).Lawful k := w.modHall h _ p e c

/-- A computation recorded for a hall that is not in SELECTING (R33). -/
theorem State.Lawful.withComputation (w : s.Lawful k) (n : ¬ s.hallState h = .selecting) :
    (s.withComputation h).Lawful k :=
  w.modInc h (fun i => i.computed (s.chooseLow h) (s.chooseHigh h) (s.computeRequired h)
    (decide (s.unspentPreference h < s.computeRequired h))) rfl (fun c => absurd c n) rfl

/-- Counting changes changes change numbers alone (R63). -/
theorem State.Lawful.countChanges (w : t.Lawful k) (s : State) : (State.countChanges s t).Lawful k := by
  have inc (g : HallId) : ((State.countChanges s t).inc g).content = (t.inc g).content := by
    show ((State.countChanges s t).hall g).inc.content = _
    rw [State.hall_countChanges, Hall.content_countChange]
    rfl
  refine w.of_same rfl (fun g => (congrArg Incident.state (inc g) :)) (fun g => (congrArg Incident.confNumber (inc g) :))
    fun g => ?_
  rw [State.meets_of_outer (State.outer_countChanges s t)]
  exact Incident.meets_of_same (w.meets g) (congrArg Incident.lawPart (inc g) :)
    fun _ => (congrArg Incident.entryPart (inc g) :)

theorem State.Lawful.asEvent {f : State → State} (w : (f s).Lawful k) : (s.asEvent f).Lawful k := w.countChanges s

theorem State.Lawful.foldl {α : Type} {f : State → α → State} (keeps : ∀ s x, s.Lawful k → (f s x).Lawful k)
    (w : s.Lawful k) (l : List α) : (l.foldl f s).Lawful k := by
  induction l generalizing s with
  | nil => exact w
  | cons x rest ih => exact ih (keeps s x w)

end

end Sys2Proof.Machine
end

section
/-! Attempts, entries and returns keep the laws of the records: a hall whose open record is within the law may be attempted
(R66 to R69), may wait (R76), and may go to any state that no law singles out. -/

namespace Sys2Proof.Machine

/-! ## A success (R54, R55, R68) -/

section
variable {k : RecordLaw} {h : HallId} {s t : State}

theorem State.total_committed (s : State) (h : HallId) (taken : List BankId) :
    (s.committed h taken).total = s.sumOf taken := by
  rw [State.committed_eq]
  exact State.entriesTotal_entriesFor s taken

/-- A success has the required quantity, or PARTIAL with at least one bank (R55, R68, R69). -/
theorem State.committed_meets_entry {taken : List BankId} (ok : s.attemptSucceeds h taken = true) :
    (s.committed h taken).required.getD 0 ≤ (s.committed h taken).total ∨
      ((s.committed h taken).flags.isPartial = true ∧ ¬ (s.committed h taken).alloc = []) := by
  have required : (s.committed h taken).required = some (s.computeRequired h) := by
    rw [State.committed_eq]
    rfl
  rw [required, State.total_committed]
  by_cases short : s.sumOf taken < s.computeRequired h
  · obtain met | ⟨-, -, some⟩ := (s.attemptSucceeds_iff h taken).1 ok
    · exact Or.inl met
    · refine Or.inr ?_
      rw [State.committed_eq]
      refine ⟨?_, ?_⟩
      · simp [Incident.allotted, short]
      · simpa [Incident.allotted, State.entriesFor] using some
  · exact Or.inl (Nat.le_of_not_lt short)

theorem State.Turns.of_succeeded (s : State) (h : HallId) (taken : List BankId) :
    State.Turns h s (s.succeeded h taken) := by
  refine ⟨State.outer_of_still (State.still_succeeded s h taken),
    fun g n => State.hall_succeeded_other s taken fun c => n c.symm, ?_⟩
  rw [State.waitList_succeeded]
  simp

/-- A hall that may be attempted and succeeds keeps the laws (R51, R55, R95). -/
theorem State.LawfulBut.succeeded (a : s.LawfulBut k h) (l : s.live k h)
    (free : k = .inhibited → s.withheld h = false ∨ (s.inc h).flags.countdownSpent = true) {taken : List BankId}
    (ok : s.attemptSucceeds h taken = true) : (s.succeeded h taken).Lawful k := by
  have turns := State.Turns.of_succeeded s h taken
  have opens : (s.committed h taken).isOpen = (s.inc h).isOpen := by rw [State.committed_eq]; rfl
  have used : (s.committed h taken).holdUsed = (s.inc h).holdUsed := by rw [State.committed_eq]; rfl
  refine (a.turns turns).lawful_of_out (by rw [State.waitList_succeeded]; simp)
    (HallState.ne_waiting_of_allots (State.hallState_succeeded s h taken)) ?_
  rw [State.meets_of_outer turns.outer]
  obtain ⟨-, e⟩ | ⟨unspent, -, e⟩ := State.succeeded_cases s h taken
  · have own : (s.succeeded h taken).inc h = { s.committed h taken with state := .selecting, countdown := none } := by
      rw [e, show ((s.afterCommit h taken).enterSelecting h).inc h = _ from
        congrArg Hall.inc (State.hall_enterSelecting_same _ h), State.inc_afterCommit]
    rw [own]
    exact Incident.meets_selecting (Incident.live_of_same l opens used) rfl (fun _ => rfl) (State.committed_meets_entry ok)
  · have own : (s.succeeded h taken).inc h =
        { s.committed h taken with
          state := (s.afterCommit h taken).countingState h
          countdown := some (10 * (s.afterCommit h taken).startDelay h) } := by
      rw [e, State.inc_modHall_same, ← State.inc_afterCommit]
      rfl
    have still : k = .inhibited → s.withheld h = false := fun c => (free c).resolve_right (by simp [unspent])
    rw [own]
    by_cases held : (s.afterCommit h taken).holdDemand h = true ∧ (s.afterCommit h taken).mayHold h = true
    · have below : (s.committed h taken).holdUsed < 10 * (s.hallPlan h).holdLimit := by
        have may := held.2
        unfold State.mayHold at may
        rw [State.inc_afterCommit] at may
        simp only [Bool.and_eq_true, decide_eq_true_eq] at may
        exact may.2
      exact Incident.meets_held (Incident.live_of_same l opens used) (if_pos held) (fun _ => rfl) still below
    · exact Incident.meets_counting (Incident.live_of_same l opens used) (if_neg held) rfl still

/-! ## A re-examination (R80) -/

theorem State.Lawful.ne_waiting_out (w : s.Lawful k) (n : ¬ s.hallState h = .waiting) : ¬ h ∈ s.waitList :=
  fun c => n ((w.waits h).1 c)

theorem State.Lawful.live (w : s.Lawful k) (n : ¬ s.hallState h = .quiet) : s.live k h :=
  Incident.live_of_meets (w.meets h) n

theorem State.Lawful.walkHalls (w : s.Lawful k) (l : List HallId) (once : l.Nodup)
    (waits : ∀ h, h ∈ l → s.hallState h = .waiting) (guarded : List BankId) :
    (State.walkHalls l guarded s).Lawful k := by
  induction l generalizing guarded s with
  | nil => exact w
  | cons h rest ih =>
    have st := waits h List.mem_cons_self
    have later (g : HallId) (hg : g ∈ rest) : (s.attempt h guarded).1.hallState g = .waiting := by
      have n : ¬ h = g := by
        rintro rfl
        exact (List.nodup_cons.1 once).1 hg
      rw [State.hallState_of_hall (State.hall_attempt_other s guarded n)]
      exact waits g (List.mem_cons_of_mem h hg)
    have kept : (s.attempt h guarded).1.Lawful k := by
      obtain ⟨ok, e⟩ | ⟨-, e⟩ := State.attempt_cases s h guarded <;> rw [e]
      · exact (w.but h).succeeded (w.live (by simp [st])) (Incident.free_of_waiting (w.meets h) st) ok
      · exact w.withComputation (by simp [st])
    exact ih kept (List.nodup_cons.1 once).2 later _

theorem State.Lawful.nodup_waitList (w : s.Lawful k) : s.waitList.Nodup :=
  w.ranked.imp fun {a b} r e => by
    rw [e, ranksBefore_irrefl] at r
    exact absurd r (by simp)

/-- A re-examination keeps the laws. -/
theorem State.Lawful.reexamine (w : s.Lawful k) : s.reexamine.Lawful k :=
  w.walkHalls s.waitList w.nodup_waitList (fun h => (w.waits h).1) []

/-! ## A hall between two states -/

/-- The laws hold of all other halls; hall `h` has an open record within the law and no place in the wait list, so it may
enter a state. -/
structure State.Unsettled (k : RecordLaw) (h : HallId) (s : State) : Prop where
  but : s.LawfulBut k h
  out : ¬ h ∈ s.waitList
  live : s.live k h

theorem State.Lawful.unsettled (w : s.Lawful k) (q : ¬ s.hallState h = .quiet) (n : ¬ s.hallState h = .waiting) :
    s.Unsettled k h := ⟨w.but h, w.ne_waiting_out n, w.live q⟩

theorem State.Unsettled.turns (p : s.Unsettled k h) (e : State.Turns h s t) (l : t.waitList = s.waitList)
    (o : (t.inc h).isOpen = (s.inc h).isOpen) (u : (t.inc h).holdUsed = (s.inc h).holdUsed) : t.Unsettled k h :=
  ⟨p.but.turns e, l ▸ p.out, (State.live_of_outer e.outer h).2 (Incident.live_of_same p.live o u)⟩

theorem State.Turns.of_leaveWaitList (s : State) (h : HallId) : State.Turns h s (s.leaveWaitList h) :=
  ⟨State.outer_leaveWaitList s h, fun _ _ => rfl, by simp [State.leaveWaitList]⟩

theorem State.Turns.of_returnAll (s : State) (h : HallId) : State.Turns h s (s.returnAll h) :=
  .of_waitList (State.outer_returnAll s h) (fun _ n => State.hall_returnAll_other s n) (State.waitList_returnAll s h)

theorem State.Unsettled.modHall (p : s.Unsettled k h) (f : Hall → Hall)
    (o : (f (s.hall h)).inc.isOpen = (s.inc h).isOpen) (u : (f (s.hall h)).inc.holdUsed = (s.inc h).holdUsed) :
    (s.modHall h f).Unsettled k h :=
  p.turns (State.Turns.of_modHall s h f) rfl (by rw [State.inc_modHall_same]; exact o)
    (by rw [State.inc_modHall_same]; exact u)

theorem State.Unsettled.modInc (p : s.Unsettled k h) (f : Incident → Incident)
    (o : (f (s.inc h)).isOpen = (s.inc h).isOpen) (u : (f (s.inc h)).holdUsed = (s.inc h).holdUsed) :
    (s.modInc h f).Unsettled k h := p.modHall _ o u

theorem State.Unsettled.returnAll (p : s.Unsettled k h) : (s.returnAll h).Unsettled k h :=
  p.turns (State.Turns.of_returnAll s h) (State.waitList_returnAll s h) (by rw [State.inc_returnAll]; rfl)
    (by rw [State.inc_returnAll]; rfl)

/-- The hall enters a state, where the record it has then meets the law. -/
theorem State.Unsettled.enters (p : s.Unsettled k h) (e : State.Turns h s t) (l : t.waitList = s.waitList)
    (n : ¬ t.hallState h = .waiting) (own : (t.inc h).meets k (s.withheld h) (10 * (s.hallPlan h).holdLimit)) :
    t.Lawful k :=
  (p.but.turns e).lawful_of_out (l ▸ p.out) n ((State.meets_of_outer e.outer h).2 own)

theorem HallState.plain_ne_waiting {x : HallState} (p : x.plain) : ¬ x = .waiting := by
  rintro rfl
  simp [HallState.plain] at p

/-- It may enter any state that no law singles out. -/
theorem State.Unsettled.enters_plain (p : s.Unsettled k h) (e : State.Turns h s t) (l : t.waitList = s.waitList)
    (st : (t.hallState h).plain) (c : k = .record → (t.inc h).countdown = none)
    (o : (t.inc h).isOpen = (s.inc h).isOpen) (u : (t.inc h).holdUsed = (s.inc h).holdUsed) : t.Lawful k :=
  p.enters e l (HallState.plain_ne_waiting st) (Incident.meets_plain (Incident.live_of_same p.live o u) st c)

theorem State.Unsettled.enterInhibited (p : s.Unsettled k h) : (s.enterInhibited h).Lawful k := by
  have own : (s.enterInhibited h).inc h = { s.inc h with state := .inhibited, countdown := none } :=
    State.inc_modInc_same s h _
  refine p.enters_plain (State.Turns.of_modInc s h _) rfl ?_ ?_ ?_ ?_
  · unfold State.hallState
    rw [own]
    exact Or.inr (Or.inl rfl)
  · exact fun _ => congrArg Incident.countdown own
  all_goals rw [own]

theorem State.Unsettled.enterSelecting (p : s.Unsettled k h)
    (entry : (s.inc h).required.getD 0 ≤ (s.inc h).total ∨ ((s.inc h).flags.isPartial = true ∧ ¬ (s.inc h).alloc = [])) :
    (s.enterSelecting h).Lawful k := by
  have own : (s.enterSelecting h).inc h = { s.inc h with state := .selecting, countdown := none } :=
    congrArg Hall.inc (State.hall_enterSelecting_same s h)
  refine p.enters (.of_waitList (State.outer_enterSelecting s h) (fun _ n => State.hall_enterSelecting_other s n)
    (State.waitList_enterSelecting s h)) (State.waitList_enterSelecting s h) ?_ ?_
  · rw [State.hallState_enterSelecting]
    simp
  · rw [own]
    exact Incident.meets_selecting (Incident.live_of_same p.live rfl rfl) rfl (fun _ => rfl) entry

theorem State.Unsettled.resumeCountdown (p : s.Unsettled k h) (free : k = .inhibited → s.withheld h = false) (n : Nat) :
    (s.resumeCountdown h n).Lawful k := by
  have own : (s.resumeCountdown h n).inc h = { s.inc h with state := .countdown, countdown := some n } :=
    State.inc_modHall_same s h _
  refine p.enters (State.Turns.of_modHall s h _) rfl ?_ ?_
  · rw [State.hallState_resumeCountdown]
    simp
  · rw [own]
    exact Incident.meets_counting (Incident.live_of_same p.live rfl rfl) rfl rfl free

/-- It may wait at its rank (R75, R76), where it is not withheld or has spent its countdown (log entry 16). -/
theorem State.Unsettled.enterWaiting (p : s.Unsettled k h)
    (free : k = .inhibited → s.withheld h = false ∨ (s.inc h).flags.countdownSpent = true) :
    (s.enterWaiting h).Lawful k := by
  have inc : (s.enterWaiting h).inc h = (s.hall h).waits.inc := congrArg Hall.inc (State.hall_enterWaiting s h)
  have list : (s.enterWaiting h).waitList =
      insertAt (fun g => (s.modHall h Hall.waits).ranksBefore g h) h s.waitList := by
    rw [State.enterWaiting_eq]
    unfold State.joinWaitList
    rw [if_neg (by simpa using p.out)]
    rfl
  have turns : State.Turns h s (s.enterWaiting h) :=
    ⟨State.outer_enterWaiting s h, fun g n => State.hall_enterWaiting_other s fun c => n c.symm,
      State.filter_joinWaitList (s.modHall h Hall.waits) h⟩
  have rank (t : State) (e : ∀ g, (t.inc g).confNumber = (s.inc g).confNumber) (f g : HallId) :
      t.ranksBefore f g = s.ranksBefore f g := State.ranksBefore_congr (e f) (e g)
  have marked (g : HallId) : ((s.modHall h Hall.waits).inc g).confNumber = (s.inc g).confNumber := by
    rw [State.inc_modHall]
    split
    · rename_i e
      rw [← e]
      rfl
    · rfl
  have joined (g : HallId) : ((s.enterWaiting h).inc g).confNumber = (s.inc g).confNumber := by
    rw [State.enterWaiting_eq, State.inc_of_hall (State.hall_of_halls (State.halls_joinWaitList _ _) g), marked]
  refine (p.but.turns turns).lawful ?_ ?_ ?_
  · simp only [list, rank _ joined, rank _ marked]
    exact insertAt_pairwise s h s.waitList p.out (State.filter_of_out p.out ▸ p.but.ranked)
  · unfold State.hallState
    rw [inc, list, mem_insertAt]
    exact ⟨fun _ => rfl, fun _ => Or.inl rfl⟩
  · rw [State.meets_of_outer turns.outer, inc]
    exact Incident.meets_waiting (Incident.live_of_same p.live rfl rfl) rfl rfl free

/-- A single attempt keeps the laws (R53, R73). -/
theorem State.Unsettled.singleAttempt (p : s.Unsettled k h)
    (free : k = .inhibited → s.withheld h = false ∨ (s.inc h).flags.countdownSpent = true) :
    (s.singleAttempt h).Lawful k := by
  obtain ⟨ok, e⟩ | ⟨-, e⟩ := State.singleAttempt_cases s h <;> rw [e]
  · exact p.but.succeeded p.live free ok
  · have q : (s.withComputation h).Unsettled k h :=
      p.modInc (fun i => i.computed (s.chooseLow h) (s.chooseHigh h) (s.computeRequired h)
        (decide (s.unspentPreference h < s.computeRequired h))) rfl rfl
    refine q.enterWaiting fun c => ?_
    have outer : (s.withComputation h).outer = s.outer := rfl
    rw [State.withheld_of_outer outer, show (s.withComputation h).inc h = _ from congrArg Hall.inc (s.hall_withComputation h)]
    exact free c

end

end Sys2Proof.Machine
end

section
/-! The events of a hall keep the laws of the records: confirmation and manual events, countdown and hold, isolation and
LOCKOUT, stand-down and retry, the wait limit. -/

namespace Sys2Proof.Machine

section
variable {k : RecordLaw} {h : HallId} {s t : State}

/-! ## Confirmation (R44, R49) -/

theorem State.Unsettled.recordConfirmation (p : s.Unsettled k h) (c : Cause) :
    (s.recordConfirmation h c).Unsettled k h := by
  have own : (s.recordConfirmation h c).inc h = { s.inc h with cause := some c, confNumber := some s.confCounter } :=
    State.inc_modHall_same s h fun x =>
      { x with inc := { x.inc with cause := some c, confNumber := some s.confCounter }, wait := some ⟨0, 0, false⟩ }
  refine p.turns (.of_waitList (State.outer_recordConfirmation s h c)
    (fun _ n => State.hall_recordConfirmation_other s c n) rfl) rfl ?_ ?_ <;> rw [own]

/-- A confirmation keeps the laws: it attempts just where the hall is not withheld (R49, R51). -/
theorem State.Unsettled.confirm (p : s.Unsettled k h) (c : Cause) : (s.confirm h c).Lawful k := by
  have q := p.recordConfirmation c
  unfold State.confirm
  dsimp only
  split
  · exact (q.modInc _ rfl rfl : (State.recordComputation _ h).Unsettled k h).enterInhibited
  · rename_i free
    exact q.singleAttempt fun _ => Or.inl (by simpa using free)

theorem State.Lawful.unsettled_openIncident (w : s.Lawful k) (q : s.hallState h = .quiet) :
    (s.openIncident h).Unsettled k h := by
  have own : (s.openIncident h).inc h = (s.inc h).opened := State.inc_modHall_same s h _
  have turns : State.Turns h s (s.openIncident h) := State.Turns.of_modHall s h _
  refine ⟨(w.but h).turns turns, w.ne_waiting_out (by simp [q]), ?_⟩
  rw [State.live_of_outer turns.outer, own]
  cases k with
  | inhibited => trivial
  | hold => exact Nat.zero_le _
  | entry => trivial
  | record => rfl

theorem State.Lawful.openOnAlarm (w : s.Lawful k) (h : HallId) : (s.openOnAlarm h).Lawful k := by
  unfold State.openOnAlarm
  split
  · rename_i c
    have p := w.unsettled_openIncident c.1
    have own : (s.openIncident h).inc h = (s.inc h).opened := State.inc_modHall_same s h _
    have turns : State.Turns h (s.openIncident h) (s.openIncident h) := ⟨rfl, fun _ _ => rfl, rfl⟩
    refine p.enters_plain turns rfl ?_ ?_ rfl rfl
    · unfold State.hallState
      rw [own]
      exact Or.inl rfl
    · exact fun _ => congrArg Incident.countdown own
  · exact w

theorem State.Lawful.testConfirmation (w : s.Lawful k) (h : HallId) : (s.testConfirmation h).Lawful k := by
  unfold State.testConfirmation
  split
  · rename_i st
    split
    · exact (w.unsettled (by simp [st]) (by simp [st])).confirm _
    · exact w
  · exact w

/-! ## Countdown and hold (chapter 5) -/

theorem State.Lawful.modFlags (w : s.Lawful k) (h : HallId) (f : Flags → Flags)
    (c : (f (s.inc h).flags).countdownSpent = (s.inc h).flags.countdownSpent)
    (p : (f (s.inc h).flags).isPartial = (s.inc h).flags.isPartial) : (s.modFlags h f).Lawful k :=
  w.modInc h (fun i => { i with flags := f i.flags }) (by simp [Incident.lawPart, c])
    (fun _ => by simp [Incident.entryPart, p]) rfl

theorem State.Unsettled.modFlags (p : s.Unsettled k h) (f : Flags → Flags) : (s.modFlags h f).Unsettled k h :=
  p.modInc (fun i => { i with flags := f i.flags }) rfl rfl

/-- What a hall in COUNTDOWN or HELD is to the laws. -/
theorem State.Lawful.counting (w : s.Lawful k) (st : s.hallState h = .countdown ∨ s.hallState h = .held) :
    s.Unsettled k h ∧ (k = .inhibited → s.withheld h = false) :=
  ⟨w.unsettled (by obtain e | e := st <;> simp [e]) (by obtain e | e := st <;> simp [e]),
    Incident.free_of_counting (w.meets h) st⟩

/-- A stay in HELD ends within the budget (R90, R96). -/
theorem State.Lawful.unsettled_leaveHeld (w : s.Lawful k) (q : ¬ s.hallState h = .quiet)
    (n : ¬ s.hallState h = .waiting) : (s.leaveHeld h).Unsettled k h := by
  unfold State.leaveHeld
  split
  · rename_i st
    have own : ((s.modHall h fun x => { x with inc := { x.inc with holdUsed := x.inc.holdUsed + x.stay.owed } }).inc h) =
        { s.inc h with holdUsed := (s.inc h).holdUsed + (s.hall h).stay.owed } := State.inc_modHall_same s h _
    refine ⟨(w.but h).turns (State.Turns.of_modHall s h _), w.ne_waiting_out n, ?_⟩
    rw [State.live_of_outer (State.outer_modHall s h _), own]
    exact Incident.live_owed (w.meets h) st (s.hall h).stay rfl rfl
  · exact w.unsettled q n

theorem State.Unsettled.returned_enterWaiting (p : s.Unsettled k h) :
    (((s.setCountdownSpent h).returnAll h).enterWaiting h).Lawful k := by
  have marked : (s.setCountdownSpent h).Unsettled k h := p.modFlags _
  refine marked.returnAll.enterWaiting fun _ => Or.inr ?_
  rw [State.inc_returnAll, State.setCountdownSpent, State.inc_modFlags, if_pos rfl]
  rfl

/-- A countdown expires into SELECTING with R55's condition, or into WAITING with its countdown spent (R102, R103). -/
theorem State.Lawful.countdownExpires (w : s.Lawful k) (st : s.hallState h = .countdown) :
    (s.countdownExpires h).Lawful k := by
  have p := (w.counting (Or.inl st)).1
  have back : (s.expireToWaiting h).Lawful k := p.returned_enterWaiting.reexamine
  unfold State.countdownExpires
  split
  · exact back
  · rename_i some
    split
    · rename_i met
      refine p.enterSelecting (Or.inl ?_)
      exact Nat.le_of_not_lt fun c => by simp [State.falling, State.recordedRequired, c] at met
    · split
      · have marked : (s.setPartial h).Unsettled k h := p.modFlags _
        have own : (s.setPartial h).inc h = { s.inc h with flags := { (s.inc h).flags with isPartial := true } } := by
          rw [State.setPartial, State.inc_modFlags, if_pos rfl]
        refine marked.enterSelecting (Or.inr ?_)
        rw [own]
        exact ⟨rfl, by simpa using some⟩
      · exact back

theorem State.Lawful.takeCountdownExpiry (w : s.Lawful k) (h : HallId) : (s.takeCountdownExpiry h).Lawful k := by
  unfold State.takeCountdownExpiry
  split
  · rename_i st
    exact w.countdownExpires st
  · exact w

theorem State.Lawful.holdBegins (w : s.Lawful k) (h : HallId) : (s.holdBegins h).Lawful k := by
  unfold State.holdBegins
  split
  · rename_i c
    obtain ⟨p, free⟩ := w.counting (Or.inl c.1)
    have own : (s.enterHeld h).inc h = { s.inc h with state := .held } := State.inc_modHall_same s h _
    have below : (s.inc h).holdUsed < 10 * (s.hallPlan h).holdLimit := by
      have may := c.2
      unfold State.mayHold at may
      simp only [Bool.and_eq_true, decide_eq_true_eq] at may
      exact may.2
    refine p.enters (State.Turns.of_modHall s h _) rfl ?_ ?_
    · unfold State.hallState
      rw [own]
      simp
    · rw [own]
      refine Incident.meets_held (Incident.live_of_same p.live rfl rfl) rfl (fun e => ?_) free below
      subst e
      exact (w.meets h).2.2 (Or.inl c.1)
  · exact w

theorem State.withheld_leaveHeld (s : State) (h : HallId) : (s.leaveHeld h).withheld h = s.withheld h :=
  State.withheld_of_outer (State.outer_leaveHeld s h) h

theorem State.Lawful.holdEnds (w : s.Lawful k) (h : HallId) : (s.holdEnds h).Lawful k := by
  unfold State.holdEnds
  split
  · rename_i st
    have p : (s.leaveHeld h).Unsettled k h := w.unsettled_leaveHeld (by simp [st]) (by simp [st])
    exact p.resumeCountdown (State.withheld_leaveHeld s h ▸ (w.counting (Or.inr st)).2) _
  · exact w

theorem State.Lawful.demandMoved (w : s.Lawful k) (h : HallId) (before : Bool) : (s.demandMoved h before).Lawful k := by
  unfold State.demandMoved
  split
  · exact w.holdBegins h
  · split
    · exact w.holdEnds h
    · exact w

/-- The override leaves hold used at the limit (R96, R98). -/
theorem State.Lawful.takeBudgetOverride (w : s.Lawful k) (h : HallId) : (s.takeBudgetOverride h).Lawful k := by
  unfold State.takeBudgetOverride
  split
  · rename_i st
    have free := (w.counting (Or.inr st)).2
    have full : (s.modInc h fun i => { i with holdUsed := 10 * (s.hallPlan h).holdLimit }).Unsettled k h := by
      refine ⟨(w.but h).turns (State.Turns.of_modInc s h _), w.ne_waiting_out (by simp [st]), ?_⟩
      rw [State.live_of_outer (State.outer_modInc s h _), State.inc_modInc_same]
      cases k with
      | inhibited => trivial
      | hold => exact Nat.le_refl _
      | entry => trivial
      | record => exact (w.meets h).1.2 (by rw [← State.hallState, st]; simp)
    have outer : ((s.modInc h fun i => { i with holdUsed := 10 * (s.hallPlan h).holdLimit }).setHoldOverridden h).outer
        = s.outer := by simp
    have q : ((s.modInc h fun i => { i with holdUsed := 10 * (s.hallPlan h).holdLimit }).setHoldOverridden h).Unsettled k h :=
      full.modFlags _
    exact q.resumeCountdown (State.withheld_of_outer outer h ▸ free) _
  · exact w

/-! ## Manual events (R45, R99) -/

theorem State.Lawful.setManualSeen (w : s.Lawful k) (h : HallId) : (s.setManualSeen h).Lawful k :=
  w.modInc h (fun i => { i with manualSeen := true }) rfl (fun _ => rfl) rfl

theorem State.Lawful.manualRelease (w : s.Lawful k) (st : s.hallState h = .countdown ∨ s.hallState h = .held) :
    (s.manualRelease h).Lawful k := by
  have marked : ((s.setManualSeen h).setManualOverride h).Lawful k :=
    (w.setManualSeen h).modFlags h (fun f => { f with manualOverride := true }) rfl rfl
  have outer : (((s.setManualSeen h).setManualOverride h).leaveHeldByManual h).outer = s.outer := by simp
  have same : ((s.setManualSeen h).setManualOverride h).hallState h = s.hallState h :=
    (State.hallState_modFlags _ h _).trans (State.hallState_modInc s h rfl)
  have left : (((s.setManualSeen h).setManualOverride h).leaveHeldByManual h).Unsettled k h := by
    unfold State.leaveHeldByManual
    have q : ¬ ((s.setManualSeen h).setManualOverride h).hallState h = .quiet := by
      obtain e | e := st <;> simp [same, e]
    have n : ¬ ((s.setManualSeen h).setManualOverride h).hallState h = .waiting := by
      obtain e | e := st <;> simp [same, e]
    split
    · exact marked.unsettled q n
    · exact marked.unsettled_leaveHeld q n
  have released (n : Nat) := left.resumeCountdown (State.withheld_of_outer outer h ▸ (w.counting st).2) n
  unfold State.manualRelease
  dsimp only
  split
  · exact (released _).countdownExpires (State.hallState_resumeCountdown _ h _)
  · exact released _

theorem State.Lawful.manualEvent (w : s.Lawful k) (h : HallId) (c : Cause) : (s.manualEvent h c).Lawful k := by
  have seen : (s.setManualSeen h).Lawful k := w.setManualSeen h
  unfold State.manualEvent
  cases st : s.hallState h
  case quiet => exact ((w.unsettled_openIncident st).modInc (fun i => { i with manualSeen := true }) rfl rfl).confirm c
  case alert =>
    exact ((w.unsettled (by simp [st]) (by simp [st])).modInc (fun i => { i with manualSeen := true }) rfl rfl).confirm c
  case countdown => exact w.manualRelease (Or.inl st)
  case held => exact w.manualRelease (Or.inr st)
  all_goals exact seen

theorem State.Lawful.takeZones (w : s.Lawful k) (h : HallId) : (s.takeZones h).Lawful k := by
  have opened := w.openOnAlarm h
  have latched : ((s.openOnAlarm h).latchZones h).Lawful k :=
    opened.modInc h (fun i =>
      { i with latched := latchInto ((s.openOnAlarm h).hall h).clock.secs i.latched ((s.openOnAlarm h).zones h) })
      rfl (fun _ => rfl) rfl
  unfold State.takeZones
  dsimp only
  split
  · exact opened
  · split
    · exact latched.manualEvent h _
    · exact latched.testConfirmation h

/-! ## Isolation and LOCKOUT (R51, R52) -/

/-- Isolation or LOCKOUT comes into force: what the hall met without it suffices. -/
theorem State.LawfulBut.withholdBegins (a : s.LawfulBut k h) (waits : h ∈ s.waitList ↔ s.hallState h = .waiting)
    {held : Bool} (own : (s.inc h).meets k held (10 * (s.hallPlan h).holdLimit)) (late : Bool) :
    (s.withholdBegins h late).Lawful k := by
  have out (n : ¬ s.hallState h = .waiting) : ¬ h ∈ s.waitList := fun c => n (waits.1 c)
  have kept (n : ¬ s.hallState h = .waiting) (c : ¬ (s.hallState h = .countdown ∨ s.hallState h = .held)) : s.Lawful k :=
    a.lawful_of_out (out n) n (Incident.meets_withheld own n c _)
  have marked (n : ¬ s.hallState h = .waiting) (c : ¬ (s.hallState h = .countdown ∨ s.hallState h = .held)) :
      (if late = true then s.setLateLockout h else s).Lawful k := by
    split
    · exact (kept n c).modFlags h (fun f => { f with lateLockout := true }) rfl rfl
    · exact kept n c
  have live (q : ¬ s.hallState h = .quiet) : s.live k h := Incident.live_of_meets own q
  unfold State.withholdBegins
  cases st : s.hallState h
  case waiting =>
    have p : (s.leaveWaitList h).Unsettled k h :=
      ⟨a.turns (State.Turns.of_leaveWaitList s h), by simp [State.leaveWaitList], live (by simp [st])⟩
    exact p.enterInhibited.reexamine
  case countdown =>
    have p : s.Unsettled k h := ⟨a, out (by simp [st]), live (by simp [st])⟩
    exact p.returnAll.enterInhibited.reexamine
  case held =>
    have p : (s.leaveHeld h).Unsettled k h := by
      unfold State.leaveHeld
      rw [if_pos st]
      refine ⟨a.turns (State.Turns.of_modHall s h _), out (by simp [st]), ?_⟩
      rw [State.live_of_outer (State.outer_modHall s h _), State.inc_modHall_same]
      exact Incident.live_owed own st (s.hall h).stay rfl rfl
    exact p.returnAll.enterInhibited.reexamine
  case selecting => exact marked (by simp [st]) (by simp [st])
  case discharging => exact marked (by simp [st]) (by simp [st])
  case soak => exact marked (by simp [st]) (by simp [st])
  all_goals exact kept (by simp [st]) (by simp [st])

theorem State.Lawful.withholdEnds (w : s.Lawful k) (h : HallId) : (s.withholdEnds h).Lawful k := by
  unfold State.withholdEnds
  split
  · rename_i c
    exact (w.unsettled (by simp [c.1]) (by simp [c.1])).singleAttempt fun _ => Or.inl c.2
  · exact w

/-! ## Stand-down, retry, the wait limit (R58, R60, R70) -/

theorem State.Lawful.standDown (w : s.Lawful k) (h : HallId) : (s.standDown h).Lawful k := by
  unfold State.standDown
  split
  · exact w
  · have turns : State.Turns h s ((((s.leaveHeld h).leaveWaitList h).returnAll h).closeIncident h) :=
      (((State.Turns.of_waitList (State.outer_leaveHeld s h) (fun _ n => State.hall_leaveHeld_other s n)
        (by unfold State.leaveHeld; split <;> rfl)).trans (State.Turns.of_leaveWaitList _ h)).trans
        (State.Turns.of_returnAll _ h)).trans (State.Turns.of_modHall _ h _)
    have own := State.inc_modHall_same (((s.leaveHeld h).leaveWaitList h).returnAll h) h fun x =>
      { x with
        inc := { x.inc with closing := some (closingOf x.inc.state), isOpen := false, state := .quiet, countdown := none }
        wait := none
        stay := ⟨0, false⟩ }
    have out : ¬ h ∈ ((((s.leaveHeld h).leaveWaitList h).returnAll h).closeIncident h).waitList := by
      show ¬ h ∈ (((s.leaveHeld h).leaveWaitList h).returnAll h).waitList
      rw [State.waitList_returnAll]
      simp [State.leaveWaitList]
    refine (((w.but h).turns turns).lawful_of_out out ?_ ?_).reexamine
    · rw [State.closeIncident, State.hallState, own]
      simp
    · rw [State.meets_of_outer turns.outer, State.closeIncident, own]
      exact Incident.meets_quiet rfl rfl rfl

theorem State.Lawful.retry (w : s.Lawful k) (st : s.hallState h = .stalled) : (s.retry h).Lawful k := by
  have p := w.unsettled (h := h) (by simp [st]) (by simp [st])
  unfold State.retry
  split
  · exact p.enterInhibited
  · rename_i free
    exact p.singleAttempt fun _ => Or.inl (by simpa using free)

theorem State.Lawful.takeWaitLimit (w : s.Lawful k) (h : HallId) : (s.takeWaitLimit h).Lawful k := by
  unfold State.takeWaitLimit
  split
  · exact w
  · split
    · exact w
    · exact (w.modHall h _ rfl (fun _ => rfl) rfl).reexamine

end

end Sys2Proof.Machine
end

section
/-! Releases and withdrawals keep the laws of the records (chapters 4 and 6): of a hall in SELECTING a withdrawal leaves
enough, or PARTIAL with a bank, or no release at all (R55, R85). -/

namespace Sys2Proof.Machine

section
variable {k : RecordLaw} {h : HallId} {s t : State}

/-! ## The release (chapter 6) -/

@[simp] theorem State.waitList_fillSlots (s : State) : s.fillSlots.waitList = s.waitList := by
  rw [State.fillSlots_eq]

theorem State.waitList_enterDischarging (s : State) (h : HallId) : (s.enterDischarging h).waitList = s.waitList := by
  rw [State.enterDischarging_shape]

theorem State.Unsettled.enterDischarging (p : s.Unsettled k h) (c : k = .record → (s.inc h).countdown = none) :
    (s.enterDischarging h).Lawful k := by
  have own : (s.enterDischarging h).inc h = { s.inc h with state := .discharging } :=
    congrArg Hall.inc (State.hall_enterDischarging s h)
  refine p.enters_plain (.of_waitList (State.outer_enterDischarging s h)
    (fun _ n => State.hall_enterDischarging_other s n) (State.waitList_enterDischarging s h))
    (State.waitList_enterDischarging s h) ?_ ?_ ?_ ?_
  · unfold State.hallState
    rw [own]
    exact Or.inr (Or.inr (Or.inl rfl))
  all_goals rw [own]
  exact c

/-- A hall in SELECTING may enter any state; its countdown has ended. -/
theorem State.Lawful.selecting (w : s.Lawful k) (st : s.hallState h = .selecting) :
    s.Unsettled k h ∧ (k = .record → (s.inc h).countdown = none) :=
  ⟨w.unsettled (by simp [st]) (by simp [st]), Incident.countdown_of_meets (w.meets h) (by rw [← State.hallState]; simp [st])⟩

theorem State.Lawful.provenCloses (w : s.Lawful k) (m : ManId) (h : HallId) : (s.provenCloses m h).Lawful k := by
  have proved : ((s.modSelector m h fun x => { x with proven := true }).modMan m Manifold.stopSelectorTimer).Lawful k :=
    w.of_lawSide rfl
  unfold State.provenCloses
  split
  · dsimp only
    split
    · rename_i c
      obtain ⟨p, ended⟩ := proved.selecting c.1
      exact p.enterDischarging ended
    · exact proved
  · exact w

theorem State.Lawful.provenOpens (w : s.Lawful k) (m : ManId) (h : HallId) : (s.provenOpens m h).Lawful k := by
  unfold State.provenOpens
  split
  · split
    · exact w.modFlags _ (fun f => { f with selectorLost := true }) rfl rfl
    · exact w
  · exact w

/-- A hall in SELECTING is STALLED (R110). -/
theorem State.Lawful.stall (w : s.Lawful k) (st : s.hallState h = .selecting) : (s.stall h).Lawful k := by
  obtain ⟨p, ended⟩ := w.selecting st
  have q := p.returnAll
  have own : ((s.returnAll h).modInc h fun i => { i with state := .stalled }).inc h =
      { (s.returnAll h).inc h with state := .stalled } := State.inc_modInc_same _ h _
  refine State.Lawful.reexamine (q.enters_plain (State.Turns.of_modInc _ h _) rfl ?_ ?_ ?_ ?_)
  · unfold State.hallState
    rw [own]
    simp [HallState.plain]
  · rw [own, State.inc_returnAll]
    exact ended
  all_goals rw [own]

theorem State.Lawful.takeSelectorTimeout (w : s.Lawful k) (m : ManId) : (s.takeSelectorTimeout m).Lawful k := by
  unfold State.takeSelectorTimeout
  split
  · split
    · rename_i st
      exact w.stall st
    · exact w
  · exact w

theorem State.lawSide_completeWrite (s : State) : s.completeWrite.lawSide = s.lawSide := by
  obtain ⟨-, e⟩ | ⟨w, -, -, e⟩ | ⟨w, b, rest, -, -, e⟩ := State.completeWrite_cases s <;> rw [e] <;> rfl

theorem State.lawSide_pulseBegins (s : State) (b : BankId) : (s.pulseBegins b).lawSide = s.lawSide := by
  obtain ⟨-, e⟩ | ⟨i, -, -, e⟩ := State.pulseBegins_cases s b <;> rw [e]
  rfl

theorem State.Lawful.takeMarkCompletion (w : s.Lawful k) : s.takeMarkCompletion.Lawful k := by
  unfold State.takeMarkCompletion
  split
  · exact w.of_lawSide ((State.lawSide_pulseBegins _ _).trans (State.lawSide_completeWrite s))
  · exact w

theorem State.Lawful.takeWriteCompletion (w : s.Lawful k) : s.takeWriteCompletion.Lawful k := by
  unfold State.takeWriteCompletion
  split
  · exact w
  · exact w
  · exact w.of_lawSide (State.lawSide_completeWrite s)

theorem State.Lawful.startDischarge (w : s.Lawful k) (b : BankId) : (s.startDischarge b).Lawful k := by
  unfold State.startDischarge
  split
  · exact w
  · split
    · exact w.modHall _ _ rfl (fun _ => rfl) rfl
    · exact w

theorem State.Lawful.takePulseEnd (w : s.Lawful k) (i : SlotId) : (s.takePulseEnd i).Lawful k := by
  unfold State.takePulseEnd
  split
  · rename_i b ms _
    have ended : (((s.setInitiator b false).clearDriven (.bank b)).setSlot i .empty).Lawful k := w.of_lawSide rfl
    exact (ended.startDischarge b).of_outer (State.outer_fillSlots _) (State.halls_fillSlots _)
      (State.waitList_fillSlots _)
  · exact w
  · exact w

theorem State.Lawful.flowCloses (w : s.Lawful k) (m : ManId) : (s.flowCloses m).Lawful k := by
  unfold State.flowCloses
  split
  · exact w.of_lawSide rfl
  · exact w

theorem State.Lawful.takeFlowTimeout (w : s.Lawful k) (m : ManId) : (s.takeFlowTimeout m).Lawful k := by
  unfold State.takeFlowTimeout
  split
  · rename_i g x _ _
    have stopped : (s.modMan m fun x => { x with timer := .stopped }).Lawful k := w.of_lawSide rfl
    exact stopped.modFlags g (fun f => { f with noFlow := true }) rfl rfl
  · exact w

theorem State.Lawful.takeDischargeExpiry (w : s.Lawful k) (h : HallId) : (s.takeDischargeExpiry h).Lawful k := by
  rw [State.takeDischargeExpiry_eq]
  split
  · rename_i c
    obtain ⟨missed, own, -⟩ := State.hall_soaked s h
    have inc := congrArg Hall.inc own
    have ended := Incident.countdown_of_meets (w.meets h) (by rw [← State.hallState]; simp [c.1])
    refine (w.unsettled (h := h) (by simp [c.1]) (by simp [c.1])).enters_plain
      (.of_waitList (State.outer_of_still (State.still_soaked s h)) (fun _ n => State.hall_soaked_other s n)
        (State.waitList_soaked s h)) (State.waitList_soaked s h) ?_ ?_ ?_ ?_
    · rw [State.hallState, show (s.soaked h).inc h = _ from inc]
      simp [HallState.plain]
    all_goals rw [show (s.soaked h).inc h = _ from inc]
    exact ended
  · exact w

theorem State.Lawful.dischargedIfDone (w : s.Lawful k) (h : HallId) : (s.dischargedIfDone h).Lawful k := by
  unfold State.dischargedIfDone
  split
  · rename_i c
    have own : (s.modInc h fun i => { i with state := .discharged }).inc h = { s.inc h with state := .discharged } :=
      State.inc_modInc_same s h _
    have ended := Incident.countdown_of_meets (w.meets h) (by rw [← State.hallState]; simp [c.1])
    refine (w.unsettled (h := h) (by simp [c.1]) (by simp [c.1])).enters_plain (State.Turns.of_modInc s h _) rfl ?_ ?_ ?_ ?_
    · rw [State.hallState, own]
      simp [HallState.plain]
    all_goals rw [own]
    exact ended
  · exact w

theorem State.Lawful.takeVentExpiry (w : s.Lawful k) (m : ManId) : (s.takeVentExpiry m).Lawful k := by
  unfold State.takeVentExpiry
  split
  · rename_i g x _ _
    have freed : (s.freeManifold m).Lawful k :=
      w.of_outer (State.outer_freeManifold s m) (State.halls_freeManifold s m) (State.waitList_freeManifold s m)
    exact (freed.dischargedIfDone g).reexamine
  · exact w

/-! ## Withdrawal and replacement (R82 to R85) -/

/-- Manifolds settled and the estimate recorded: the laws do not see it (R16, R35). -/
theorem State.inc_settleAllocation (s : State) (h : HallId) :
    ((s.settleAllocation h).inc h).lawPart = (s.inc h).lawPart ∧
      ((s.settleAllocation h).inc h).entryPart = (s.inc h).entryPart := by
  have own : (s.settleAllocation h).inc h =
      (s.inc h).estimated ((s.emptied h).estimateFor h ((s.emptied h).inc h).alloc) ((s.emptied h).hallPlan h).maximum := by
    rw [State.settleAllocation_eq, State.inc_modInc_same, State.inc_of_hall (State.hall_emptied s h h)]
  rw [own]
  exact ⟨rfl, rfl⟩

theorem State.waitList_settleAllocation (s : State) (h : HallId) : (s.settleAllocation h).waitList = s.waitList := by
  rw [State.settleAllocation_eq]
  exact State.waitList_emptied s h

theorem State.Unsettled.settleAllocation (p : s.Unsettled k h) : (s.settleAllocation h).Unsettled k h := by
  have own := (s.inc_settleAllocation h).1
  simp only [Incident.lawPart, Prod.mk.injEq] at own
  exact p.turns (.of_waitList (State.outer_settleAllocation s h) (fun _ n => State.hall_settleAllocation_other s n)
    (State.waitList_settleAllocation s h)) (State.waitList_settleAllocation s h) own.2.1 own.2.2.1

/-- A release in SELECTING goes on where R55's condition holds (R85). -/
theorem State.Unsettled.goOn (p : s.Unsettled k h) (st : s.hallState h = .selecting)
    (c : k = .record → (s.inc h).countdown = none)
    (entry : (s.inc h).required.getD 0 ≤ (s.inc h).total ∨ ((s.inc h).flags.isPartial = true ∧ ¬ (s.inc h).alloc = [])) :
    (s.goOn h).Lawful k := by
  obtain ⟨part, enough⟩ := s.inc_settleAllocation h
  have ended : k = .record → ((s.settleAllocation h).inc h).countdown = none := by
    intro e
    simp only [Incident.lawPart, Prod.mk.injEq] at part
    simpa [c e] using part.2.2.2.1
  unfold State.goOn
  dsimp only
  split
  · exact p.settleAllocation.enterDischarging ended
  · have turns : State.Turns h s (s.settleAllocation h) :=
      .of_waitList (State.outer_settleAllocation s h) (fun _ n => State.hall_settleAllocation_other s n)
        (State.waitList_settleAllocation s h)
    refine p.enters turns (State.waitList_settleAllocation s h) ?_ ?_
    · rw [State.hallState_settleAllocation, st]
      simp
    · exact Incident.meets_of_same (Incident.meets_selecting p.live st c entry) part fun _ => enough

/-- The outcome of a withdrawal in SELECTING keeps the laws (R85). -/
theorem State.Unsettled.shortfallInSelecting (p : s.Unsettled k h) (st : s.hallState h = .selecting)
    (c : k = .record → (s.inc h).countdown = none) : (s.shortfallInSelecting h).Lawful k := by
  unfold State.shortfallInSelecting
  split
  · rename_i met
    exact p.goOn st c (Or.inl (Nat.le_of_not_lt fun x => by simp [State.falling, State.recordedRequired, x] at met))
  · have marked : (s.setShortfall h).Unsettled k h := p.modFlags _
    split
    · rename_i some
      have own : ((s.setShortfall h).setPartial h).inc h =
          { s.inc h with flags := { (s.inc h).flags with shortfall := true, isPartial := true } } := by
        rw [State.setPartial, State.inc_modFlags, if_pos rfl, State.setShortfall, State.inc_modFlags, if_pos rfl]
      have q : ((s.setShortfall h).setPartial h).Unsettled k h := marked.modFlags _
      refine q.goOn ?_ ?_ (Or.inr ?_)
      · rw [State.hallState, own]
        exact st
      · rw [own]
        exact c
      · rw [own]
        exact ⟨rfl, by simpa using (Bool.and_eq_true_iff.1 some).1⟩
    · exact marked.returned_enterWaiting

/-- Outside SELECTING a withdrawal changes what the laws do not see (R84). -/
theorem State.Lawful.shortfallInCountdown (w : s.Lawful k) (h : HallId) : (s.shortfallInCountdown h).Lawful k := by
  have settled : (s.settleAllocation h).Lawful k := by
    rw [State.settleAllocation_eq]
    have emptied : (s.emptied h).Lawful k :=
      w.of_outer (State.outer_of_still (State.still_emptied s h)) (by simp [State.emptied]) (State.waitList_emptied s h)
    exact emptied.modInc h _ rfl (fun _ => rfl) rfl
  unfold State.shortfallInCountdown
  dsimp only
  split
  · exact settled.modFlags h (fun f => { f with shortfall := true }) rfl rfl
  · exact settled

/-- The state with a hall's unfit banks dropped and replaced (R82, steps 1 and 2). -/
def State.refilled (s : State) (h : HallId) (mine : List BankId) : State := (s.dropUnfit h mine).replace h mine

theorem State.inc_refilled (s : State) (h : HallId) (mine : List BankId) :
    (s.refilled h mine).inc h = { s.inc h with alloc := ((s.refilled h mine).inc h).alloc } := by
  have dropped := congrArg Hall.inc (State.hall_dropUnfit s h mine)
  have own := congrArg Hall.inc (State.hall_replace (s.dropUnfit h mine) h mine)
  rw [show (s.refilled h mine).inc h = _ from own, show (s.dropUnfit h mine).inc h = _ from dropped]

theorem State.Turns.of_refilled (s : State) (h : HallId) (mine : List BankId) : State.Turns h s (s.refilled h mine) :=
  .of_waitList ((State.outer_replace _ h _).trans (State.outer_dropUnfit s h _))
    (fun _ n => (State.hall_replace_other _ _ n).trans (State.hall_dropUnfit_other s _ n)) rfl

theorem State.Lawful.withdrawHall (w : s.Lawful k) (unfit : List BankId) (h : HallId) :
    (State.withdrawHall unfit s h).Lawful k := by
  have shape : State.withdrawHall unfit s h =
      if s.hallState h = .selecting then (s.refilled h (s.unfitOf h unfit)).shortfallInSelecting h
      else (s.refilled h (s.unfitOf h unfit)).shortfallInCountdown h := rfl
  have own := s.inc_refilled h (s.unfitOf h unfit)
  have turns := State.Turns.of_refilled s h (s.unfitOf h unfit)
  have list : (s.refilled h (s.unfitOf h unfit)).waitList = s.waitList := rfl
  rw [shape]
  generalize s.refilled h (s.unfitOf h unfit) = t at *
  split
  · rename_i st
    obtain ⟨p, ended⟩ := w.selecting st
    refine (p.turns turns list (by rw [own]) (by rw [own])).shortfallInSelecting ?_ ?_
    · rw [State.hallState, own]
      exact st
    · rw [own]
      exact ended
  · rename_i n
    exact (w.turned turns list (by rw [own]; rfl) (fun c => absurd c n) (by rw [own])).shortfallInCountdown h

/-- A withdrawal keeps the laws (R82). -/
theorem State.Lawful.withdraw (w : s.Lawful k) (unfit : List BankId) : (s.withdraw unfit).Lawful k :=
  State.Lawful.reexamine (State.Lawful.foldl (fun _ h v => v.withdrawHall unfit h) w _)

end

end Sys2Proof.Machine
end

section
/-! Contacts, circuits, links and the station's commands keep the laws of the records (chapters 7 to 9): LOCKOUT and
isolation change whether one hall is withheld, a hall record written its hold limit; nothing else changes what the laws
ask of a hall. -/

namespace Sys2Proof.Machine

section
variable {k : RecordLaw} {h : HallId} {s t : State}

/-! ## Whether a hall is withheld, and its plan -/

/-- With the same records the laws hold where each record meets what is asked of it now. -/
theorem State.Lawful.of_halls (w : s.Lawful k) (e : t.halls = s.halls) (l : t.waitList = s.waitList)
    (meets : ∀ g, (s.inc g).meets k (t.withheld g) (10 * (t.hallPlan g).holdLimit)) : t.Lawful k := by
  have inc (g : HallId) : t.inc g = s.inc g := State.inc_of_hall (State.hall_of_halls e g)
  refine w.of_same l (fun g => congrArg Incident.state (inc g)) (fun g => congrArg Incident.confNumber (inc g))
    fun g => ?_
  unfold State.meets
  rw [inc]
  exact meets g

/-- With the same records and the same plan, no hall being withheld that was not, the laws hold still. -/
theorem State.Lawful.of_withheld (w : s.Lawful k) (e : t.halls = s.halls) (l : t.waitList = s.waitList)
    (plan : ∀ g, t.hallPlan g = s.hallPlan g) (le : ∀ g, t.withheld g = true → s.withheld g = true) : t.Lawful k :=
  w.of_halls e l fun g => plan g ▸ Incident.meets_of_le (w.meets g) (le g)

theorem State.LawfulBut.of_withheld (a : s.LawfulBut k h) (e : t.halls = s.halls) (l : t.waitList = s.waitList)
    (plan : ∀ g, t.hallPlan g = s.hallPlan g) (same : ∀ g, ¬ g = h → t.withheld g = s.withheld g) :
    t.LawfulBut k h := by
  have inc (g : HallId) : t.inc g = s.inc g := State.inc_of_hall (State.hall_of_halls e g)
  have rank (g : HallId) : (t.inc g).confNumber = (s.inc g).confNumber := congrArg Incident.confNumber (inc g)
  refine ⟨?_, fun g n => ?_, fun g n => ?_⟩
  · rw [l]
    exact a.ranked.imp fun {f g} r => (State.ranksBefore_congr (rank f) (rank g)).trans r
  · rw [l, State.hallState, inc]
    exact a.waits g n
  · unfold State.meets
    rw [inc, same g n, plan]
    exact a.meets g n

/-! ## Contacts (chapter 8) -/

theorem assigned_lockout (g : HallId) : assigned (hallLine g) .l2 = .lockout g := by cases g <;> rfl

/-- A contact that is not a hall's LOCKOUT leaves whether it is withheld. -/
theorem State.withheld_modContact {d r : Line} {g : HallId} (n : ¬ assigned d r = .lockout g) (f : Contact → Contact) :
    (s.modContact d r f).withheld g = s.withheld g := by
  have away : ¬ (d = hallLine g ∧ r = .l2) := by
    rintro ⟨rfl, rfl⟩
    exact n (assigned_lockout g)
  unfold State.withheld State.isolated State.lockout State.closed
  rw [State.contact_modContact, if_neg away]
  rfl

/-- A contact that opens withholds no hall. -/
theorem State.withheld_of_opened {d r : Line} {g : HallId}
    (e : (s.modContact d r fun c => { c with debounced := false }).withheld g = true) : s.withheld g = true := by
  unfold State.withheld State.isolated State.lockout State.closed at e ⊢
  rw [State.contact_modContact] at e
  split at e
  · rw [Bool.or_false] at e
    exact (Bool.or_eq_true_iff).2 (Or.inl e)
  · exact e

theorem State.Lawful.lowPressureMoved (w : s.Lawful k) (b : BankId) (closed : Bool) :
    (s.lowPressureMoved b closed).Lawful k := by
  unfold State.lowPressureMoved
  split
  · split
    · exact w.withdraw _
    · exact w
  · exact w.reexamine

/-- A change of a contact keeps the laws (R148): the hall of a LOCKOUT that closes is withheld from then on, one
that opens withholds nobody, and the laws read no other contact. -/
theorem State.Lawful.contactMoved (w : s.Lawful k) (d r : Line) (closed : Bool) : (s.contactMoved d r closed).Lawful k := by
  have moved (n : ∀ g, ¬ assigned d r = .lockout g) : (s.modContact d r fun c => { c with debounced := closed }).Lawful k :=
    w.of_withheld rfl rfl (fun _ => rfl) fun g => by rw [State.withheld_modContact (n g)]; exact id
  unfold State.contactMoved
  dsimp only
  cases a : assigned d r with
  | manual h =>
    have moved := moved (by simp [a])
    dsimp only
    split
    · exact moved.manualEvent h _
    · exact moved
  | hold h => exact (moved (by simp [a])).demandMoved h _
  | lockout h =>
    dsimp only
    cases closed with
    | true =>
      have others : (s.modContact d r fun c => { c with debounced := true }).LawfulBut k h :=
        (w.but h).of_withheld rfl rfl (fun _ => rfl) fun g n => State.withheld_modContact (by simpa [a] using fun e : h = g => n e.symm) _
      exact others.withholdBegins (w.waits h) (w.meets h) true
    | false =>
      have opened : (s.modContact d r fun c => { c with debounced := false }).Lawful k :=
        w.of_withheld rfl rfl (fun _ => rfl) fun _ => State.withheld_of_opened
      exact opened.withholdEnds h
  | proven m h =>
    have moved := moved (by simp [a])
    dsimp only
    split
    · exact moved.provenCloses m h
    · exact moved.provenOpens m h
  | lowPressure b => exact (moved (by simp [a])).lowPressureMoved b closed
  | flow m =>
    have moved := moved (by simp [a])
    dsimp only
    split
    · exact moved.flowCloses m
    · exact moved
  | reserveKey => exact (moved (by simp [a])).withdraw _
  | commissionKey => exact moved (by simp [a])
  | unused => exact moved (by simp [a])

theorem State.Lawful.handChanges (w : s.Lawful k) (d : Line) (sample : BitVec 8) (lines : List Line) :
    (State.handChanges d sample s lines).Lawful k :=
  State.Lawful.foldl (fun _ r v => State.Lawful.asEvent (v.contactMoved d r _)) w lines

theorem Contact.debounced_sampled (debounce raw : Bool) (c : Contact) :
    (c.sampled debounce raw).debounced = c.debounced := by
  unfold Contact.sampled
  split
  · rfl
  · split
    · rfl
    · split <;> rfl

/-- A sample or a dark dwell that leaves the debounced states leaves the laws. -/
theorem State.Lawful.of_closed (w : s.Lawful k) (e : t.halls = s.halls) (l : t.waitList = s.waitList)
    (work : t.work = s.work) (same : ∀ d r, t.closed d r = s.closed d r) : t.Lawful k := by
  refine w.of_withheld e l (fun g => ?_) fun g => ?_
  · unfold State.hallPlan
    rw [work]
  · unfold State.withheld State.isolated State.lockout
    rw [work, same]
    exact id

theorem State.closed_sampleLine (s : State) (d : Line) (sample : BitVec 8) (e r : Line) :
    (s.sampleLine d sample).closed e r = s.closed e r := by
  unfold State.closed State.contact State.sampleLine
  dsimp only
  rw [PerLine.get_set]
  split
  · rename_i k
    rw [PerLine.get_mapId, Contact.debounced_sampled, k]
  · rfl

theorem State.Lawful.takeDriveDwell (w : s.Lawful k) (sample : BitVec 8) : (s.takeDriveDwell sample).Lawful k := by
  unfold State.takeDriveDwell
  split
  · exact w
  · rename_i d _
    have sampled : (s.sampleLine d sample).Lawful k := w.of_closed rfl rfl rfl (s.closed_sampleLine d sample)
    refine State.Lawful.handChanges ?_ _ _ _
    exact sampled.of_lawSide rfl

theorem Contact.debounced_afterDark (frozen : Bool) (c : Contact) : (c.afterDark frozen).debounced = c.debounced := by
  unfold Contact.afterDark
  split <;> rfl

theorem State.Lawful.takeDarkDwell (w : s.Lawful k) (sample : BitVec 8) : (s.takeDarkDwell sample).Lawful k := by
  unfold State.takeDarkDwell
  split
  · exact w
  · refine w.of_closed rfl rfl rfl fun d r => ?_
    unfold State.closed State.contact
    dsimp only
    rw [PerLine.get_mapId, PerLine.get_mapId, Contact.debounced_afterDark]

/-! ## Circuits (chapter 7) -/

theorem State.lawSide_modCircuit (s : State) (c : CircuitId) (f : Circuit → Circuit) :
    (s.modCircuit c f).lawSide = s.lawSide := by cases c <;> rfl

theorem State.Lawful.takeInterval (w : s.Lawful k) : s.takeInterval.Lawful k := by
  unfold State.takeInterval
  split
  · exact w
  · exact w.of_lawSide rfl

theorem State.Lawful.conditionMoved (w : s.Lawful k) (c : CircuitId) (old new : Condition) :
    (s.conditionMoved c old new).Lawful k := by
  unfold State.conditionMoved
  split
  · split
    · exact w
    · exact w.withdraw _
  · split
    · exact w.reexamine
    · exact w

theorem State.Lawful.endMeasurement (w : s.Lawful k) (x : Measurement) (last : LastCount) (r : Reading) :
    (s.endMeasurement x last r).Lawful k := by
  have idle : ({ s with measuring := none } : State).Lawful k := w.of_lawSide rfl
  unfold State.endMeasurement
  dsimp only
  split
  · exact idle
  · exact (idle.of_lawSide (State.lawSide_modCircuit _ _ _)).conditionMoved _ _ _

theorem State.Lawful.takeTrip (w : s.Lawful k) (count : Nat) : (s.takeTrip count).Lawful k := by
  unfold State.takeTrip
  split
  · exact w
  · exact w.endMeasurement _ _ _

theorem State.Lawful.takeCounterPass (w : s.Lawful k) : s.takeCounterPass.Lawful k := by
  unfold State.takeCounterPass
  split
  · exact w
  · exact w.endMeasurement _ _ _

/-! ## Links (chapter 9) -/

theorem State.lawSide_modPort (s : State) (p : Port) (f : PortIo → PortIo) : (s.modPort p f).lawSide = s.lawSide := by
  cases p <;> rfl

theorem State.Lawful.modLink (w : s.Lawful k) (h : HallId) (f : Link → Link) : (s.modLink h f).Lawful k :=
  w.of_lawSide rfl

theorem State.Lawful.takeSilence (w : s.Lawful k) (h : HallId) : (s.takeSilence h).Lawful k := by
  unfold State.takeSilence
  split
  · exact (w.modLink h _).demandMoved h _
  · exact w

theorem State.Lawful.acceptStart (w : s.Lawful k) (ports : PerHall Bool) : (s.acceptStart ports).Lawful k := by
  refine State.Lawful.foldl (fun t h v => ?_) w HallId.all
  unfold State.startPort
  split
  · exact (v.modLink h _).of_lawSide (State.lawSide_modPort _ _ _)
  · exact v

theorem State.Lawful.acceptStop (w : s.Lawful k) (ports : PerHall Bool) : (s.acceptStop ports).Lawful k := by
  refine State.Lawful.foldl (fun t h v => ?_) w HallId.all
  unfold State.stopPort
  split
  · exact ((v.modLink h _).of_lawSide (State.lawSide_modPort _ _ _)).demandMoved h _
  · exact v

/-! ## The owners of the requests (R21 to R23, R58, R60, R177, R183) -/

theorem State.withheld_isolateHall_other (s : State) {h g : HallId} (v : Bool) (n : ¬ g = h) :
    (s.isolateHall h v).withheld g = s.withheld g := by
  unfold State.withheld State.isolated
  rw [show (s.isolateHall h v).work.hallIsolated.get g = s.work.hallIsolated.get g from
    PerHall.get_set_other _ _ fun e => n e.symm]
  rfl

theorem State.withheld_of_deisolated {g : HallId} (e : (s.isolateHall h false).withheld g = true) :
    s.withheld g = true := by
  by_cases n : g = h
  · subst n
    unfold State.withheld State.isolated at e ⊢
    rw [show (s.isolateHall g false).work.hallIsolated.get g = false from PerHall.get_set_same _ _ _,
      Bool.false_or] at e
    exact Bool.or_eq_true_iff.2 (Or.inr e)
  · rwa [State.withheld_isolateHall_other s false n] at e

theorem State.Lawful.isolateBank (w : s.Lawful k) (b : BankId) (v : Bool) : (s.isolateBank b v).Lawful k :=
  w.of_withheld rfl rfl (fun _ => rfl) fun _ => id

theorem State.Lawful.answerIsolate (w : s.Lawful k) (x : Target) : (s.answerIsolate x).1.Lawful k := by
  cases x with
  | bank b =>
    unfold State.answerIsolate
    dsimp only
    split
    · exact w
    · split
      · exact w
      · split
        · exact w
        · exact w.isolateBank b true
  | hall h =>
    have others : (s.isolateHall h true).LawfulBut k h :=
      (w.but h).of_withheld rfl rfl (fun _ => rfl) fun g n => State.withheld_isolateHall_other s true n
    unfold State.answerIsolate
    dsimp only
    split
    · exact w
    · split
      · exact w
      · split
        · exact w
        · exact others.withholdBegins (w.waits h) (w.meets h) false

theorem State.Lawful.answerDeisolate (w : s.Lawful k) (x : Target) : (s.answerDeisolate x).1.Lawful k := by
  cases x with
  | bank b =>
    unfold State.answerDeisolate
    dsimp only
    split
    · exact w
    · split
      · exact (w.isolateBank b false).reexamine
      · exact w
  | hall h =>
    unfold State.answerDeisolate
    dsimp only
    split
    · exact w
    · split
      · have freed : (s.isolateHall h false).Lawful k :=
          w.of_withheld rfl rfl (fun _ => rfl) fun _ => State.withheld_of_deisolated
        exact freed.withholdEnds h
      · exact w

theorem State.Lawful.answerRecharged (w : s.Lawful k) (b : BankId) : (s.answerRecharged b).1.Lawful k := by
  unfold State.answerRecharged
  split
  · exact w
  · split
    · exact w
    · split
      · exact w
      · split
        · exact w
        · exact State.Lawful.reexamine (w.of_lawSide rfl)

theorem State.Lawful.answerStandDown (w : s.Lawful k) (h : HallId) : (s.answerStandDown h).1.Lawful k := by
  unfold State.answerStandDown
  split
  · exact w
  · exact w.standDown h

theorem State.Lawful.answerRetry (w : s.Lawful k) (h : HallId) : (s.answerRetry h).1.Lawful k := by
  unfold State.answerRetry
  split
  · rename_i st
    exact w.retry st
  · exact w

/-- A plan record accepted: of a hall's record the hall is QUIET, and no law asks for the hold limit of a QUIET hall
(R96, R178). -/
theorem State.Lawful.planWritten (w : s.Lawful k) {e : PlanEdit} (allowed : s.ownerAllows e = true) :
    (s.planWritten e).Lawful k := by
  cases e with
  | site r => exact w.of_withheld rfl rfl (fun _ => rfl) fun _ => id
  | man m r => exact w.of_withheld rfl rfl (fun _ => rfl) fun _ => id
  | bank b r => exact w.of_withheld rfl rfl (fun _ => rfl) fun _ => id
  | hall h r =>
    have quiet : s.hallState h = .quiet := by simpa [State.ownerAllows] using allowed
    refine w.of_halls rfl rfl fun g => ?_
    have plan : (s.planWritten (.hall h r)).hallPlan g = if h = g then r else s.hallPlan g := PerHall.get_set _ _ _ _
    rw [plan]
    split
    · rename_i e
      exact Incident.meets_limit (w.meets g) (e ▸ quiet) _
    · exact w.meets g

theorem State.Lawful.answerWritePlan (w : s.Lawful k) (kind : RecordKind) (number : Byte) (body : List Byte) :
    (s.answerWritePlan kind number body).1.Lawful k := by
  unfold State.answerWritePlan
  split
  · exact w
  · split
    · exact w
    · split
      · exact w
      · split
        · rename_i allowed
          rw [State.acceptPlan_eq]
          split
          · exact (w.planWritten allowed).reexamine
          · exact w.planWritten allowed
        · exact w

theorem State.Lawful.answerSetLock (w : s.Lawful k) (x : LockSetting) : (s.answerSetLock x).1.Lawful k := by
  unfold State.answerSetLock
  split
  · exact w
  · split
    · exact w
    · split
      · exact w
      · cases x with
        | overlay => exact w.of_lawSide rfl
        | mode m =>
          dsimp only
          unfold State.changeLock
          split
          · exact w
          · exact w.of_withheld rfl rfl (fun _ => rfl) fun _ => id

/-- Every request keeps the laws (R160). -/
theorem State.Lawful.carryOut (w : s.Lawful k) (p : Port) (r : Request) : (s.carryOut p r).1.Lawful k := by
  cases r with
  | declare zones =>
    cases p with
    | hall h => exact (w.modLink h _).testConfirmation h
    | station => exact w
  | cycle states hold low high =>
    cases p with
    | hall h => exact ((w.modLink h _).takeZones h).demandMoved h _
    | station => exact w
  | readIncident h =>
    cases p with
    | hall g =>
      unfold State.carryOut
      dsimp only
      split <;> exact w
    | station => exact w
  | writePlan kind number body => exact w.answerWritePlan kind number body
  | setLock x => exact w.answerSetLock x
  | isolate x => exact w.answerIsolate x
  | deisolate x => exact w.answerDeisolate x
  | standDown h => exact w.answerStandDown h
  | retry h => exact w.answerRetry h
  | recharged b => exact w.answerRecharged b
  | linkStart ports => exact w.acceptStart ports
  | linkStop ports => exact w.acceptStop ports
  | readStatus => exact w
  | readBanks => exact w
  | readManifolds => exact w
  | readLink h => exact w
  | readCircuits part => exact w
  | readContacts => exact w
  | readPlan name => exact w

end

end Sys2Proof.Machine
end

section
/-! The laws of the records through the ports, the restart, the passage of time and every step (O54). -/

namespace Sys2Proof.Machine

section
variable {k : RecordLaw} {s t : State}

/-! ## Ports (chapter 9) -/

theorem State.Lawful.respond (w : s.Lawful k) (p : Port) (kind : Byte) (payload : List Byte) :
    (s.respond p kind payload).1.Lawful k := by
  unfold State.respond
  split
  · exact w
  · split
    · exact w
    · split
      · exact w
      · split
        · exact w
        · exact w.carryOut p _

theorem State.lawSide_noteAnswer (s : State) (p : Port) (a : Answer) : (s.noteAnswer p a).lawSide = s.lawSide := by
  unfold State.noteAnswer
  split
  · cases p <;> rfl
  · rfl

theorem State.lawSide_discardBadCrc (s : State) (p : Port) : (s.discardBadCrc p).lawSide = s.lawSide := by
  cases p <;> rfl

theorem State.lawSide_abandonOverlength (s : State) (p : Port) : (s.abandonOverlength p).lawSide = s.lawSide := by
  cases p <;> rfl

theorem State.Lawful.modPort (w : s.Lawful k) (p : Port) (f : PortIo → PortIo) : (s.modPort p f).Lawful k :=
  w.of_lawSide (State.lawSide_modPort s p f)

theorem State.Lawful.processFrame (w : s.Lawful k) (p : Port) (kind seq : Byte) (payload : List Byte) :
    (s.processFrame p kind seq payload).Lawful k := by
  have event : (s.asEvent fun t => (t.respond p kind payload).1).Lawful k :=
    State.Lawful.asEvent (w.respond p kind payload)
  unfold State.processFrame
  exact (event.of_lawSide (State.lawSide_noteAnswer _ p _)).modPort p _

theorem State.Lawful.completeFrame (w : s.Lawful k) (p : Port) (body check : List Byte) :
    (s.completeFrame p body check).Lawful k := by
  unfold State.completeFrame
  split
  · split
    · exact State.Lawful.processFrame (w.modPort p PortIo.hunt) p _ _ _
    · exact w.of_lawSide (State.lawSide_discardBadCrc s p)
  · exact w.modPort p PortIo.hunt

theorem State.Lawful.receiveByte (w : s.Lawful k) (p : Port) (b : Byte) : (State.receiveByte p s b).Lawful k := by
  unfold State.receiveByte
  split
  · split
    · split
      · exact w.modPort p _
      · exact w
    · unfold State.takeFrameBytes
      split
      · exact w.modPort p _
      · split
        · exact w.of_lawSide (State.lawSide_abandonOverlength s p)
        · split
          · exact w.completeFrame p _ _
          · exact w.modPort p _
  · exact w

theorem State.Lawful.frameArrives (w : s.Lawful k) (p : Port) (kind seq : Byte) (payload : List Byte) :
    (s.frameArrives p kind seq payload).Lawful k := by
  unfold State.frameArrives
  split
  · exact w.processFrame p kind seq payload
  · exact State.Lawful.foldl (fun _ b v => v.receiveByte p b) w _

theorem State.Lawful.takeGap (w : s.Lawful k) (p : Port) : (s.takeGap p).Lawful k := by
  unfold State.takeGap
  split
  · exact w.modPort p _
  · exact w

theorem State.Lawful.takeBadCrc (w : s.Lawful k) (p : Port) : (s.takeBadCrc p).Lawful k := by
  unfold State.takeBadCrc
  split
  · exact w.of_lawSide (State.lawSide_discardBadCrc s p)
  · exact w

theorem State.Lawful.takeOverlength (w : s.Lawful k) (p : Port) : (s.takeOverlength p).Lawful k := by
  unfold State.takeOverlength
  split
  · exact w.of_lawSide (State.lawSide_abandonOverlength s p)
  · exact w

theorem State.Lawful.takeResponseEnd (w : s.Lawful k) (p : Port) : (s.takeResponseEnd p).Lawful k := by
  unfold State.takeResponseEnd
  split
  · exact w.modPort p _
  · exact w

/-! ## Restart and time -/

theorem State.lawful_restart (k : RecordLaw) (s : State) : s.restart.Lawful k := by
  refine (State.lawful_iff k _).2 ⟨(State.tableLaw_restart s).1, ?_⟩
  cases k with
  | inhibited => exact State.inhibitedLaw_restart s
  | hold => exact State.holdLaw_restart s
  | entry => exact State.entryLaw_restart s
  | record => exact State.recordLaw_restart s

/-- A millisecond of COUNTDOWN keeps a countdown running (R90). -/
theorem Hall.lawPart_tickCountdown (x : Hall) : x.tickCountdown.inc.lawPart = x.inc.lawPart := by
  unfold Hall.tickCountdown
  split
  · rfl
  · split
    · rename_i more
      have runs : x.inc.countdown.isSome = true := by
        cases c : x.inc.countdown with
        | none => simp [c] at more
        | some n => rfl
      simp [Incident.lawPart, runs]
    · rfl

/-- A millisecond of HELD stops short of the budget (R90, R96). -/
theorem Hall.meets_tickHeld {withheld : Bool} {limit : Nat} {x : Hall} (st : x.inc.state = .held)
    (m : x.inc.meets k withheld limit) :
    (x.tickHeld limit).inc.meets k withheld limit := by
  unfold Hall.tickHeld
  split
  · exact m
  · split
    · rename_i below
      refine Incident.meets_held ?_ st (fun e => ?_) (Incident.free_of_counting m (Or.inr st)) below
      · cases k with
        | inhibited => trivial
        | hold => exact below.le
        | entry => trivial
        | record => exact m.1.2 (by simp [st])
      · subst e
        exact m.2.2 (Or.inr st)
    · exact m

theorem Hall.meets_tick {withheld : Bool} {limit : Nat} {x : Hall} (m : x.inc.meets k withheld limit) :
    (x.tick limit).inc.meets k withheld limit := by
  show (x.tickStay limit).inc.meets k withheld limit
  unfold Hall.tickStay
  split
  · rename_i st
    exact Incident.meets_of_same m (Hall.lawPart_tickCountdown x) fun e => by simp [st] at e
  · split
    · rename_i st
      exact Hall.meets_tickHeld st m
    · exact m

theorem State.Lawful.advance (w : s.Lawful k) : s.advance.Lawful k := by
  have inc (g : HallId) : s.advance.inc g = ((s.hall g).tick (10 * (s.hallPlan g).holdLimit)).inc :=
    congrArg Hall.inc (PerHall.get_mapId _ _ _)
  refine w.of_same rfl (fun g => ?_) (fun g => ?_) fun g => ?_
  · rw [State.hallState, inc]
    exact (Hall.tick_keeps _ _).1
  · rw [inc]
    exact (Hall.tick_keeps _ _).2.2.1
  · unfold State.meets
    rw [inc]
    exact Hall.meets_tick (w.meets g)

theorem State.Lawful.takeManifoldTimer (w : s.Lawful k) (m : ManId) : (s.takeManifoldTimer m).Lawful k := by
  unfold State.takeManifoldTimer
  cases (s.man m).timer with
  | stopped => exact w
  | selector _ => exact w.takeSelectorTimeout m
  | flow _ => exact w.takeFlowTimeout m
  | vent _ => exact w.takeVentExpiry m

theorem State.Lawful.takeTimed (w : s.Lawful k) (e : Timed) : (s.takeTimed e).Lawful k := by
  cases e with
  | silence h => exact w.takeSilence h
  | countdown h => exact w.takeCountdownExpiry h
  | budget h => exact w.takeBudgetOverride h
  | waitLimit h => exact w.takeWaitLimit h
  | discharge h => exact w.takeDischargeExpiry h
  | manifold m => exact w.takeManifoldTimer m
  | pulse i => exact w.takePulseEnd i
  | gap p => exact w.takeGap p

/-- An idle millisecond keeps the laws. -/
theorem State.Lawful.tick (w : s.Lawful k) : s.tick.Lawful k := by
  unfold State.tick
  dsimp only
  have ran : (s.advance.spendChoices (choicesFor s.advance.dueEvents)).Lawful k := w.advance.of_lawSide rfl
  refine State.Lawful.foldl (fun t e v => ?_) ran _
  unfold State.takeIfDue
  split
  · exact State.Lawful.asEvent (v.takeTimed e)
  · exact v

/-! ## Every step -/

/-- Every command keeps the laws. -/
theorem State.Lawful.exec (w : s.Lawful k) {c : Instr} (e : exec c s = .next t) : t.Lawful k := by
  cases c <;> obtain rfl := Host.Outcome.next.inj e
  case restart => exact State.lawful_restart k s
  case frameBadCrc p => exact w.takeBadCrc p
  case frameOverlength p => exact w.takeOverlength p
  case frameGap p => exact w.takeGap p
  case responseEnd p => exact w.takeResponseEnd p
  case silenceTimerExpiry h => exact State.Lawful.asEvent (w.takeSilence h)
  case countdownExpiry h => exact State.Lawful.asEvent (w.takeCountdownExpiry h)
  case budgetOverride h => exact State.Lawful.asEvent (w.takeBudgetOverride h)
  case waitLimitElapsing h => exact State.Lawful.asEvent (w.takeWaitLimit h)
  case selectorTimeout m => exact State.Lawful.asEvent (w.takeSelectorTimeout m)
  case flowTimeout m => exact State.Lawful.asEvent (w.takeFlowTimeout m)
  case dischargePeriodExpiry h => exact State.Lawful.asEvent (w.takeDischargeExpiry h)
  case ventTimerExpiry m => exact State.Lawful.asEvent (w.takeVentExpiry m)
  case pulseEnd i => exact State.Lawful.asEvent (w.takePulseEnd i)
  case spentMarkCompletion => exact State.Lawful.asEvent w.takeMarkCompletion
  case storeWriteCompletion => exact State.Lawful.asEvent w.takeWriteCompletion
  case measurementInterval => exact State.Lawful.asEvent w.takeInterval
  case comparatorTrip count => exact State.Lawful.asEvent (w.takeTrip count)
  case counterPasses4095 => exact State.Lawful.asEvent w.takeCounterPass
  case driveDwellEnd sample => exact w.takeDriveDwell sample
  case darkDwellEnd sample => exact w.takeDarkDwell sample
  case byteReceived p b => exact w.receiveByte p b
  all_goals exact w.frameArrives _ _ _ _

/-- Every step keeps the wait list's law with each law of the records. -/
theorem State.Lawful.step (w : s.Lawful k) (e : step s = .next t) : t.Lawful k := by
  unfold Machine.step at e
  split at e
  · obtain rfl := Host.Outcome.next.inj e
    exact w.tick
  · rename_i c rest _
    have taken : ({ s with pending := rest } : State).Lawful k := w.of_lawSide rfl
    exact taken.exec e

end

end Sys2Proof.Machine

open Sys2Proof Sys2Proof.Machine in
/-- Settles O54: each law of the records is kept with the wait list's, through one invariant over all four. -/
theorem stepKeepsHallLaws : Obligations.StepKeepsHallLaws := by
  intro s t waits e
  have keeps (k : RecordLaw) (law : s.recordLaws k) : t.recordLaws k :=
    ((State.lawful_iff k t).1 (((State.lawful_iff k s).2 ⟨waits, law⟩).step e)).2
  exact ⟨keeps .inhibited, keeps .hold, keeps .entry, keeps .record⟩
end

section
/-! The station's requests on an incident: STAND_DOWN closes it (O28), RETRY attempts a STALLED hall (O29). -/

namespace Sys2Proof.Machine

/-! ## The answer that names a hall (R174) -/

/-- An acceptance that reports a hall's state and change number after the event (R159, R174). -/
theorem State.frameArrives_acceptedHall {s t : State} {k : Kind} {r : Request} {h : HallId} (seq : Byte)
    {payload : List Byte} (ready : s.portReady .station) (fits : payload.length ≤ Config.maxPayload)
    (permitted : k.permitted .station = true) (request : requestOf 0 k payload = some r)
    (owner : s.carryOut .station r = (t, .acceptedHall h)) :
    s.frameArrives .station k.code seq payload =
      (State.countChanges s t).send .station (acceptedFrame k.code seq
        ([byteOf h.num, ((State.countChanges s t).hallState h).code] ++
          bytes2 ((State.countChanges s t).inc h).change.toNat)) :=
  State.frameArrives_carriedOut seq ready fits permitted rfl request owner (by simp)

theorem requestOf_standDown (n : Nat) (h : HallId) : requestOf n .standDown [byteOf h.num] = some (.standDown h) := by
  cases h <;> rfl

theorem requestOf_retry (n : Nat) (h : HallId) : requestOf n .retry [byteOf h.num] = some (.retry h) := by
  cases h <;> rfl

theorem State.storePart_of_still {s t : State} (e : t.still = s.still) : t.storePart = s.storePart := by
  have outer := State.outer_of_still e
  unfold State.storePart
  rw [State.nvPlan_of_outer outer, State.nvSpent_of_outer outer, State.overlay_of_outer outer, State.write_of_still e,
    State.markQueue_of_still e]

/-! ## The incident closed (R58) -/

/-- A stand-down of an open incident, before the re-examination. -/
def State.stoodDown (s : State) (h : HallId) : State :=
  (((s.leaveHeld h).leaveWaitList h).returnAll h).closeIncident h

theorem State.standDown_eq (s : State) (h : HallId) :
    s.standDown h = if s.hallState h = .quiet then s else (s.stoodDown h).reexamine := rfl

theorem closingOf_eq (x : HallState) :
    closingOf x = if x = .discharged then .discharged else if x = .stalled then .stalled else .stoodDown := by
  cases x <;> rfl

theorem State.still_stoodDown (s : State) (h : HallId) : (s.stoodDown h).still = s.still := by
  unfold State.stoodDown
  rw [State.still_closeIncident, State.still_returnAll, State.still_leaveWaitList, State.still_leaveHeld]

/-- The closed record: its list loses what was RESERVED, hold used takes the stay that ends (R58, R87, R90). -/
theorem State.hall_stoodDown (s : State) (h : HallId) :
    (s.stoodDown h).hall h =
      { s.hall h with
        inc :=
          { s.inc h with
            closing := some (closingOf (s.hallState h)), isOpen := false, state := .quiet, countdown := none
            alloc := s.keptEntries h
            estimate := if s.keptEntries h = [] then none else (s.inc h).estimate
            holdUsed :=
              (s.inc h).holdUsed +
                (if s.hallState h = .held ∧ (0 < (s.hall h).stay.ms ∨ (s.hall h).stay.counted = false) then 1 else 0) }
        wait := none, stay := ⟨0, false⟩ } := by
  have held : ((s.leaveHeld h).leaveWaitList h).hall h = _ := State.hall_leaveHeld s h
  have kept : ((s.leaveHeld h).leaveWaitList h).keptEntries h = s.keptEntries h := by
    have alloc := congrArg (fun x : Hall => x.inc.alloc) held
    rw [State.leaveHeld_eq] at alloc ⊢
    exact congrArg (List.filter fun e => !(s.bank e.bank == .reserved h)) alloc
  have inc : ((s.leaveHeld h).leaveWaitList h).inc h = _ := congrArg Hall.inc held
  refine (State.hall_modHall_same _ h _).trans ?_
  rw [State.hall_returnAll, kept, inc, held]
  rfl

theorem State.hall_stoodDown_other (s : State) {h g : HallId} (n : ¬ h = g) : (s.stoodDown h).hall g = s.hall g := by
  unfold State.stoodDown
  rw [State.hall_closeIncident_other _ n, State.hall_returnAll_other _ n]
  exact State.hall_leaveHeld_other s n

theorem State.waitList_stoodDown (s : State) (h : HallId) :
    (s.stoodDown h).waitList = s.waitList.filter fun g => !(g == h) := by
  refine (State.waitList_returnAll ((s.leaveHeld h).leaveWaitList h) h).trans ?_
  rw [State.leaveHeld_eq]
  rfl

theorem State.handedBack_stoodDown (s : State) (h : HallId) : s.handedBack (s.stoodDown h) h := by
  have back := State.handedBack_returnAll ((s.leaveHeld h).leaveWaitList h) h
  have list : (((s.leaveHeld h).leaveWaitList h).inc h).allocBanks = (s.inc h).allocBanks :=
    (congrArg (fun x : Hall => x.inc.allocBanks) (State.hall_leaveHeld s h)).trans rfl
  unfold State.stoodDown
  unfold State.handedBack at back ⊢
  rw [list] at back
  rw [State.leaveHeld_eq] at back ⊢
  exact back

theorem State.stoodDown_eq (s : State) (h : HallId) :
    s.stoodDown h =
      { s with
        banks := (s.stoodDown h).banks, mans := (s.stoodDown h).mans, selectors := (s.stoodDown h).selectors
        selCircuits := (s.stoodDown h).selCircuits, halls := s.halls.set h ((s.stoodDown h).hall h)
        waitList := s.waitList.filter fun g => !(g == h) } := by
  have measuring : (s.stoodDown h).measuring = s.measuring := by
    refine (State.measuring_returnAll ((s.leaveHeld h).leaveWaitList h) h).trans ?_
    rw [State.leaveHeld_eq]
    rfl
  have whole := State.eq_of_still (State.still_stoodDown s h)
  rw [measuring, State.waitList_stoodDown,
    State.halls_of_others fun g n => State.hall_stoodDown_other s fun e => n e.symm] at whole
  exact whole

/-- What the stand-down of an open incident leaves of the hall: the record closed, with the change counted (R58, R63). -/
theorem State.Event.hall_stoodDown {s t : State} {h : HallId} (e : State.Event s (s.stoodDown h).reexamine t)
    (n : ¬ s.hallState h = .quiet) :
    t.hall h =
      { (s.stoodDown h).hall h with inc := { (s.stoodDown h).inc h with change := (s.inc h).change + 1 } } := by
  have out : ¬ h ∈ (s.stoodDown h).waitList := by simp [State.waitList_stoodDown]
  have same := State.hall_reexamine_other (s.stoodDown h) out
  have inc := congrArg Hall.inc (State.hall_stoodDown s h)
  have changed : ¬ (s.inc h).content = ((s.stoodDown h).reexamine.inc h).content := fun c => by
    have states : (s.inc h).state = ((s.stoodDown h).reexamine.inc h).state := (congrArg Incident.state c :)
    rw [State.inc_of_hall same, show (s.stoodDown h).inc h = _ from inc] at states
    exact n states
  rw [e.hall_of_changed changed, State.inc_of_hall same, same, show (s.stoodDown h).inc h = _ from inc]

/-! ## INHIBITED instead of an attempt (R60) -/

theorem State.hall_enterInhibited (s : State) (h : HallId) :
    (s.enterInhibited h).hall h =
      { s.hall h with inc := { s.inc h with state := .inhibited, countdown := none } } := State.hall_modHall_same s h _

theorem State.Event.enterInhibited {s t : State} {h : HallId} (e : State.Event s (s.enterInhibited h) t) :
    t.hallState h = .inhibited ∧ (t.inc h).countdown = none ∧ t.inventoryPart = s.inventoryPart ∧
      t.waitList = s.waitList ∧ s.sameIncident t h := by
  obtain ⟨n, hall⟩ := e.hall_but_change h
  rw [show (s.enterInhibited h).inc h = _ from congrArg Hall.inc (s.hall_enterInhibited h), s.hall_enterInhibited] at hall
  have inc := congrArg Hall.inc hall
  refine ⟨congrArg Incident.state inc, congrArg Incident.countdown inc, ?_, ?_,
    (congrArg Incident.number inc).trans rfl, (congrArg Incident.cause inc).trans rfl,
    (congrArg Incident.confNumber inc).trans rfl, (congrArg Incident.latched inc).trans rfl,
    (congrArg Hall.clock hall).trans rfl⟩ <;> rw [e.rest] <;> rfl

theorem State.still_retry (s : State) (h : HallId) : (s.retry h).still = s.still := by
  unfold State.retry
  split
  · exact State.still_enterInhibited s h
  · exact State.still_singleAttempt s h

theorem State.hall_retry_other (s : State) {h g : HallId} (n : ¬ h = g) : (s.retry h).hall g = s.hall g := by
  unfold State.retry
  split
  · exact State.hall_enterInhibited_other s n
  · exact State.hall_singleAttempt_other s n

theorem State.retry_of_withheld {s : State} {h : HallId} (held : s.withheld h = true) :
    s.retry h = s.enterInhibited h := if_pos held

theorem State.retry_of_free {s : State} {h : HallId} (free : s.withheld h = false) : s.retry h = s.singleAttempt h :=
  if_neg (by simp [free])

end Sys2Proof.Machine

open Sys2Proof Sys2Proof.Machine in
/-- Settles O28, by the states of R58: the open incident is closed in `State.stoodDown`, which the re-examination does not
concern. -/
theorem standDownClosesIncident : Obligations.StandDownClosesIncident := by
  intro seq h s ready
  have accepted (t : State) (owner : s.answerStandDown h = (t, .acceptedHall h)) :
      exec (.standDown .station seq [byteOf h.num]) s = .next _ :=
    congrArg Host.Outcome.next
      (State.frameArrives_acceptedHall seq ready (Nat.le_of_ble_eq_true rfl) rfl (requestOf_standDown 0 h) owner)
  refine ⟨fun st => ?_, fun quiet => ?_, fun free active => ?_⟩
  · have owner : s.answerStandDown h = (s, .refused .tooLate) := by
      obtain e | e | e := st <;> simp [State.answerStandDown, e, HallState.releasing]
    exact congrArg Host.Outcome.next
      (State.frameArrives_refused seq ready (Nat.le_of_ble_eq_true rfl) rfl (requestOf_standDown 0 h) owner (by simp))
  · rw [accepted s (by simp [State.answerStandDown, State.standDown_eq, quiet, HallState.releasing]),
      State.countChanges_of_halls rfl, quiet]
    rfl
  · have arrives := accepted (s.stoodDown h).reexamine
      (by simp [State.answerStandDown, State.standDown_eq, free, active])
    have still : (s.stoodDown h).reexamine.still = s.still := (State.still_reexamine _).trans (State.still_stoodDown s h)
    have event := State.event_send s (s.stoodDown h).reexamine (acceptedFrame 0x24 seq
      ([byteOf h.num, ((State.countChanges s (s.stoodDown h).reexamine).hallState h).code] ++
        bytes2 ((State.countChanges s (s.stoodDown h).reexamine).inc h).change.toNat))
    have hall := event.hall_stoodDown active
    have own := State.hall_stoodDown s h
    have waits := State.waitList_stoodDown s h
    have lead := event.leadsThrough (work := s.work) (write := s.write) (contacts := s.contacts) (scan := s.scan)
      (State.stoodDown_eq s h) ((congrArg (fun x : Hall => x.inc.change) own).trans rfl)
    rw [show (s.stoodDown h).inc h = _ from congrArg Hall.inc own, own] at hall
    have inc := congrArg Hall.inc hall
    have quiet : (State.countChanges s (s.stoodDown h).reexamine).hallState h = .quiet := congrArg Incident.state inc
    have outside : s.outsideKept (s.stoodDown h).reexamine := State.outsideKept_of_still still
    have work := State.work_of_still still
    have store := State.storePart_of_still still
    refine ⟨_, arrives, quiet, congrArg Incident.isOpen inc, congrArg Incident.countdown inc,
      (congrArg Incident.closing inc).trans (congrArg some (closingOf_eq _)),
      ⟨(congrArg Incident.number inc).trans rfl, (congrArg Incident.cause inc).trans rfl,
        (congrArg Incident.confNumber inc).trans rfl, (congrArg Incident.latched inc).trans rfl,
        (congrArg Hall.clock hall).trans rfl⟩,
      (congrArg Incident.flags inc).trans rfl, (congrArg Incident.required inc).trans rfl,
      (congrArg Incident.tLow inc).trans rfl, (congrArg Incident.tHigh inc).trans rfl,
      (congrArg Incident.manualSeen inc).trans rfl, (congrArg Incident.holdUsed inc).trans rfl,
      (congrArg Incident.change inc).trans rfl, congrArg Hall.wait hall, ?_, ?_, fun g n k => ?_, outside, work, store,
      ⟨_, lead, State.handedBack_stoodDown s h⟩, ?_⟩
    · exact fun k => by simpa [waits] using State.mem_waitList_of_reexamine (s := s.stoodDown h) k
    · exact event.returnedTo (State.handedBack_stoodDown s h) waits (congrArg Incident.alloc inc)
        (congrArg Incident.estimate inc)
    · refine event.hall_of_same ((State.hall_reexamine_other _ ?_).trans (State.hall_stoodDown_other s fun x => n x.symm))
      rw [waits]
      exact fun x => k (List.mem_of_mem_filter x)
    · rw [quiet]
      rfl

open Sys2Proof Sys2Proof.Machine in
/-- Settles O29: the owner's check of R60, then INHIBITED or the single attempt. -/
theorem retryAttemptsStalledHall : Obligations.RetryAttemptsStalledHall := by
  intro seq h s ready
  refine ⟨fun n => ?_, fun st => ?_⟩
  · exact congrArg Host.Outcome.next
      (State.frameArrives_refused seq ready (Nat.le_of_ble_eq_true rfl) rfl (requestOf_retry 0 h) (if_neg n) (by simp))
  · have arrives : exec (.retry .station seq [byteOf h.num]) s = .next _ :=
      congrArg Host.Outcome.next (State.frameArrives_acceptedHall seq ready (Nat.le_of_ble_eq_true rfl) rfl
        (requestOf_retry 0 h) (if_pos st))
    have inhibited (held : s.withheld h = true) (t : State) (e : State.Event s (s.retry h) t) :=
      (State.retry_of_withheld held ▸ e).enterInhibited
    have attempted (free : s.withheld h = false) : s.attemptedFrom (s.retry h) h :=
      State.retry_of_free free ▸ State.attemptedFrom_singleAttempt s h
    have others (g : HallId) (n : ¬ g = h) := State.hall_retry_other s fun e : h = g => n e.symm
    have still := State.still_retry s h
    have outside := State.outsideKept_of_still still
    have work := State.work_of_still still
    have store := State.storePart_of_still still
    generalize s.retry h = v at *
    exact ⟨_, arrives, fun held => inhibited held _ (State.event_send s v _),
      fun free => ((State.event_send s v _).recounted h).attemptedFrom (attempted free),
      fun g n => State.hall_countChanges_of_same (others g n), outside, work, store, rfl⟩
end

section
/-! The timers of the manifolds through the timed events: each keeps its timer, or has one that has not run its time,
since a timer that is started has its whole time before it (R107). So an event that was due stays the same row. -/

namespace Sys2Proof.Machine

/-- Every manifold of `t` has the timer it has in `s`, or one that is not due. -/
def State.FreshTimers (s t : State) : Prop := ∀ m, (t.man m).timer = (s.man m).timer ∨ (t.man m).timer.due = false

theorem Timer.due_start (n : Nat) : (Timer.start n).due = false := by simp [Timer.due, Timer.start]

section
variable {s t u : State}

theorem State.FreshTimers.trans (a : State.FreshTimers s t) (b : State.FreshTimers t u) : State.FreshTimers s u := by
  intro m
  obtain e | e := b m
  · rw [e]
    exact a m
  · exact Or.inr e

theorem State.FreshTimers.of_mans (e : t.mans = s.mans) : State.FreshTimers s t := by
  intro m
  unfold State.man
  rw [e]
  exact Or.inl rfl

theorem State.FreshTimers.of_enterSelecting (s : State) (h : HallId) : State.FreshTimers s (s.enterSelecting h) := by
  intro m
  rw [State.man_enterSelecting]
  split
  · exact Or.inr (Timer.due_start _)
  · exact Or.inl rfl

theorem State.FreshTimers.of_returnAll (s : State) (h : HallId) : State.FreshTimers s (s.returnAll h) := by
  intro m
  obtain ⟨freed, kept⟩ := (State.handedBack_returnAll s h).2 m
  by_cases c : (s.man m).state = .claimed h ∨ (s.man m).state = .selecting h
  · rw [(freed c).1]
    exact Or.inr rfl
  · rw [(kept c).1]
    exact Or.inl rfl

theorem State.FreshTimers.of_afterCommit (s : State) (h : HallId) (taken : List BankId) :
    State.FreshTimers s (s.afterCommit h taken) := by
  intro m
  by_cases c : s.claimedWith h taken m
  · rw [State.man_afterCommit_claimed c]
    exact Or.inl rfl
  · rw [State.man_afterCommit_other c]
    exact Or.inl rfl

theorem State.FreshTimers.of_attempt (s : State) (h : HallId) (guarded : List BankId) :
    State.FreshTimers s (s.attempt h guarded).1 := by
  obtain e | e := State.attempt_fst s h guarded <;> rw [e]
  · refine (State.FreshTimers.of_afterCommit s h (s.attemptTakes h guarded)).trans ?_
    obtain ⟨-, e⟩ | ⟨-, -, e⟩ := State.succeeded_cases s h (s.attemptTakes h guarded) <;> rw [e]
    · exact State.FreshTimers.of_enterSelecting _ h
    · exact State.FreshTimers.of_mans rfl
  · exact State.FreshTimers.of_mans rfl

theorem State.FreshTimers.of_walkHalls (l : List HallId) (guarded : List BankId) (s : State) :
    State.FreshTimers s (State.walkHalls l guarded s) := by
  induction l generalizing guarded s with
  | nil => exact State.FreshTimers.of_mans rfl
  | cons h rest ih => exact (State.FreshTimers.of_attempt s h guarded).trans (ih _ _)

theorem State.FreshTimers.of_reexamine (s : State) : State.FreshTimers s s.reexamine :=
  State.FreshTimers.of_walkHalls _ _ s

/-- A re-examination at the end of an event. -/
theorem State.FreshTimers.reexamine (a : State.FreshTimers s t) : State.FreshTimers s t.reexamine :=
  a.trans (State.FreshTimers.of_reexamine t)

/-! ## The timed events -/

theorem State.FreshTimers.of_demandMoved (s : State) (h : HallId) (before : Bool) :
    State.FreshTimers s (s.demandMoved h before) := by
  rw [State.demandMoved_eq]
  exact State.FreshTimers.of_mans rfl

theorem State.FreshTimers.of_takeSilence (s : State) (h : HallId) : State.FreshTimers s (s.takeSilence h) := by
  unfold State.takeSilence
  split
  · exact State.FreshTimers.trans (State.FreshTimers.of_mans rfl) (State.FreshTimers.of_demandMoved _ h _)
  · exact State.FreshTimers.of_mans rfl

theorem State.FreshTimers.of_expiredShort (s : State) (h : HallId) : State.FreshTimers s (s.expiredShort h) :=
  (State.FreshTimers.of_returnAll (s.setCountdownSpent h) h).trans (.of_mans (State.mans_enterWaiting _ h))

theorem State.FreshTimers.of_takeCountdownExpiry (s : State) (h : HallId) :
    State.FreshTimers s (s.takeCountdownExpiry h) := by
  unfold State.takeCountdownExpiry
  split
  · obtain ⟨-, -, e⟩ | ⟨-, -, -, e⟩ | ⟨-, e⟩ := State.countdownExpires_cases s h <;> rw [e]
    · exact State.FreshTimers.of_enterSelecting s h
    · exact State.FreshTimers.of_enterSelecting (s.setPartial h) h
    · exact (State.FreshTimers.of_expiredShort s h).reexamine
  · exact State.FreshTimers.of_mans rfl

theorem State.FreshTimers.of_takeBudgetOverride (s : State) (h : HallId) :
    State.FreshTimers s (s.takeBudgetOverride h) := by
  unfold State.takeBudgetOverride
  split <;> exact State.FreshTimers.of_mans rfl

theorem State.FreshTimers.of_takeWaitLimit (s : State) (h : HallId) : State.FreshTimers s (s.takeWaitLimit h) := by
  unfold State.takeWaitLimit
  split
  · exact State.FreshTimers.of_mans rfl
  · split
    · exact State.FreshTimers.of_mans rfl
    · exact State.FreshTimers.reexamine (State.FreshTimers.of_mans rfl)

theorem State.FreshTimers.of_takeDischargeExpiry (s : State) (h : HallId) :
    State.FreshTimers s (s.takeDischargeExpiry h) := by
  rw [State.takeDischargeExpiry_eq]
  split
  · intro m
    rw [State.man_soaked]
    split
    · exact Or.inr (Timer.due_start _)
    · exact Or.inl rfl
  · exact State.FreshTimers.of_mans rfl

theorem State.FreshTimers.of_takeSelectorTimeout (s : State) (m : ManId) :
    State.FreshTimers s (s.takeSelectorTimeout m) := by
  unfold State.takeSelectorTimeout
  split
  · rename_i h _ _ _
    split
    · exact State.FreshTimers.reexamine
        ((State.FreshTimers.of_returnAll s h).trans (.of_mans (State.mans_modInc _ h _)))
    · exact State.FreshTimers.of_mans rfl
  · exact State.FreshTimers.of_mans rfl

theorem State.FreshTimers.of_takeFlowTimeout (s : State) (m : ManId) : State.FreshTimers s (s.takeFlowTimeout m) := by
  unfold State.takeFlowTimeout
  split
  · have stopped : State.FreshTimers s (s.modMan m fun x => { x with timer := .stopped }) := by
      intro n
      rw [State.man_modMan]
      split
      · exact Or.inr rfl
      · exact Or.inl rfl
    exact stopped.trans (.of_mans rfl)
  · exact State.FreshTimers.of_mans rfl

theorem State.FreshTimers.of_takeVentExpiry (s : State) (m : ManId) : State.FreshTimers s (s.takeVentExpiry m) := by
  unfold State.takeVentExpiry
  split
  · rename_i h _ _ _
    have freed : State.FreshTimers s (s.freeManifold m) := by
      intro n
      rw [State.man_freeManifold]
      split
      · exact Or.inr rfl
      · exact Or.inl rfl
    have done : State.FreshTimers (s.freeManifold m) ((s.freeManifold m).dischargedIfDone h) := by
      unfold State.dischargedIfDone
      split <;> exact State.FreshTimers.of_mans rfl
    exact (freed.trans done).reexamine
  · exact State.FreshTimers.of_mans rfl

theorem State.FreshTimers.of_takeManifoldTimer (s : State) (m : ManId) :
    State.FreshTimers s (s.takeManifoldTimer m) := by
  unfold State.takeManifoldTimer
  split
  · exact State.FreshTimers.of_mans rfl
  · exact State.FreshTimers.of_takeSelectorTimeout s m
  · exact State.FreshTimers.of_takeFlowTimeout s m
  · exact State.FreshTimers.of_takeVentExpiry s m

theorem State.FreshTimers.of_takePulseEnd (s : State) (i : SlotId) : State.FreshTimers s (s.takePulseEnd i) := by
  refine State.FreshTimers.of_mans ?_
  have started (u : State) (b : BankId) : (u.startDischarge b).mans = u.mans := by
    unfold State.startDischarge
    split
    · rfl
    · split <;> rfl
  unfold State.takePulseEnd
  split
  · rw [State.fillSlots_eq]
    exact started _ _
  · rfl
  · rfl

theorem State.FreshTimers.of_takeGap (s : State) (p : Port) : State.FreshTimers s (s.takeGap p) := by
  refine State.FreshTimers.of_mans ?_
  unfold State.takeGap
  split
  · exact State.mans_modPort s p _
  · rfl

theorem State.FreshTimers.of_takeTimed (s : State) (e : Timed) : State.FreshTimers s (s.takeTimed e) := by
  cases e with
  | silence h => exact .of_takeSilence s h
  | countdown h => exact .of_takeCountdownExpiry s h
  | budget h => exact .of_takeBudgetOverride s h
  | waitLimit h => exact .of_takeWaitLimit s h
  | discharge h => exact .of_takeDischargeExpiry s h
  | manifold m => exact .of_takeManifoldTimer s m
  | pulse i => exact .of_takePulseEnd s i
  | gap p => exact .of_takeGap s p

theorem State.FreshTimers.of_takeIfDue (s : State) (e : Timed) : State.FreshTimers s (s.takeIfDue e) := by
  unfold State.takeIfDue
  split
  · exact (State.FreshTimers.of_takeTimed s e).trans (.of_mans rfl)
  · exact .of_mans rfl

end

end Sys2Proof.Machine
end

section
/-! The idle millisecond (log entry 2): what runs in it, and the rows that come due as the timed events of the model,
taken in their order (log entry 3). -/

namespace Sys2Proof.Machine

/-! ## A millisecond of each clock -/

theorem Timer.ranTo_tick (x : Timer) : x.ranTo x.tick := by
  unfold Timer.ranTo Timer.tick
  refine ⟨fun c => ?_, fun c k => ?_, fun c k => ?_⟩
  · rw [if_pos (by omega)]
  · rw [if_neg (by omega), if_pos k]
  · rw [if_neg (by omega), if_neg (by omega)]

theorem timerRanTo_tick (o : Option Timer) : timerRanTo o (o.map Timer.tick) := by
  cases o with
  | none => rfl
  | some x => exact x.ranTo_tick

theorem ManTimer.ranTo_tick (x : ManTimer) : x.ranTo x.tick := by
  cases x with
  | stopped => rfl
  | selector x => exact x.ranTo_tick
  | flow x => exact x.ranTo_tick
  | vent x => exact x.ranTo_tick

theorem PortIo.ranTo_tick (x : PortIo) : x.ranTo x.tick := by
  refine ⟨rfl, fun hunting => ?_, fun bytes gap inside => ?_⟩
  · unfold PortIo.tick
    rw [hunting]
    rfl
  · unfold PortIo.tick
    rw [inside]
    rfl

theorem Slot.tick_eq (x : Slot) :
    x.tick = match x with
      | .empty => .empty
      | .marking b => .marking b
      | .pulsing b ms => .pulsing b (ms - 1) := by
  cases x <;> rfl

section
variable (x : Hall) (limit : Nat)

/-- Only the measure of the stay touches the record and the stay. -/
theorem Hall.inc_tick : (x.tick limit).inc = (x.tickStay limit).inc ∧ (x.tick limit).stay = (x.tickStay limit).stay :=
  ⟨rfl, rfl⟩

theorem Hall.clock_tick :
    (x.inc.isOpen = false → (x.tick limit).clock = x.clock) ∧
    (x.inc.isOpen = true → x.clock.ms < 999 → (x.tick limit).clock = ⟨x.clock.secs, x.clock.ms + 1⟩) ∧
    (x.inc.isOpen = true → 999 ≤ x.clock.ms → (x.tick limit).clock = ⟨min 65535 (x.clock.secs + 1), 0⟩) := by
  have clock : (x.tick limit).clock = if x.inc.isOpen then x.clock.tick else x.clock := rfl
  rw [clock]
  refine ⟨fun o => if_neg (by simp [o]), fun o c => ?_, fun o c => ?_⟩ <;> rw [if_pos o] <;>
    unfold IncidentClock.tick
  · rw [if_pos (by omega)]
  · rw [if_neg (by omega)]
    rfl

theorem Hall.wait_tick :
    (x.wait = none → (x.tick limit).wait = none) ∧
    ∀ w, x.wait = some w →
      (w.ms < 99 → (x.tick limit).wait = some { w with ms := w.ms + 1 }) ∧
      (99 ≤ w.ms → (x.tick limit).wait = some { w with tenths := min 65535 (w.tenths + 1), ms := 0 }) := by
  have wait : (x.tick limit).wait = x.wait.map WaitClock.tick := rfl
  refine ⟨fun e => by rw [wait, e]; rfl, fun w e => ?_⟩
  rw [wait, e, Option.map_some]
  unfold WaitClock.tick
  refine ⟨fun c => ?_, fun c => ?_⟩
  · rw [if_pos (by omega)]
  · rw [if_neg (by omega)]
    rfl

/-- The measure of the stay in COUNTDOWN. -/
theorem Hall.tickCountdown_cases :
    (x.stay.ms < 99 → x.tickCountdown = { x with stay := { x.stay with ms := x.stay.ms + 1 } }) ∧
    (99 ≤ x.stay.ms → ∀ n, x.inc.countdown = some n →
      (1 < n → x.tickCountdown = { x with inc := { x.inc with countdown := some (n - 1) }, stay := ⟨0, true⟩ }) ∧
      (n ≤ 1 → x.tickCountdown = { x with stay := { x.stay with ms := 100 } })) := by
  unfold Hall.tickCountdown
  refine ⟨fun c => if_pos (by omega), fun c n e => ?_⟩
  rw [if_neg (by omega), e, Option.getD_some]
  exact ⟨fun k => if_pos k, fun k => if_neg (by omega)⟩

/-- The measure of the stay in HELD. -/
theorem Hall.tickHeld_cases :
    (x.stay.ms < 99 → x.tickHeld limit = { x with stay := { x.stay with ms := x.stay.ms + 1 } }) ∧
    (99 ≤ x.stay.ms →
      (x.inc.holdUsed + 1 < limit →
        x.tickHeld limit = { x with inc := { x.inc with holdUsed := x.inc.holdUsed + 1 }, stay := ⟨0, true⟩ }) ∧
      (limit ≤ x.inc.holdUsed + 1 → x.tickHeld limit = { x with stay := { x.stay with ms := 100 } })) := by
  unfold Hall.tickHeld
  refine ⟨fun c => if_pos (by omega), fun c => ?_⟩
  rw [if_neg (by omega)]
  exact ⟨fun k => if_pos k, fun k => if_neg (by omega)⟩

theorem Hall.ranTo_tick : x.ranTo limit (x.tick limit) := by
  obtain ⟨closed, open1, open2⟩ := x.clock_tick limit
  obtain ⟨noWait, wait⟩ := x.wait_tick limit
  obtain ⟨count1, count2⟩ := x.tickCountdown_cases
  obtain ⟨held1, held2⟩ := x.tickHeld_cases limit
  obtain ⟨inc, stay⟩ := x.inc_tick limit
  have counting (c : x.inc.state = .countdown) : x.tickStay limit = x.tickCountdown := if_pos c
  have holding (c : x.inc.state = .held) : x.tickStay limit = x.tickHeld limit := by
    unfold Hall.tickStay
    rw [if_neg (by simp [c]), if_pos c]
  have result {y : Hall} (e : x.tickStay limit = y) : (x.tick limit).inc = y.inc ∧ (x.tick limit).stay = y.stay :=
    ⟨by rw [inc, e], by rw [stay, e]⟩
  refine ⟨closed, open1, open2, noWait, wait, timerRanTo_tick x.discharge, fun a b => ?_, fun c k => ?_,
    fun c k n e => ⟨fun m => ?_, fun m => ?_⟩, fun c k => ⟨fun m => ?_, fun m => ?_⟩⟩
  · exact result ((if_neg a).trans (if_neg b))
  · obtain c | c := c
    · exact result ((counting c).trans (count1 k))
    · exact result ((holding c).trans (held1 k))
  · exact result ((counting c).trans ((count2 k n e).1 m))
  · exact result ((counting c).trans ((count2 k n e).2 m))
  · exact result ((holding c).trans ((held2 k).1 m))
  · exact result ((holding c).trans ((held2 k).2 m))

end

theorem State.ranTo_advance (s : State) : s.ranTo s.advance := by
  have man (m : ManId) : s.advance.man m = { s.man m with timer := (s.man m).timer.tick } := PerMan.get_mapId _ s.mans m
  have link (h : HallId) : s.advance.link h = { s.link h with silence := (s.link h).silence.map Timer.tick } :=
    PerHall.get_mapId _ s.links h
  have port (p : Port) : s.advance.port p = (s.port p).tick := by
    cases p with
    | hall h => exact PerHall.get_mapId _ s.hallPorts h
    | station => rfl
  refine ⟨fun h => ?_, fun m => ?_, fun i => ?_, fun h => ?_, fun p => ?_, rfl⟩
  · rw [show s.advance.hall h = _ from PerHall.get_mapId _ s.halls h]
    exact (s.hall h).ranTo_tick _
  · rw [man]
    exact ⟨rfl, rfl, ManTimer.ranTo_tick _⟩
  · rw [show s.advance.slots.get i = _ from PerSlot.get_mapId _ s.slots i]
    exact Slot.tick_eq _
  · rw [link]
    exact ⟨timerRanTo_tick _, rfl⟩
  · rw [port]
    exact PortIo.ranTo_tick _

/-! ## The row of a timed event -/

/-- The row of a manifold's timer. -/
def ManTimer.row (m : ManId) : ManTimer → Instr
  | .stopped => .selectorTimeout m
  | .selector _ => .selectorTimeout m
  | .flow _ => .flowTimeout m
  | .vent _ => .ventTimerExpiry m

/-- The row that a timed event takes: of a manifold, that of the timer it runs in `s`. -/
def State.rowOf (s : State) : Timed → Instr
  | .silence h => .silenceTimerExpiry h
  | .countdown h => .countdownExpiry h
  | .budget h => .budgetOverride h
  | .waitLimit h => .waitLimitElapsing h
  | .discharge h => .dischargePeriodExpiry h
  | .manifold m => (s.man m).timer.row m
  | .pulse i => .pulseEnd i
  | .gap p => .frameGap p

/-- The timed event of a row. -/
def timedOf : Instr → Option Timed
  | .silenceTimerExpiry h => some (.silence h)
  | .countdownExpiry h => some (.countdown h)
  | .budgetOverride h => some (.budget h)
  | .waitLimitElapsing h => some (.waitLimit h)
  | .dischargePeriodExpiry h => some (.discharge h)
  | .selectorTimeout m => some (.manifold m)
  | .flowTimeout m => some (.manifold m)
  | .ventTimerExpiry m => some (.manifold m)
  | .pulseEnd i => some (.pulse i)
  | .frameGap p => some (.gap p)
  | _ => none

theorem timed_mem_all (e : Timed) : e ∈ Timed.all := by
  unfold Timed.all
  cases e with
  | pulse i => cases i <;> simp
  | manifold m => simp [manId_mem_all]
  | gap p => simp [port_mem_all]
  | _ h => simp [hallId_mem_all]

theorem State.timedOf_rowOf (s : State) (e : Timed) : timedOf (s.rowOf e) = some e := by
  cases e with
  | manifold m =>
    show timedOf ((s.man m).timer.row m) = _
    cases (s.man m).timer <;> rfl
  | _ => rfl

theorem State.rowOf_injective (s : State) : Function.Injective s.rowOf := fun a b e => by
  have same := congrArg timedOf e
  rw [s.timedOf_rowOf, s.timedOf_rowOf] at same
  exact Option.some.inj same

theorem Timer.hasRun_eq (x : Timer) : x.hasRun = x.due := by
  unfold Timer.hasRun Timer.due
  rw [Bool.decide_and]

theorem Timer.any_hasRun (o : Option Timer) : o.any Timer.hasRun = o.any Timer.due := by
  rw [funext Timer.hasRun_eq]

section
variable {s t : State}

/-- An event that is due is its row, due; one that is not has no row due. -/
theorem State.rowDue_of_freshTimers (fresh : State.FreshTimers s t) (e : Timed) : t.rowDue (s.rowOf e) = t.timedDue e := by
  cases e with
  | silence h => exact Timer.any_hasRun _
  | countdown h => rfl
  | budget h => rfl
  | waitLimit h => rfl
  | discharge h => exact Timer.any_hasRun _
  | manifold m =>
    show t.rowDue ((s.man m).timer.row m) = (t.man m).timer.due
    have kinds := fresh m
    cases a : (s.man m).timer <;> cases b : (t.man m).timer <;>
      simp_all [State.rowDue, ManTimer.row, ManTimer.due, Timer.hasRun_eq]
  | pulse i =>
    show t.rowDue (.pulseEnd i) = t.timedDue (.pulse i)
    simp only [State.rowDue, State.timedDue]
    cases t.slots.get i <;> rfl
  | gap p =>
    unfold State.rowOf State.rowDue State.timedDue
    rfl

/-- The end of a frame in a gap is no event of an incident record. -/
theorem State.asEvent_takeGap (p : Port) : (t.asEvent fun u => u.takeGap p) = t.takeGap p := by
  refine State.countChanges_of_halls (u := t.takeGap p) ?_
  unfold State.takeGap
  split
  · exact State.halls_modPort t p _
  · rfl

/-- The row of an event that is due takes the event. -/
theorem State.exec_rowOf (fresh : State.FreshTimers s t) {e : Timed} (due : t.timedDue e = true) :
    exec (s.rowOf e) t = .next (t.asEvent fun u => u.takeTimed e) := by
  cases e with
  | manifold m =>
    have runs : (t.man m).timer.due = true := due
    have same : (t.man m).timer = (s.man m).timer := (fresh m).resolve_right (by simp [runs])
    have takes : t.takeTimed (.manifold m) = t.takeManifoldTimer m := rfl
    show exec ((s.man m).timer.row m) t = .next (State.countChanges t (t.takeTimed (.manifold m)))
    rw [← same, takes]
    unfold State.takeManifoldTimer
    cases kind : (t.man m).timer with
    | stopped => simp [kind, ManTimer.due] at runs
    | _ x => rfl
  | gap p => exact congrArg Host.Outcome.next (State.asEvent_takeGap p).symm
  | _ => rfl

/-- Taking the row of an event is taking the event where it is still due. -/
theorem State.takeDueRow_rowOf (fresh : State.FreshTimers s t) (e : Timed) :
    t.takeDueRow (s.rowOf e) = t.takeIfDue e := by
  unfold State.takeDueRow State.takeIfDue
  rw [State.rowDue_of_freshTimers fresh]
  split <;> rename_i due
  · rw [State.exec_rowOf fresh due]
  · rfl

/-- The rows of a list of events, taken one after the other. -/
theorem State.foldl_takeDueRow (fresh : State.FreshTimers s t) (l : List Timed) :
    (l.map s.rowOf).foldl State.takeDueRow t = l.foldl State.takeIfDue t := by
  induction l generalizing t with
  | nil => rfl
  | cons e rest ih =>
    rw [List.map_cons, List.foldl_cons, List.foldl_cons, State.takeDueRow_rowOf fresh]
    exact ih (fresh.trans (.of_takeIfDue t e))

/-- The rows that are due are those of the events that are due. -/
theorem State.rowDue_iff (s : State) (c : Instr) : s.rowDue c = true ↔ ∃ e, s.timedDue e = true ∧ s.rowOf e = c := by
  have fresh : State.FreshTimers s s := .of_mans rfl
  refine ⟨fun due => ?_, fun ⟨e, due, row⟩ => by rw [← row, State.rowDue_of_freshTimers fresh, due]⟩
  obtain ⟨e, of⟩ : ∃ e, timedOf c = some e := by
    cases c with
    | silenceTimerExpiry | countdownExpiry | budgetOverride | waitLimitElapsing | dischargePeriodExpiry
      | selectorTimeout | flowTimeout | ventTimerExpiry | pulseEnd | frameGap => exact ⟨_, rfl⟩
    | _ => cases due
  have row : s.rowOf e = c := by
    cases c with
    | selectorTimeout m | flowTimeout m | ventTimerExpiry m =>
      cases of
      show (s.man m).timer.row m = _
      cases kind : (s.man m).timer <;> simp [State.rowDue, kind] at due
      rfl
    | _ => cases of <;> rfl
  exact ⟨e, by rw [← State.rowDue_of_freshTimers fresh, row, due], row⟩

end

/-- The rows of a millisecond, in the order in which they are taken. -/
def State.rowsOfTick (s : State) : List Instr := (orderOf s.freeCount s.dueEvents).map s.rowOf

theorem State.nodup_rowsOfTick (s : State) : s.rowsOfTick.Nodup := by
  have due : s.dueEvents.Nodup := (by decide : Timed.all.Nodup).filter _
  exact ((orderOf_perm _ _).nodup_iff.2 due).map s.rowOf_injective

theorem State.mem_rowsOfTick (s : State) (c : Instr) : c ∈ s.rowsOfTick ↔ s.rowDue c = true := by
  unfold State.rowsOfTick State.dueEvents
  rw [State.rowDue_iff, List.mem_map]
  simp only [mem_orderOf, List.mem_filter, timed_mem_all, true_and]

theorem State.length_rowsOfTick (s : State) : s.rowsOfTick.length = s.dueEvents.length := by
  unfold State.rowsOfTick
  rw [List.length_map, (orderOf_perm _ _).length_eq]

/-- The idle step takes the rows that are due after its millisecond. -/
theorem State.tick_eq_rows (s : State) :
    s.tick =
      s.advance.rowsOfTick.foldl State.takeDueRow
        { s.advance with
          freeCount :=
            s.advance.freeCount + if s.advance.rowsOfTick.length ≤ 1 then 0 else s.advance.rowsOfTick.length } := by
  have fresh : State.FreshTimers s.advance (s.advance.spendChoices (choicesFor s.advance.dueEvents)) := .of_mans rfl
  rw [State.length_rowsOfTick]
  exact (State.foldl_takeDueRow fresh _).symm

end Sys2Proof.Machine
end

section
/-! COUNTDOWN_EXPIRY (R102) and the idle millisecond (O31). -/

namespace Sys2Proof.Machine

theorem State.still_expiredShort (s : State) (h : HallId) : (s.expiredShort h).still = s.still := by
  unfold State.expiredShort
  rw [State.still_enterWaiting, State.still_returnAll, State.still_setCountdownSpent]

theorem State.still_countdownExpires (s : State) (h : HallId) : (s.countdownExpires h).still = s.still := by
  obtain ⟨-, -, e⟩ | ⟨-, -, -, e⟩ | ⟨-, e⟩ := State.countdownExpires_cases s h <;> rw [e]
  · exact State.still_enterSelecting s h
  · rw [State.still_enterSelecting, State.still_setPartial]
  · rw [State.still_reexamine, State.still_expiredShort]

/-- The hall leaves COUNTDOWN with its expiry, so its change number advances (R63, R102). -/
theorem State.Event.change_countdownExpires {s t : State} {h : HallId} (e : State.Event s (s.countdownExpires h) t)
    (counting : s.hallState h = .countdown) (out : ¬ h ∈ s.waitList) : (t.inc h).change = (s.inc h).change + 1 := by
  have left : ¬ (s.countdownExpires h).hallState h = s.hallState h := by
    obtain st | st := State.hallState_countdownExpires out <;> simp [st, counting]
  rw [← (State.Confined.of_countdownExpires s h).change]
  exact congrArg (fun x : Hall => x.inc.change) (e.hall_of_changed (State.content_ne_of_state left))

theorem State.exec_countdownExpiry_of_idle {s : State} {h : HallId} (n : ¬ s.hallState h = .countdown) :
    exec (.countdownExpiry h) s = .next s :=
  congrArg Host.Outcome.next (State.asEvent_of_same s (fun t => t.takeCountdownExpiry h) (if_neg n))

theorem State.exec_countdownExpiry_of_counting {s : State} {h : HallId} (counting : s.hallState h = .countdown) :
    exec (.countdownExpiry h) s = .next (State.countChanges s (s.countdownExpires h)) :=
  congrArg (fun v => Host.Outcome.next (State.countChanges s v))
    (if_pos counting : s.takeCountdownExpiry h = s.countdownExpires h)

end Sys2Proof.Machine

open Sys2Proof Sys2Proof.Machine in
/-- Settles O31: the rows of the millisecond are its timed events, whose rows no earlier one of them changes
(`State.FreshTimers`); the expiry is an event of the three outcomes of R102. -/
theorem timeRunsAndCountdownExpires : Obligations.TimeRunsAndCountdownExpires := by
  refine ⟨fun s idle => ⟨s.advance, s.advance.rowsOfTick, s.ranTo_advance, State.nodup_rowsOfTick _,
    State.mem_rowsOfTick _, ?_⟩, fun h s => State.exec_countdownExpiry_of_idle, fun h s counting out => ?_⟩
  · unfold step
    rw [idle]
    exact congrArg Host.Outcome.next s.tick_eq_rows
  · have event := State.event_countChanges s (s.countdownExpires h)
    have still : (State.countChanges s (s.countdownExpires h)).still = s.still :=
      (State.still_countChanges s _).trans (State.still_countdownExpires s h)
    have confined := State.Confined.of_countdownExpires s h
    exact ⟨_, State.exec_countdownExpiry_of_counting counting, event.expiredFrom out,
      event.change_countdownExpires counting out,
      fun g n k => event.hall_of_same (confined.others g (fun e => n e.symm) k), State.outsideKept_of_still still,
      State.work_of_still still, State.storePart_of_still still, State.queue_of_still still, State.slots_of_still still,
      State.initiators_of_outer (State.outer_of_still still), State.bankCircuits_of_still still⟩
end

section
/-! The MANUAL contact (O46): a manual event by the hall's state (R45), as the event of a dwell (R145 to R148). -/

namespace Sys2Proof.Machine

/-! ## The change of one contact of a hall -/

theorem State.contact_sensed_other (s : State) {d r e q : Line} (n : ¬ (d = e ∧ r = q)) (closed : Bool)
    (sample : BitVec 8) : (s.sensed d r closed sample).contact e q = (s.dwelt d sample).contact e q := by
  unfold State.sensed
  rw [State.contact_modContact, if_neg n]

theorem State.closed_sensed_other (s : State) {d r e q : Line} (n : ¬ (d = e ∧ r = q)) (closed : Bool)
    (sample : BitVec 8) : (s.sensed d r closed sample).closed e q = s.closed e q := by
  unfold State.closed
  rw [State.contact_sensed_other s n]
  exact s.closed_sampleLine d sample e q

theorem State.contactMoved_of_manual (s : State) (h : HallId) (sample : BitVec 8) :
    (s.dwelt (hallLine h) sample).contactMoved (hallLine h) .l0 true =
      (s.sensed (hallLine h) .l0 true sample).manualEvent h .localManual := by
  unfold State.contactMoved
  rw [show assigned (hallLine h) .l0 = .manual h by cases h <;> rfl]
  rfl

/-- The dwell in which the MANUAL contact alone closes, as one event on the state with the contact changed. Its LOCKOUT
contact stands as before, and so does whether the hall is withheld. -/
theorem State.exec_of_manualContact {s : State} {h : HallId} {sample : BitVec 8}
    (e : s.sees (hallLine h) .l0 true sample) :
    ∃ t, exec (.driveDwellEnd sample) s = .next t ∧
      State.Event (s.sensing t) ((s.sensing t).manualEvent h .localManual) t ∧ t.outer = (s.sensing t).outer ∧
      (s.sensing t).withheld h = s.withheld h := by
  have event := State.exec_of_sees e
  rw [State.contactMoved_of_manual] at event
  have outer := State.outer_manualEvent (s.sensed (hallLine h) .l0 true sample) h .localManual
  obtain ⟨run, kept⟩ := State.sensing_event (f := fun x => x.manualEvent h .localManual)
    (s.sensed_eq (hallLine h) .l0 true sample) outer
  have lockout : (State.countChanges s ((s.sensed (hallLine h) .l0 true sample).manualEvent h .localManual)).lockout h =
      s.lockout h :=
    (State.closed_of_outer outer (hallLine h) .l2).trans (s.closed_sensed_other (by simp) true sample)
  exact ⟨_, event, run, kept, congrArg (s.isolated h || ·) lockout⟩

/-! ## The manual event by the hall's state (R45) -/

/-- The state whose incident a manual event of a QUIET or ALERT hall confirms: with one opened where none is open (R44). -/
def State.opened (s : State) (h : HallId) : State := if s.hallState h = .quiet then s.openedFor h else s

theorem State.manualEvent_of_confirming {s : State} {h : HallId} (c : Cause)
    (st : s.hallState h = .quiet ∨ s.hallState h = .alert) :
    s.manualEvent h c = ((s.opened h).setManualSeen h).confirm h c := by
  unfold State.manualEvent State.opened
  obtain st | st := st <;> rw [st]
  · rfl
  · rfl

theorem State.manualEvent_of_counting {s : State} {h : HallId} (c : Cause)
    (st : s.hallState h = .countdown ∨ s.hallState h = .held) : s.manualEvent h c = s.manualRelease h := by
  unfold State.manualEvent
  obtain st | st := st <;> rw [st]

theorem State.manualEvent_of_other {s : State} {h : HallId} (c : Cause)
    (n : ¬ s.hallState h = .quiet ∧ ¬ s.hallState h = .alert ∧ ¬ s.hallState h = .countdown ∧
      ¬ s.hallState h = .held) : s.manualEvent h c = s.setManualSeen h := by
  obtain ⟨quiet, alert, countdown, held⟩ := n
  unfold State.manualEvent
  cases st : s.hallState h with
  | quiet => exact absurd st quiet
  | alert => exact absurd st alert
  | countdown => exact absurd st countdown
  | held => exact absurd st held
  | _ => rfl

theorem State.hall_setManualSeen (s : State) (h : HallId) :
    (s.setManualSeen h).hall h = { s.hall h with inc := { s.inc h with manualSeen := true } } :=
  State.hall_modHall_same s h _

/-! ## A confirmation (R49, R50) -/

/-- The states in which a confirmed hall may be. -/
theorem State.confirmedFrom.hallState {s t : State} {h : HallId} {c : Cause} (a : s.confirmedFrom t h c) :
    (s.withheld h = true → t.hallState h = .inhibited) ∧
    (s.withheld h = false →
      t.hallState h = .waiting ∨ t.hallState h = .countdown ∨ t.hallState h = .held ∨ t.hallState h = .selecting) := by
  obtain ⟨-, -, -, -, -, -, -, -, withheld, free⟩ := a
  refine ⟨fun w => (withheld w).1, fun w => ?_⟩
  obtain ⟨-, success, failure⟩ := free w
  cases ok : (s.numbered h c).attemptSucceeds h ((s.numbered h c).attemptTakes h ((s.numbered h c).protectedFrom h)) with
  | false => exact .inl (failure ok).2.2.2.1
  | true =>
    obtain ⟨-, -, -, -, -, -, -, -, selecting, counting⟩ := success ok
    by_cases now : ((s.numbered h c).inc h).flags.countdownSpent = true ∨ t.startDelay h = 0
    · exact .inr (.inr (.inr (selecting now)))
    · obtain ⟨unspent, delay⟩ := not_or.1 now
      have st := (counting (Bool.eq_false_iff.2 unspent) delay).2
      split at st
      · exact .inr (.inr (.inl st))
      · exact .inr (.inl st)

/-- A hall that is confirmed leaves QUIET and ALERT. -/
theorem State.confirmedFrom.left {s t : State} {h : HallId} {c : Cause} (a : s.confirmedFrom t h c) :
    ¬ t.hallState h = .quiet ∧ ¬ t.hallState h = .alert := by
  cases w : s.withheld h with
  | true => simp [a.hallState.1 w]
  | false =>
    obtain e | e | e | e := a.hallState.2 w <;> simp [e]

/-- The incident that a confirmation leaves is the one it found, with its cause and its number (R49, R50, R61). -/
theorem State.confirmedFrom.record {s t : State} {h : HallId} {c : Cause} (a : s.confirmedFrom t h c) :
    (t.inc h).isOpen = (s.inc h).isOpen ∧ (t.inc h).number = (s.inc h).number ∧
    (t.inc h).latched = (s.inc h).latched ∧ (t.inc h).cause = some c ∧ (t.inc h).confNumber = some s.confCounter ∧
    (t.hall h).clock = (s.hall h).clock := by
  obtain ⟨-, -, -, isOpen, ⟨number, cause, conf, latched, clock⟩, -⟩ := a
  have numbered := State.hall_numbered s h c
  rw [show (s.numbered h c).inc h = _ from congrArg Hall.inc numbered] at number cause conf latched
  rw [numbered] at clock
  exact ⟨isOpen, number, latched, cause, conf, clock⟩

/-- Manual seen, set before a confirmation, changes nothing else of the incident. -/
theorem State.confirmedFrom.incident {s t : State} {h : HallId} {c : Cause} (a : (s.setManualSeen h).confirmedFrom t h c) :
    (t.inc h).isOpen = (s.inc h).isOpen ∧ (t.inc h).number = (s.inc h).number ∧
    (t.inc h).latched = (s.inc h).latched ∧ (t.inc h).cause = some c ∧ (t.inc h).confNumber = some s.confCounter ∧
    (t.hall h).clock = (s.hall h).clock := by
  have seen := s.hall_setManualSeen h
  have inc : (s.setManualSeen h).inc h = _ := congrArg Hall.inc seen
  have record := a.record
  rw [inc, seen] at record
  exact record

theorem State.hall_opened (s : State) (h : HallId) :
    (s.opened h).hall h =
      if s.hallState h = .quiet then
        { inc :=
            { Incident.empty with
              number := (s.inc h).number + 1, change := (s.inc h).change, isOpen := true, state := .alert }
          clock := ⟨0, 0⟩, wait := none, stay := ⟨0, false⟩, discharge := none }
      else s.hall h := by
  unfold State.opened
  split
  · exact PerHall.get_set_same _ _ _
  · rfl

section
variable {s t : State} {h : HallId} {c : Cause}

theorem State.Event.confirmedFrom_manualEvent (e : State.Event s (s.manualEvent h c) t)
    (st : s.hallState h = .quiet ∨ s.hallState h = .alert) :
    ((s.opened h).setManualSeen h).confirmedFrom t h c := by
  rw [State.manualEvent_of_confirming c st] at e
  exact e.confirmedFrom (State.confirmedFrom_confirm _ h c)

/-- The confirmation changes the record once (R63). -/
theorem State.Event.change_manualEvent (e : State.Event s (s.manualEvent h c) t)
    (st : s.hallState h = .quiet ∨ s.hallState h = .alert) : (t.inc h).change = (s.inc h).change + 1 := by
  have left := (e.confirmedFrom_manualEvent st).left
  rw [(e.recounted h).hallState] at left
  have moved : ¬ (s.manualEvent h c).hallState h = s.hallState h := fun k => by
    obtain st | st := st
    · exact left.1 (k.trans st)
    · exact left.2 (k.trans st)
  rw [← (State.Confined.of_manualEvent s h c).change]
  exact congrArg (fun x : Hall => x.inc.change) (e.hall_of_changed (State.content_ne_of_state moved))

/-- What a confirmation at a manual event leaves, with the incident opened where none was (R44, R49, R50). -/
theorem State.Event.manualEvent_confirming (e : State.Event s (s.manualEvent h c) t)
    (st : s.hallState h = .quiet ∨ s.hallState h = .alert) :
    (t.inc h).isOpen = (if s.hallState h = .quiet then true else (s.inc h).isOpen) ∧
    (t.inc h).number = (if s.hallState h = .quiet then (s.inc h).number + 1 else (s.inc h).number) ∧
    (t.inc h).latched = (if s.hallState h = .quiet then [] else (s.inc h).latched) ∧
    (t.inc h).change = (s.inc h).change + 1 ∧
    (t.inc h).cause = some c ∧ (t.inc h).confNumber = some s.confCounter ∧
    t.confCounter = (if s.confCounter < 4294967295 then s.confCounter + 1 else s.confCounter) ∧
    (t.hall h).wait = some ⟨0, 0, false⟩ ∧ (s.hallState h = .quiet → (t.hall h).clock = ⟨0, 0⟩) ∧
    (t.inc h).required = some (s.computeRequired h) ∧ (t.inc h).tLow = some (s.chooseLow h) ∧
    (t.inc h).tHigh = some (s.chooseHigh h) ∧
    (s.withheld h = true → t.hallState h = .inhibited ∧ t.inventoryPart = s.inventoryPart) ∧
    (s.withheld h = false →
      t.hallState h = .waiting ∨ t.hallState h = .countdown ∨ t.hallState h = .held ∨ t.hallState h = .selecting) := by
  have change := e.change_manualEvent st
  have a := e.confirmedFrom_manualEvent st
  obtain ⟨isOpen, number, latched, cause, conf, clock⟩ := a.incident
  obtain ⟨inhibited, attempted⟩ := a.hallState
  obtain ⟨counter, wait, -, -, -, required, low, high, withheld, -⟩ := a
  have own := s.hall_opened h
  by_cases quiet : s.hallState h = .quiet
  · have opened : s.opened h = s.openedFor h := if_pos quiet
    rw [if_pos quiet] at own
    rw [show (s.opened h).inc h = _ from congrArg Hall.inc own] at isOpen number latched
    rw [own] at clock
    rw [opened] at counter conf required low high withheld inhibited attempted
    rw [if_pos quiet, if_pos quiet, if_pos quiet]
    exact ⟨isOpen, number, latched, change, cause, conf, counter, wait, fun _ => clock, required, low, high,
      fun w => ⟨inhibited w, (withheld w).2.1⟩, attempted⟩
  · have opened : s.opened h = s := if_neg quiet
    rw [opened] at isOpen number latched counter conf required low high withheld inhibited attempted
    rw [if_neg quiet, if_neg quiet, if_neg quiet]
    exact ⟨isOpen, number, latched, change, cause, conf, counter, wait, fun k => absurd k quiet, required, low, high,
      fun w => ⟨inhibited w, (withheld w).2.1⟩, attempted⟩

/-! ## The release (R99) -/

theorem State.still_manualRelease (s : State) (h : HallId) : (s.manualRelease h).still = s.still := by
  rw [State.manualRelease_eq]
  split
  · exact State.still_countdownExpires _ h
  · rfl

/-- What an expiry keeps of the record, whether the hall waited or not. -/
theorem State.seen_countdownExpires (s : State) (h : HallId) :
    ((s.countdownExpires h).inc h).manualSeen = (s.inc h).manualSeen ∧
    ((s.countdownExpires h).inc h).flags.manualOverride = (s.inc h).flags.manualOverride := by
  have selected (u : State) : ((u.enterSelecting h).hall h).kept = (u.hall h).kept :=
    (congrArg Hall.kept (State.hall_enterSelecting_same u h)).trans rfl
  have kept : ((s.countdownExpires h).hall h).kept = (s.hall h).kept := by
    obtain ⟨-, -, e⟩ | ⟨-, -, -, e⟩ | ⟨-, e⟩ := State.countdownExpires_cases s h <;> rw [e]
    · exact selected s
    · exact (selected _).trans ((congrArg Hall.kept (State.hall_modHall_same s h _)).trans rfl)
    · refine (State.kept_reexamine _ h).trans ((congrArg Hall.kept (State.hall_enterWaiting _ h)).trans ?_)
      have returned : (((s.setCountdownSpent h).returnAll h).hall h).kept = ((s.setCountdownSpent h).hall h).kept :=
        (congrArg Hall.kept (State.hall_returnAll _ h)).trans rfl
      exact returned.trans ((congrArg Hall.kept (State.hall_modHall_same s h _)).trans rfl)
  exact ⟨congrArg (fun x => x.2.2.1) kept, congrArg (fun x => x.2.2.2) kept⟩

theorem State.seen_manualRelease (s : State) (h : HallId) :
    ((s.manualRelease h).inc h).manualSeen = true ∧ ((s.manualRelease h).inc h).flags.manualOverride = true := by
  have released (n : Nat) : (((s.setManualSeen h).releasedWith h n).inc h).manualSeen = true ∧
      (((s.setManualSeen h).releasedWith h n).inc h).flags.manualOverride = true := by
    have own := congrArg Hall.inc (State.hall_releasedWith (s.setManualSeen h) h n)
    exact ⟨(congrArg Incident.manualSeen own).trans (congrArg (fun x : Hall => x.inc.manualSeen) (s.hall_setManualSeen h)),
      congrArg (fun i : Incident => i.flags.manualOverride) own⟩
  rw [State.manualRelease_eq]
  split
  · rw [(State.seen_countdownExpires _ h).1, (State.seen_countdownExpires _ h).2]
    exact released 0
  · exact released _

/-- With tenths left a release leaves the hall in COUNTDOWN (R99). -/
theorem State.Event.manualRelease_left (e : State.Event s (s.manualRelease h) t)
    (left : 0 < s.manualRemaining h) :
    t.hallState h = .countdown ∧ (t.inc h).countdown = some (s.manualRemaining h) ∧ (t.hall h).stay = ⟨0, false⟩ ∧
    (t.inc h).holdUsed =
      (s.inc h).holdUsed + (if s.hallState h = .held ∧ (s.hall h).stay.ms < 100 then (s.hall h).stay.adds else 0) ∧
    t.inventoryPart = s.inventoryPart ∧ t.waitList = s.waitList := by
  rw [State.manualRelease_eq, if_neg (Nat.pos_iff_ne_zero.1 left)] at e
  obtain ⟨n, hall⟩ := e.hall_but_change h
  have seen : (s.setManualSeen h).hall h = _ := s.hall_setManualSeen h
  have own := State.hall_releasedWith (s.setManualSeen h) h (s.manualRemaining h)
  rw [show (s.setManualSeen h).inc h = _ from congrArg Hall.inc seen,
    show (s.setManualSeen h).hallState h = _ from congrArg (fun x : Hall => x.inc.state) seen, seen] at own
  rw [show ((s.setManualSeen h).releasedWith h (s.manualRemaining h)).inc h = _ from congrArg Hall.inc own, own] at hall
  have inc := congrArg Hall.inc hall
  exact ⟨congrArg Incident.state inc, congrArg Incident.countdown inc, congrArg Hall.stay hall,
    congrArg Incident.holdUsed inc, e.inventoryPart, e.waitList⟩

/-- What a manual event leaves of a countdown (R99). -/
theorem State.Event.manualEvent_counting (e : State.Event s (s.manualEvent h c) t)
    (st : s.hallState h = .countdown ∨ s.hallState h = .held) {n : Nat} (counting : (s.inc h).countdown = some n) :
    (t.inc h).flags.manualOverride = true ∧ t.confCounter = s.confCounter ∧
    (0 < min n (10 * s.manualReleaseDelay h) →
      t.hallState h = .countdown ∧ (t.inc h).countdown = some (min n (10 * s.manualReleaseDelay h)) ∧
      (t.hall h).stay = ⟨0, false⟩ ∧
      (t.inc h).holdUsed =
        (s.inc h).holdUsed +
          (if s.hallState h = .held ∧ (s.hall h).stay.ms < 100 ∧
              (0 < (s.hall h).stay.ms ∨ (s.hall h).stay.counted = false) then 1 else 0) ∧
      t.inventoryPart = s.inventoryPart ∧ t.waitList = s.waitList) := by
  rw [State.manualEvent_of_counting c st] at e
  obtain ⟨k, hall⟩ := e.hall_but_change h
  refine ⟨(congrArg (fun x : Hall => x.inc.flags.manualOverride) hall).trans (State.seen_manualRelease s h).2,
    e.confCounter.trans (State.confCounter_of_still (State.still_manualRelease s h)), fun left => ?_⟩
  have remaining : s.manualRemaining h = min n (10 * s.manualReleaseDelay h) := by
    rw [← State.manualRemaining_eq, State.remaining, counting]
    rfl
  rw [← remaining] at left ⊢
  obtain ⟨state, countdown, stay, used, inventory, waits⟩ := e.manualRelease_left left
  refine ⟨state, countdown, stay, used.trans ?_, inventory, waits⟩
  simp only [Stay.adds, ← ite_and, and_assoc]

/-! ## Manual seen and nothing more (R45) -/

theorem State.Event.setManualSeen (e : State.Event s (s.setManualSeen h) t) :
    t.hall h =
      { s.hall h with
        inc :=
          { s.inc h with
            manualSeen := true, change := (s.inc h).change + if (s.inc h).manualSeen = true then 0 else 1 } } := by
  have own := s.hall_setManualSeen h
  have inc : (s.setManualSeen h).inc h = _ := congrArg Hall.inc own
  cases seen : (s.inc h).manualSeen with
  | true =>
    have same : ({ s.inc h with manualSeen := true } : Incident) = s.inc h := by rw [← seen]
    rw [same] at own
    rw [e.hall_of_same own, if_pos rfl, add_zero, ← seen]
    rfl
  | false =>
    have changed : ¬ (s.inc h).content = ((s.setManualSeen h).inc h).content := fun k => by
      have k : (s.inc h).manualSeen = ((s.setManualSeen h).inc h).manualSeen := (congrArg Incident.manualSeen k :)
      exact absurd (seen.symm.trans (k.trans (congrArg Incident.manualSeen inc))) Bool.false_ne_true
    rw [e.hall_of_changed changed, inc, own]
    rfl

/-- A manual event is seen, whatever the hall's state (R45). -/
theorem State.Event.manualSeen (e : State.Event s (s.manualEvent h c) t) : (t.inc h).manualSeen = true := by
  by_cases confirming : s.hallState h = .quiet ∨ s.hallState h = .alert
  · obtain ⟨-, -, seen, -⟩ := e.confirmedFrom_manualEvent confirming
    exact seen.trans (congrArg (fun x : Hall => x.inc.manualSeen) (State.hall_setManualSeen _ h))
  · obtain ⟨n, hall⟩ := e.hall_but_change h
    refine (congrArg (fun x : Hall => x.inc.manualSeen) hall).trans ?_
    show ((s.manualEvent h c).inc h).manualSeen = true
    by_cases counting : s.hallState h = .countdown ∨ s.hallState h = .held
    · rw [State.manualEvent_of_counting c counting]
      exact (State.seen_manualRelease s h).1
    · rw [not_or] at confirming counting
      rw [State.manualEvent_of_other c ⟨confirming.1, confirming.2, counting⟩]
      exact congrArg (fun x : Hall => x.inc.manualSeen) (s.hall_setManualSeen h)

end

end Sys2Proof.Machine

open Sys2Proof Sys2Proof.Machine in
/-- Settles O46, by the hall's state on the state that the contact's change leaves: a confirmation, a release, or manual
seen alone. -/
theorem manualContactConfirmsOrReleases : Obligations.ManualContactConfirmsOrReleases := by
  intro h sample s sees
  obtain ⟨t, taken, event, outer, withheld⟩ := State.exec_of_manualContact sees
  have confined := State.Confined.of_manualEvent (s.sensing t) h .localManual
  obtain ⟨work, ports, -⟩ := State.kept_of_sensing outer
  have write : t.write = s.write := (congrArg State.write event.rest).trans confined.write
  have marks : t.markQueue = s.markQueue := (congrArg State.markQueue event.rest).trans confined.markQueue
  have store : t.storePart = s.storePart := by
    unfold State.storePart
    rw [State.nvPlan_of_outer outer, State.nvSpent_of_outer outer, State.overlay_of_outer outer, write, marks]
    rfl
  have confirming := event.manualEvent_confirming
  rw [withheld] at confirming
  have noted (n : ¬ s.hallState h = .quiet ∧ ¬ s.hallState h = .alert ∧ ¬ s.hallState h = .countdown ∧
      ¬ s.hallState h = .held) : State.Event (s.sensing t) ((s.sensing t).setManualSeen h) t :=
    State.manualEvent_of_other (s := s.sensing t) .localManual n ▸ event
  exact ⟨t, taken, event.manualSeen, fun g n k => event.hall_of_same (confined.others g (fun e => n e.symm) k), work,
    store, ports, confirming, fun st n counting => event.manualEvent_counting st counting, fun n =>
      ⟨(noted n).setManualSeen, (noted n).inventoryPart, (noted n).waitList, (noted n).confCounter,
        (congrArg State.driverPart (noted n).rest).trans rfl⟩⟩
end

section
/-! Zone alarms of a CYCLE at a QUIET hall (O50): what the report latches in the incident it opens (R43, R44), and the
cause with which the hall's rule confirms it (R46 to R49). -/

namespace Sys2Proof.Machine

/-! ## What a report latches in a new incident (R43) -/

/-- The zones in ALARM of a report, as an incident that opens with it latches them. -/
def firstLatched (reported : List Zone) : List Latched :=
  (reported.filter fun z => z.held == .alarm).map fun z => { zone := z.id, group := z.group, time := 0 }

theorem newlyLatched_nil {reported : List Zone} (few : reported.length ≤ 16) :
    newlyLatched 0 [] reported = firstLatched reported := by
  have room : (reported.filter fun z => z.held == .alarm).length ≤ 16 := (List.length_filter_le _ _).trans few
  unfold newlyLatched firstLatched
  simp only [List.all_nil, Bool.and_true, List.length_nil, Nat.sub_zero, List.take_of_length_le room]

theorem mem_firstLatched_iff (g : ZoneGroup) (reported : List Zone) :
    (∃ e, e ∈ firstLatched reported ∧ e.group = g) ↔ ∃ z, z ∈ reported ∧ z.held = .alarm ∧ z.group = g := by
  simp [firstLatched, and_assoc]

theorem any_alarm_iff (g : ZoneGroup) (reported : List Zone) :
    (reported.any fun z => z.held == .alarm && z.group == g) = true ↔
      ∃ e, e ∈ firstLatched reported ∧ e.group = g := by
  rw [mem_firstLatched_iff]
  simp

theorem length_double (reported : List Zone) :
    ((firstLatched reported).filter fun e => e.group == .a || e.group == .b).length =
      (reported.filter fun z => z.held == .alarm && (z.group == .a || z.group == .b)).length := by
  unfold firstLatched
  rw [List.filter_map, List.length_map, List.filter_filter]
  exact congrArg List.length (List.filter_congr fun z _ => Bool.and_comm _ _)

theorem all_fault_iff (g : ZoneGroup) (reported : List Zone) :
    (reported.all fun z => !(z.group == g) || z.held == .fault) = true ↔ unavailable g reported := by
  simp [unavailable, imp_iff_not_or]

/-- A group with a zone in ALARM is not unavailable. -/
theorem not_unavailable_of_latched {g : ZoneGroup} {reported : List Zone}
    (some : ∃ e, e ∈ firstLatched reported ∧ e.group = g) : ¬ unavailable g reported := by
  obtain ⟨z, declared, alarm, group⟩ := (mem_firstLatched_iff g reported).1 some
  intro all
  rw [all z declared group] at alarm
  cases alarm

/-! ## The cause (R46 to R48) -/

/-- The cause with which the zones of a report confirm the incident that they open. -/
def HallPlan.alarmCause (p : HallPlan) (reported : List Zone) : Option Cause :=
  match p.rule with
  | .double =>
    if 2 ≤ (reported.filter fun z => z.held == .alarm && (z.group == .a || z.group == .b)).length then
      some .double
    else none
  | .cross =>
    if (reported.any fun z => z.held == .alarm && z.group == .a) = true ∧
        (reported.any fun z => z.held == .alarm && z.group == .b) = true then some .cross
    else if p.fallback = true ∧
        (((reported.any fun z => z.held == .alarm && z.group == .a) = true ∧
            (reported.all fun z => !(z.group == .b) || z.held == .fault) = true) ∨
          ((reported.any fun z => z.held == .alarm && z.group == .b) = true ∧
            (reported.all fun z => !(z.group == .a) || z.held == .fault) = true)) then some .fallback
    else none

theorem alarms_cross_iff (reported : List Zone) :
    ((reported.any fun z => z.held == .alarm && z.group == .a) = true ∧
      (reported.any fun z => z.held == .alarm && z.group == .b) = true) ↔
      (∃ e, e ∈ firstLatched reported ∧ e.group = .a) ∧ ∃ e, e ∈ firstLatched reported ∧ e.group = .b :=
  and_congr (any_alarm_iff .a reported) (any_alarm_iff .b reported)

/-- One entry where the other group alone is unavailable: the group of the entry cannot be. -/
theorem alarms_fallback_iff (reported : List Zone) :
    (((reported.any fun z => z.held == .alarm && z.group == .a) = true ∧
        (reported.all fun z => !(z.group == .b) || z.held == .fault) = true) ∨
      ((reported.any fun z => z.held == .alarm && z.group == .b) = true ∧
        (reported.all fun z => !(z.group == .a) || z.held == .fault) = true)) ↔
      ((∃ e, e ∈ firstLatched reported ∧ e.group = .a) ∧ unavailable .b reported ∧ ¬ unavailable .a reported) ∨
      ((∃ e, e ∈ firstLatched reported ∧ e.group = .b) ∧ unavailable .a reported ∧ ¬ unavailable .b reported) := by
  have one (g k : ZoneGroup) :
      ((reported.any fun z => z.held == .alarm && z.group == g) = true ∧
        (reported.all fun z => !(z.group == k) || z.held == .fault) = true) ↔
        (∃ e, e ∈ firstLatched reported ∧ e.group = g) ∧ unavailable k reported ∧ ¬ unavailable g reported := by
    rw [any_alarm_iff, all_fault_iff]
    exact and_congr_right fun latched => (and_iff_left (not_unavailable_of_latched latched)).symm
  exact or_congr (one .a .b) (one .b .a)

theorem HallPlan.alarmCause_iff (p : HallPlan) (reported : List Zone) (c : Cause) :
    p.alarmCause reported = some c ↔ p.confirmsBy reported (firstLatched reported) c := by
  unfold HallPlan.alarmCause
  cases rule : p.rule with
  | double =>
    dsimp only
    rw [← length_double]
    split <;> rename_i two <;> cases c <;> simp [HallPlan.confirmsBy, rule, two]
  | cross =>
    have cross := alarms_cross_iff reported
    have fallback := alarms_fallback_iff reported
    dsimp only
    by_cases both : (∃ e, e ∈ firstLatched reported ∧ e.group = .a) ∧ ∃ e, e ∈ firstLatched reported ∧ e.group = .b
    · rw [if_pos (cross.2 both)]
      cases c <;> simp [HallPlan.confirmsBy, rule, both]
    · rw [if_neg fun k => both (cross.1 k)]
      split
      · rename_i met
        cases c with
        | fallback => exact iff_of_true rfl ⟨rule, met.1, both, fallback.1 met.2⟩
        | _ => simp [HallPlan.confirmsBy, rule, both]
      · rename_i unmet
        cases c with
        | fallback => exact iff_of_false (by simp) fun ⟨_, on, _, one⟩ => unmet ⟨on, fallback.2 one⟩
        | _ => simp [HallPlan.confirmsBy, rule, both]

/-! ## The incident that a report opens (R44, R49, R50) -/

/-- The state with hall `h`'s incident opened and the zones in ALARM of its first report latched. -/
def State.openedWith (s : State) (h : HallId) (reported : List Zone) : State :=
  (s.openedFor h).withLatched h (firstLatched reported)

theorem State.latchedNow_openedFor (s : State) (h : HallId) {reported : List Zone} (few : reported.length ≤ 16) :
    (s.openedFor h).latchedNow h reported = firstLatched reported := by
  have own : (s.openedFor h).hall h = _ := PerHall.get_set_same _ _ _
  rw [State.latchedNow_eq, own, show (s.openedFor h).inc h = _ from congrArg Hall.inc own]
  exact newlyLatched_nil few

theorem State.hall_openedWith (s : State) (h : HallId) (reported : List Zone) :
    (s.openedWith h reported).hall h =
      { inc :=
          { Incident.empty with
            number := (s.inc h).number + 1, change := (s.inc h).change, isOpen := true, state := .alert
            latched := firstLatched reported
            manualSeen := (firstLatched reported).any fun e => e.group == .manual }
        clock := ⟨0, 0⟩, wait := none, stay := ⟨0, false⟩, discharge := none } := by
  have own : (s.openedFor h).hall h = _ := PerHall.get_set_same _ _ _
  refine (State.hall_withLatched (s.openedFor h) h _).trans ?_
  rw [own, show (s.openedFor h).inc h = _ from congrArg Hall.inc own]
  rfl

section
variable {s t : State} {h : HallId} {before : Bool} {reported : List Zone}

theorem State.reportTakenFrom.opening (a : (s.openedFor h).reportTakenFrom t h before reported)
    (few : reported.length ≤ 16) :
    ((∃ z, z ∈ reported ∧ z.held = .alarm ∧ z.group = .manual) →
      (s.openedWith h reported).confirmedFrom t h .panelManual) ∧
    ((∀ z, z ∈ reported → z.held = .alarm → ¬ z.group = .manual) →
      (∀ c, (s.hallPlan h).alarmCause reported = some c → (s.openedWith h reported).confirmedFrom t h c) ∧
      ((s.hallPlan h).alarmCause reported = none →
        (s.openedWith h reported).hallAsIn t h ∧ t.confCounter = s.confCounter)) := by
  obtain ⟨manual, zone⟩ := a.1 (State.hallState_openedFor s h)
  rw [State.latchedNow_openedFor s h few] at manual zone
  have latched : ((s.openedWith h reported).inc h).latched = firstLatched reported :=
    congrArg (fun x : Hall => x.inc.latched) (s.hall_openedWith h reported)
  refine ⟨fun k => manual ((mem_firstLatched_iff .manual reported).2 k), fun k => ?_⟩
  obtain ⟨confirms, idle⟩ := zone fun e new group => by
    obtain ⟨z, declared, alarm, same⟩ := (mem_firstLatched_iff .manual reported).1 ⟨e, new, group⟩
    exact k z declared alarm same
  rw [show ((s.openedFor h).withLatched h (firstLatched reported)).inc h = (s.openedWith h reported).inc h from rfl,
    latched] at confirms idle
  refine ⟨fun c e => confirms c (((s.hallPlan h).alarmCause_iff reported c).1 e), fun e => ?_⟩
  obtain ⟨own, counter, -⟩ := idle fun c met => by
    rw [show (s.hallPlan h).alarmCause reported = some c from ((s.hallPlan h).alarmCause_iff reported c).2 met] at e
    cases e
  exact ⟨own, counter⟩

/-- What a confirmation at the opening leaves of the record (R44, R49, R50). -/
theorem State.confirmedFrom.opened {c : Cause} (a : (s.openedWith h reported).confirmedFrom t h c) :
    (t.inc h).isOpen = true ∧ (t.inc h).number = (s.inc h).number + 1 ∧ (t.inc h).latched = firstLatched reported ∧
    (t.inc h).cause = some c ∧ (t.inc h).confNumber = some s.confCounter ∧ (t.hall h).clock = ⟨0, 0⟩ := by
  have own := s.hall_openedWith h reported
  have record := a.record
  rw [show (s.openedWith h reported).inc h = _ from congrArg Hall.inc own, own] at record
  exact record

/-- What an opening without a confirmation leaves of the record (R44). -/
theorem State.hallAsIn.opened (a : (s.openedWith h reported).hallAsIn t h) :
    (t.inc h).isOpen = true ∧ (t.inc h).number = (s.inc h).number + 1 ∧ (t.inc h).latched = firstLatched reported ∧
    (t.inc h).cause = none ∧ (t.inc h).confNumber = none ∧ (t.hall h).clock = ⟨0, 0⟩ ∧ t.hallState h = .alert ∧
    (t.inc h).required = none ∧ (t.hall h).wait = none := by
  have own := s.hall_openedWith h reported
  unfold State.hallAsIn at a
  rw [show (s.openedWith h reported).inc h = _ from congrArg Hall.inc own, own] at a
  have inc := congrArg Hall.inc a
  exact ⟨congrArg Incident.isOpen inc, congrArg Incident.number inc, congrArg Incident.latched inc,
    congrArg Incident.cause inc, congrArg Incident.confNumber inc, congrArg Hall.clock a, congrArg Incident.state inc,
    congrArg Incident.required inc, congrArg Hall.wait a⟩

theorem State.computeRequired_congr (work : t.work = s.work) (links : t.links = s.links) (h : HallId) :
    t.computeRequired h = s.computeRequired h := by
  unfold State.computeRequired State.chooseLow State.usableLow State.volumeAt State.hallPlan State.link
  rw [work, links]

/-- Where the state moved, so did the change number (R63). -/
theorem Incident.change_of_state {a b : Incident} (e : b.change = a.change + if b.content = a.content then 0 else 1)
    (n : ¬ b.state = a.state) : b.change = a.change + 1 := by
  have moved : ¬ b.content = a.content := fun k => n (congrArg Incident.state k :)
  rwa [if_neg moved] at e

/-- A confirmation at the opening of an incident, for the hall as it stands then (R49, R50, R66). -/
theorem State.confirmedFrom.attempted {c : Cause} (a : (s.openedWith h reported).confirmedFrom t h c)
    (work : t.work = s.work) (links : t.links = s.links) :
    t.confCounter = (if s.confCounter < 4294967295 then s.confCounter + 1 else s.confCounter) ∧
    (t.hall h).wait = some ⟨0, 0, false⟩ ∧ (t.inc h).required = some (t.computeRequired h) ∧
    (s.withheld h = true → t.hallState h = .inhibited) ∧
    (s.withheld h = false →
      t.hallState h = .waiting ∨ t.hallState h = .countdown ∨ t.hallState h = .held ∨ t.hallState h = .selecting) := by
  obtain ⟨inhibited, attempted⟩ := a.hallState
  obtain ⟨counter, wait, -, -, -, required, -⟩ := a
  rw [State.computeRequired_congr (s := s.openedWith h reported) work links]
  exact ⟨counter, wait, required, inhibited, attempted⟩

end

end Sys2Proof.Machine

open Sys2Proof Sys2Proof.Machine in
/-- Settles O50, from O15 for a CYCLE without hold and temperatures: the incident it opens is confirmed by a manual zone
or by the cause of R46 to R48 that `HallPlan.alarmCause` spells out. -/
theorem cycleOpensAndConfirms : Obligations.CycleOpensAndConfirms := by
  intro h seq zones reported states s ready running declared count few once quiet report
  have short : reported.length ≤ 16 := by
    rw [report, List.length_zipWith]
    omega
  obtain ⟨t, taken, links, -, -, -, -, work, -, -, -, change, calm, opens⟩ := cycleIsAccepted h seq zones reported states false none
    none s ready running declared count few report (by simp) (by simp)
  obtain ⟨opening, -⟩ := opens once
  have opened (z : Zone) (k : z ∈ reported) (alarm : z.held = .alarm) (group : ¬ z.group = .advisory) :=
    (opening quiet ⟨z, k, alarm, group⟩).opening short
  refine ⟨t, taken, fun none => ?_, fun ⟨z, k, alarm, group⟩ => ?_, fun ⟨z, k, alarm, group⟩ unseen => ?_⟩
  · obtain ⟨halls, -⟩ := calm quiet none
    exact ⟨State.hall_of_halls (congrArg (fun x => x.1) halls) h, congrArg (fun x => x.2.1) halls⟩
  · have confirmed := (opened z k alarm (by simp [group])).1 ⟨z, k, alarm, group⟩
    obtain ⟨isOpen, number, -, cause, conf, -⟩ := confirmed.opened
    obtain ⟨-, -, seen, -⟩ := confirmed
    have manual : ((firstLatched reported).any fun e => e.group == .manual) = true :=
      (hasGroup_iff _ _).2 ((mem_firstLatched_iff .manual reported).2 ⟨z, k, alarm, group⟩)
    exact ⟨isOpen, number,
      seen.trans ((congrArg (fun x : Hall => x.inc.manualSeen) (State.hall_openedWith _ h reported)).trans manual), cause,
      conf⟩
  · obtain ⟨confirms, idle⟩ := (opened z k alarm (by rcases group with g | g <;> simp [g])).2 unseen
    have advanced (n : ¬ t.hallState h = .quiet) := Incident.change_of_state change fun k => n (k.trans quiet)
    cases found : (s.hallPlan h).alarmCause reported with
    | none =>
      obtain ⟨own, counter⟩ := idle found
      obtain ⟨isOpen, number, latched, cause, conf, clock, state, required, wait⟩ := own.opened
      exact ⟨isOpen, number, advanced (by simp [state]), clock, latched, none, found.symm, cause,
        fun _ => ⟨state, conf, counter, required, wait⟩, fun n => absurd rfl n⟩
    | some c =>
      have confirmed := confirms c found
      obtain ⟨isOpen, number, latched, cause, conf, clock⟩ := confirmed.opened
      exact ⟨isOpen, number, advanced confirmed.left.1, clock, latched, some c, found.symm, cause, fun n => (by cases n),
        fun _ => ⟨conf, confirmed.attempted work rfl⟩⟩
end
